-- ==== Sys2Proof/Word.lean ====
section
/-!
DEFINITION. Bytes, saturating arithmetic (Introduction, section 6.2) and banks: a fixed number of like things.
-/

namespace Sys2Proof

/-- One byte of a frame. -/
abbrev Byte := BitVec 8

/-- One of the twelve bays (Introduction, section 1). -/
abbrev BayId := Fin 12

/-- One of the seven fire zones (Table 8-1). -/
abbrev ZoneId := Fin 7

/-- One of the eight chemistry classes (chapter 9, section 9.2). -/
abbrev ClassId := Fin 8

/-- One of the 256 record slots (R1). -/
abbrev Slot := Fin 256

/-- A sensor address that a detector may have (R177): 0 to 27. -/
abbrev DetId := Fin 28

/-- An operand that may be absent: its presence byte and its field as sent (R181). -/
structure MaybeSent where
  given : Nat
  value : Nat
deriving DecidableEq, Repr

/-- An increase that saturates at `bound` (Introduction, section 6.2). -/
def satAdd (bound a b : Nat) : Nat := min bound (a + b)

/-- The upper bound of a tally (Introduction, section 6.2). -/
def tallyMax : Nat := 4294967295

/-- The upper bound of the counters of a bay channel and of the overrun counts (R49, R185). -/
def countMax : Nat := 65535

/-- `n` like items, numbered 0 to `n` − 1. -/
abbrev Bank (α : Type) (n : Nat) := { l : List α // l.length = n }

variable {α : Type} {n : Nat}

/-- The bank that holds `a` in every place. -/
def Bank.fill (n : Nat) (a : α) : Bank α n := ⟨List.replicate n a, List.length_replicate⟩

/-- The item in place `i`. -/
def Bank.get (b : Bank α n) (i : Fin n) : α := b.1[i.1]'(by rw [b.2]; exact i.2)

/-- The bank with `a` put in place `i`. -/
def Bank.set (b : Bank α n) (i : Fin n) (a : α) : Bank α n :=
  ⟨b.1.set i.1 a, by rw [List.length_set]; exact b.2⟩

/-- The bank with `f` applied in every place. -/
def Bank.map {β : Type} (f : α → β) (b : Bank α n) : Bank β n :=
  ⟨b.1.map f, by rw [List.length_map]; exact b.2⟩

/-- The lowest place whose item satisfies `p`. -/
def Bank.find (p : α → Bool) (b : Bank α n) : Option (Fin n) :=
  if h : b.1.findIdx p < n then some ⟨b.1.findIdx p, h⟩ else none

/-- The number of places whose item satisfies `p`. -/
def Bank.count (p : α → Bool) (b : Bank α n) : Nat := b.1.countP p

/-- Every place of a bank, in ascending order. -/
def Bank.places (n : Nat) : List (Fin n) := List.finRange n

end Sys2Proof
end

