-- ==== Sys2Proof/Syntax.lean ====
section
/-!
DEFINITION. The commands of the W412: one constructor for each row of spec/opcode_table.json.

A port request carries its port and the operands its rule names, in that order, as the numbers its frame carries
(R181): an enumerated operand is its code. The other rows carry what the event brings to the part.
-/

namespace Sys2Proof

/-- The two ports of the part (chapter 10). The ports number as in Table 10-3: 0 LINE, 1 PLANT. -/
inductive Port
  | line
  | plant
deriving DecidableEq, Repr

/-- The two oxygen analysers, at sensor addresses 30 and 31 (section 6.3). -/
inductive Analyser
  | a
  | b
deriving DecidableEq, Repr

/-- A command: one row of the table of operations and events. -/
inductive Instr
  /-- STATUS (R191). -/
  | status (p : Port)
  /-- GET_ATTENTION (R190). -/
  | getAttention (p : Port)
  /-- SET_ATTENTION_MASK (R189); bit 0 BAY to bit 5 RESTART. -/
  | setAttentionMask (p : Port) (mask : Nat)
  /-- LOCK_TABLE (R36). -/
  | lockTable (p : Port)
  /-- UNLOCK_TABLE (R38). -/
  | unlockTable (p : Port)
  /-- SET_ACCESS (R44): window base and count, the permissions of the Line and the Plant Port, the two field masks. -/
  | setAccess (p : Port) (base count linePerm plantPerm lineMask plantMask : Nat)
  /-- REGISTER (R14). -/
  | register (p : Port) (tag cls cells capacity declared mass damaged : Nat)
  /-- READ_RECORD (R10). -/
  | readRecord (p : Port) (slot : Nat)
  /-- FIND (R11). -/
  | find (p : Port) (tag : Nat)
  /-- SCAN (R12). -/
  | scan (p : Port) (stage start : Nat)
  /-- AMEND (R16): the selector's kind (0 tag, 1 slot) and number, the field and the value. -/
  | amend (p : Port) (kind selector field value : Nat)
  /-- RETIRE (R17). -/
  | retire (p : Port) (tag : Nat)
  /-- QUARANTINE (R18). -/
  | quarantine (p : Port) (tag : Nat)
  /-- LIFT_QUARANTINE (R19). -/
  | liftQuarantine (p : Port) (tag : Nat)
  /-- CONFIRM_SHRED (R21, R22): outcome 0 SHREDDED, 1 RECOVERED. -/
  | confirmShred (p : Port) (tag outcome : Nat)
  /-- READ_TALLIES (R26). -/
  | readTallies (p : Port)
  /-- RESET_TALLIES (R27). -/
  | resetTallies (p : Port)
  /-- ASSIGN_BAY (R65, R66). -/
  | assignBay (p : Port) (tag bay : Nat)
  /-- ABORT_BAY (R67). -/
  | abortBay (p : Port) (bay : Nat)
  /-- SET_SOFT_STOP (R68): value 0 ASSERT, 1 RELEASE. -/
  | setSoftStop (p : Port) (bay value : Nat)
  /-- SET_LEVEL_CAP (R69). -/
  | setLevelCap (p : Port) (bay cap : Nat)
  /-- CLEAR_FAULT (R113, R114). -/
  | clearFault (p : Port) (bay : Nat)
  /-- READ_BAY (R70). -/
  | readBay (p : Port) (bay : Nat)
  /-- PURGE (R121). -/
  | purge (p : Port)
  /-- STOP_CHAMBER (R126). -/
  | stopChamber (p : Port)
  /-- READ_CHAMBER (R133). -/
  | readChamber (p : Port)
  /-- ENQUEUE (R137). -/
  | enqueue (p : Port) (tag : Nat)
  /-- WITHDRAW (R138). -/
  | withdraw (p : Port) (tag : Nat)
  /-- RESUME_FEED (R150). -/
  | resumeFeed (p : Port)
  /-- READ_QUEUE (R152). -/
  | readQueue (p : Port)
  /-- CLEAR_ALARM (R168). -/
  | clearAlarm (p : Port) (zone : Nat)
  /-- READ_ZONE (R170). -/
  | readZone (p : Port) (zone : Nat)
  /-- SET_CLASS (R174): the class and the seven settings of Table 9-1. -/
  | setClass (p : Port) (cls cRate endV safeV permille warnT shutT restSec : Nat)
  /-- SET_BAY_CONFIG (R175): the bay and the seven settings of Table 9-2. -/
  | setBayConfig (p : Port) (bay rating cap toff nOpen mode combine retrySec : Nat)
  /-- SET_ZONE_CONFIG (R176): the zone and the seven settings of Table 9-3. -/
  | setZoneConfig (p : Port) (zone : Nat) (heatWarn heatAlarm : Int) (heatHyst gasWarn gasAlarm gasHyst w : Nat)
  /-- SET_DETECTOR_MAP (R177): the address, whether it is given a zone (1) or UNUSED (0), the zone and the kind. -/
  | setDetectorMap (p : Port) (address used zone kind : Nat)
  /-- SET_CHAMBER_CONFIG (R178): the five settings of Table 6-1. -/
  | setChamberConfig (p : Port) (admitLevel abort tolerance confirmSec purgeSec : Nat)
  /-- SET_TIMING (R179): the five settings of Table 9-4; `none` is UNCHANGED. -/
  | setTiming (p : Port) (link lockMs rebound gateSec shredSec : Option Nat)
  /-- READ_SETTING (R180): the group 0 CLASS to 6 ACCESS, and the index, which may be absent. -/
  | readSetting (p : Port) (group : Nat) (index : MaybeSent)
  /-- FRAME_ERROR (R182): the bytes of the frame as taken, from its sync byte. -/
  | frameError (p : Port) (bytes : List Byte)
  /-- UNKNOWN_REQUEST (R182): the bytes of the frame, from its sync byte. -/
  | unknownRequest (p : Port) (bytes : List Byte)
  /-- OVERRUN (R185): a frame begins on a port that has a request in flight. -/
  | overrun (p : Port)
  /-- CHIP_SELECT_RISE (R183): the bytes of the frame not complete at the rise, from its sync byte (none: empty), and
  whether a part of the ready answer has been clocked out in the transaction. -/
  | chipSelectRise (cut : List Byte) (answerBegun : Bool)
  /-- PLANT_BYTE_GAP_TIMEOUT (R184): the bytes of the frame cut short, from its sync byte. -/
  | plantByteGapTimeout (bytes : List Byte)
  /-- ANSWER_SENT (R187). -/
  | answerSent (p : Port)
  /-- LOCK_HOLD_EXPIRY (R39). -/
  | lockHoldExpiry
  /-- ENERGY_CARRY (R23). -/
  | energyCarry (b : BayId)
  /-- HAZARD_FLAG_WRITE (R23). -/
  | hazardFlagWrite (b : BayId)
  /-- STAGE_CHANGE_WRITE (R8). -/
  | stageChangeWrite (b : BayId)
  /-- UNBINDING_GRANT (R64). -/
  | unbindingGrant (b : BayId)
  /-- ADMISSION_WRITE (R140). -/
  | admissionWrite
  /-- PASS_WRITE (R142). -/
  | passWrite
  /-- UNEXPECTED_PASS_WRITE (R144). -/
  | unexpectedPassWrite
  /-- RETURN_WRITE (R146). -/
  | returnWrite
  /-- RETIREMENT_WRITE (R147). -/
  | retirementWrite
  /-- SHRED_UNCONFIRMED_WRITE (R148). -/
  | shredUnconfirmedWrite
  /-- QUARANTINE_SWEEP (R165). -/
  | quarantineSweep
  /-- SAMPLE_FRAME (R78): the link and the bytes received on it. -/
  | sampleFrame (b : BayId) (bytes : List Byte)
  /-- LINK_TIMEOUT (R61). -/
  | linkTimeout (b : BayId)
  /-- HOLD_OFF_EXPIRY (R91). -/
  | holdOffExpiry (b : BayId)
  /-- REST_END (R96). -/
  | restEnd (b : BayId)
  /-- RETRY_WAIT_ELAPSED (R110). -/
  | retryWaitElapsed (b : BayId)
  /-- STOP_LINE_CHANGE (R52): the level the line takes. -/
  | stopLineChange (b : BayId) (high : Bool)
  /-- SENSOR_FRAME (R192): the bytes received on the sensor link. -/
  | sensorFrame (bytes : List Byte)
  /-- ANALYSER_FRESHNESS_LAPSE (R118). -/
  | analyserFreshnessLapse (which : Analyser)
  /-- DETECTOR_FRESHNESS_LAPSE (R157). -/
  | detectorFreshnessLapse (d : DetId)
  /-- FLAME_SCAN (R160): the levels found on FLAME0 to FLAME6, FLAME0 in bit 0. -/
  | flameScan (levels : BitVec 7)
  /-- CONFIRM_TIME_ELAPSED (R122). -/
  | confirmTimeElapsed
  /-- PURGE_TIMEOUT (R123). -/
  | purgeTimeout
  /-- DOOR_CLOSED_CHANGE (R120): the level the line takes. -/
  | doorClosedChange (closed : Bool)
  /-- GATE_PASS (R142, R127): a rising edge. -/
  | gatePass
  /-- THROAT_EMPTY (R147, R127): a rising edge. -/
  | throatEmpty
  /-- THROAT_EMPTY_DEASSERT (R139). -/
  | throatEmptyDeassert
  /-- GATE_TIMEOUT (R146). -/
  | gateTimeout
  /-- SHRED_TIMEOUT (R148). -/
  | shredTimeout
  /-- RETURN_WINDOW_END (R145). -/
  | returnWindowEnd
  /-- PLANT_PERMIT_CHANGE (R131): the level the line takes. -/
  | plantPermitChange (asserted : Bool)
  /-- VDD_LOSS (R194). -/
  | vddLoss
  /-- RETENTION_LOSS (R195). -/
  | retentionLoss
  /-- POWER_UP (R195). -/
  | powerUp
  /-- RESET_ASSERT (R196). -/
  | resetAssert
  /-- RESET_RELEASE (R196). -/
  | resetRelease
  /-- START_END (R197). -/
  | startEnd
deriving DecidableEq, Repr

end Sys2Proof
end

