-- ==== Sys2Proof/WellFormed.lean ====
section
/-!
DEFINITION. Well-formed commands: every operand of a port request fits the field its frame carries it in (R181).
-/

namespace Sys2Proof

/-- One operand of a request frame (R181), with the width of its field in bytes. -/
inductive Operand
  /-- An unsigned number, an enumerated operand or a set. -/
  | num (width value : Nat)
  /-- A signed number, in two's complement. -/
  | int (width : Nat) (value : Int)
  /-- An operand of SET_TIMING: a number, or UNCHANGED, which is sent with every bit of the field set. -/
  | opt (width : Nat) (value : Option Nat)
deriving DecidableEq, Repr

/-- The number of values of a field of `width` bytes. -/
def fieldSize (width : Nat) : Nat := 256 ^ width

/-- The operand fits its field. -/
def Operand.fits : Operand → Bool
  | .num w v => decide (v < fieldSize w)
  | .int w v => decide (-(fieldSize w / 2 : Nat) ≤ v) && decide (v < (fieldSize w / 2 : Nat))
  | .opt w (some v) => decide (v < fieldSize w - 1)
  | .opt _ none => true

/-- The request code (Table 10-4) and the operands of a port request in the order its rule names them (R181);
`none` for a row that is no port request. Widths: the smallest whole number of bytes that holds the range. -/
def Instr.frame : Instr → Option (Nat × List Operand)
  | .status _ => some (0x01, [])
  | .getAttention _ => some (0x02, [])
  | .setAttentionMask _ mask => some (0x03, [.num 1 mask])
  | .lockTable _ => some (0x04, [])
  | .unlockTable _ => some (0x05, [])
  | .setAccess _ base count lp pp lm pm =>
    some (0x06, [.num 1 base, .num 1 count, .num 1 lp, .num 1 pp, .num 1 lm, .num 1 pm])
  | .register _ tag cls cells capacity declared mass damaged =>
    some (0x10, [.num 6 tag, .num 1 cls, .num 1 cells, .num 2 capacity, .num 3 declared, .num 2 mass, .num 1 damaged])
  | .readRecord _ slot => some (0x11, [.num 1 slot])
  | .find _ tag => some (0x12, [.num 6 tag])
  | .scan _ stage start => some (0x13, [.num 1 stage, .num 1 start])
  -- DESIGN CHOICE (log entry 6): the selector is one byte for its kind and six for its number; the value takes three.
  | .amend _ kind selector field value => some (0x14, [.num 1 kind, .num 6 selector, .num 1 field, .num 3 value])
  | .retire _ tag => some (0x15, [.num 6 tag])
  | .quarantine _ tag => some (0x16, [.num 6 tag])
  | .liftQuarantine _ tag => some (0x17, [.num 6 tag])
  | .confirmShred _ tag outcome => some (0x18, [.num 6 tag, .num 1 outcome])
  | .readTallies _ => some (0x19, [])
  | .resetTallies _ => some (0x1A, [])
  | .assignBay _ tag bay => some (0x20, [.num 6 tag, .num 1 bay])
  | .abortBay _ bay => some (0x21, [.num 1 bay])
  | .setSoftStop _ bay value => some (0x22, [.num 1 bay, .num 1 value])
  | .setLevelCap _ bay cap => some (0x23, [.num 1 bay, .num 1 cap])
  | .clearFault _ bay => some (0x24, [.num 1 bay])
  | .readBay _ bay => some (0x25, [.num 1 bay])
  | .purge _ => some (0x30, [])
  | .stopChamber _ => some (0x31, [])
  | .readChamber _ => some (0x32, [])
  | .enqueue _ tag => some (0x38, [.num 6 tag])
  | .withdraw _ tag => some (0x39, [.num 6 tag])
  | .resumeFeed _ => some (0x3A, [])
  | .readQueue _ => some (0x3B, [])
  | .clearAlarm _ zone => some (0x40, [.num 1 zone])
  | .readZone _ zone => some (0x41, [.num 1 zone])
  | .setClass _ cls c ev sv p wt st rest =>
    some (0x50, [.num 1 cls, .num 1 c, .num 2 ev, .num 2 sv, .num 1 p, .num 1 wt, .num 1 st, .num 2 rest])
  | .setBayConfig _ bay rating cap toff n mode combine retry =>
    some (0x51, [.num 1 bay, .num 2 rating, .num 1 cap, .num 1 toff, .num 2 n, .num 1 mode, .num 1 combine, .num 1 retry])
  | .setZoneConfig _ zone hw ha hh gw ga gh w =>
    some (0x52, [.num 1 zone, .int 2 hw, .int 2 ha, .num 1 hh, .num 2 gw, .num 2 ga, .num 2 gh, .num 1 w])
  -- DEDUCED (log entry 6): UNUSED is an item that is absent, so a presence byte stands before the zone and the kind.
  | .setDetectorMap _ address used zone kind =>
    some (0x53, [.num 1 address, .num 1 used, .num 1 zone, .num 1 kind])
  | .setChamberConfig _ admitLevel abort tol cs ps =>
    some (0x54, [.num 2 admitLevel, .num 2 abort, .num 2 tol, .num 1 cs, .num 2 ps])
  | .setTiming _ link lockMs rebound gate shred =>
    some (0x55, [.opt 1 link, .opt 2 lockMs, .opt 1 rebound, .opt 1 gate, .opt 2 shred])
  -- The index may be absent (R180, R45): a presence byte stands before it (R181).
  | .readSetting _ group index => some (0x56, [.num 1 group, .num 1 index.given, .num 1 index.value])
  | _ => none

/-- The port of a port request or of a port's frame event. -/
def Instr.port : Instr → Option Port
  | .status p | .getAttention p | .setAttentionMask p _ | .lockTable p | .unlockTable p | .setAccess p _ _ _ _ _ _
  | .register p _ _ _ _ _ _ _ | .readRecord p _ | .find p _ | .scan p _ _ | .amend p _ _ _ _ | .retire p _
  | .quarantine p _ | .liftQuarantine p _ | .confirmShred p _ _ | .readTallies p | .resetTallies p
  | .assignBay p _ _ | .abortBay p _ | .setSoftStop p _ _ | .setLevelCap p _ _ | .clearFault p _ | .readBay p _
  | .purge p | .stopChamber p | .readChamber p | .enqueue p _ | .withdraw p _ | .resumeFeed p | .readQueue p
  | .clearAlarm p _ | .readZone p _ | .setClass p _ _ _ _ _ _ _ _ | .setBayConfig p _ _ _ _ _ _ _ _
  | .setZoneConfig p _ _ _ _ _ _ _ _ | .setDetectorMap p _ _ _ _ | .setChamberConfig p _ _ _ _ _
  | .setTiming p _ _ _ _ _ | .readSetting p _ _ | .frameError p _ | .unknownRequest p _ | .overrun p
  | .answerSent p => some p
  | .chipSelectRise _ _ => some .line
  | .plantByteGapTimeout _ => some .plant
  | _ => none

/-- The command is a port request (Table 10-4). -/
def Instr.isRequest (i : Instr) : Bool := i.frame.isSome

/-- A well-formed command: each operand of a port request fits its field. The other rows carry bytes, levels and
numbers whose types bound them already. -/
def Instr.wf (i : Instr) : Bool :=
  match i.frame with
  | some (_, ops) => ops.all Operand.fits
  | none => true

/-- The request code a request's answer echoes (R186); 0 for a row that is no request. -/
def Instr.code (i : Instr) : Nat :=
  match i.frame with
  | some (c, _) => c
  | none => 0

end Sys2Proof
end

