-- ==== Sys2Proof/Decode.lean ====
section
/-!
DEFINITION. Words and frames. The opcode table gives no row any bits, so no word spells a command. The request frames
of chapter 10 are read (R181, R182) and written here, with the CRC of R193.
-/

namespace Sys2Proof

/-- No row of spec/opcode_table.json carries bits: a word spells no command. -/
def decodeTableWord (_nbits _w : Nat) : Option Instr := none

/-! ### Bytes and the CRC (R193) -/

/-- One bit of the CRC of R193: polynomial x¹⁶ + x¹² + x⁵ + 1, most significant bit first. -/
def crcBit (crc : BitVec 16) : BitVec 16 :=
  if crc.msb then (crc <<< 1) ^^^ 0x1021 else crc <<< 1

/-- One byte of the CRC of R193. -/
def crcByte (crc : BitVec 16) (b : Byte) : BitVec 16 :=
  crcBit (crcBit (crcBit (crcBit (crcBit (crcBit (crcBit (crcBit (crc ^^^ (b.zeroExtend 16 <<< 8)))))))))

/-- The CRC-16 of R193: initial value 0xFFFF, no final inversion. -/
def crc16 (bytes : List Byte) : BitVec 16 := bytes.foldl crcByte 0xFFFF

/-- The CRC's two bytes, high byte first (R193). -/
def crcBytes (bytes : List Byte) : List Byte :=
  [(crc16 bytes).extractLsb' 8 8, (crc16 bytes).extractLsb' 0 8]

/-- A number in `width` bytes, most significant byte first (R181, R193). -/
def numBytes : (width value : Nat) → List Byte
  | 0, _ => []
  | w + 1, v => BitVec.ofNat 8 (v / 256 ^ w) :: numBytes w v

/-- The number that bytes, most significant first, stand for (R181). -/
def bytesNum (bytes : List Byte) : Nat := bytes.foldl (fun n b => n * 256 + b.toNat) 0

/-- A signed number as the unsigned number its `width` bytes in two's complement stand for (R181). -/
def intCode (width : Nat) (v : Int) : Nat := (v % (fieldSize width : Int)).toNat

/-- The signed number that an unsigned code of `width` bytes stands for in two's complement (R181). -/
def codeInt (width code : Nat) : Int :=
  if code < fieldSize width / 2 then (code : Int) else (code : Int) - (fieldSize width : Int)

/-! ### Writing a request frame -/

/-- The unsigned code an operand is sent as (R181); UNCHANGED is every bit set. -/
def Operand.code : Operand → Nat
  | .num _ v => v
  | .int w v => intCode w v
  | .opt _ (some v) => v
  | .opt w none => fieldSize w - 1

/-- The width of an operand's field. -/
def Operand.width : Operand → Nat
  | .num w _ | .int w _ | .opt w _ => w

/-- The bytes of an operand (R181). -/
def Operand.bytes (o : Operand) : List Byte := numBytes o.width o.code

/-- The request code and operands of a request as bytes: what the length byte counts (R181). -/
def requestBody (i : Instr) : Option (List Byte) :=
  match i.frame with
  | some (c, ops) => some (BitVec.ofNat 8 c :: ops.flatMap Operand.bytes)
  | none => none

/-- A request frame around a body: sync byte, length, body and the CRC over length and body (R181, R182). -/
def requestFrame (body : List Byte) : List Byte :=
  0xA5 :: BitVec.ofNat 8 body.length :: body ++ crcBytes (BitVec.ofNat 8 body.length :: body)

/-- The frame of a port request (Table 10-1); none for a row that is no request. -/
def encodeRequest (i : Instr) : Option (List Byte) := (requestBody i).map requestFrame

/-! ### Reading a request frame -/

/-- The widths of the operand fields of the request with this code (Table 10-4); none for a code not listed. -/
def requestWidths : (code : Nat) → Option (List Nat)
  | 0x01 => some []
  | 0x02 => some []
  | 0x03 => some [1]
  | 0x04 => some []
  | 0x05 => some []
  | 0x06 => some [1, 1, 1, 1, 1, 1]
  | 0x10 => some [6, 1, 1, 2, 3, 2, 1]
  | 0x11 => some [1]
  | 0x12 => some [6]
  | 0x13 => some [1, 1]
  | 0x14 => some [1, 6, 1, 3]
  | 0x15 => some [6]
  | 0x16 => some [6]
  | 0x17 => some [6]
  | 0x18 => some [6, 1]
  | 0x19 => some []
  | 0x1A => some []
  | 0x20 => some [6, 1]
  | 0x21 => some [1]
  | 0x22 => some [1, 1]
  | 0x23 => some [1, 1]
  | 0x24 => some [1]
  | 0x25 => some [1]
  | 0x30 => some []
  | 0x31 => some []
  | 0x32 => some []
  | 0x38 => some [6]
  | 0x39 => some [6]
  | 0x3A => some []
  | 0x3B => some []
  | 0x40 => some [1]
  | 0x41 => some [1]
  | 0x50 => some [1, 1, 2, 2, 1, 1, 1, 2]
  | 0x51 => some [1, 2, 1, 1, 2, 1, 1, 1]
  | 0x52 => some [1, 2, 2, 1, 2, 2, 2, 1]
  | 0x53 => some [1, 1, 1, 1]
  | 0x54 => some [2, 2, 2, 1, 2]
  | 0x55 => some [1, 2, 1, 1, 2]
  | 0x56 => some [1, 1, 1]
  | _ => none

/-- An operand of SET_TIMING from its code: every bit of the field set is UNCHANGED (R181). -/
def codeOpt (width code : Nat) : Option Nat := if code = fieldSize width - 1 then none else some code

/-- The numbers of consecutive fields of the given widths; none when the bytes are not exactly as many. -/
def readFields : List Nat → List Byte → Option (List Nat)
  | [], [] => some []
  | [], _ :: _ => none
  | w :: ws, bytes =>
    if bytes.length < w then none
    else (readFields ws (bytes.drop w)).map (bytesNum (bytes.take w) :: ·)

/-- The request that a code and the numbers of its operand fields stand for (R181, Table 10-4). -/
def requestOf (p : Port) : (code : Nat) → (fields : List Nat) → Option Instr
  | 0x01, [] => some (.status p)
  | 0x02, [] => some (.getAttention p)
  | 0x03, [m] => some (.setAttentionMask p m)
  | 0x04, [] => some (.lockTable p)
  | 0x05, [] => some (.unlockTable p)
  | 0x06, [b, c, lp, pp, lm, pm] => some (.setAccess p b c lp pp lm pm)
  | 0x10, [t, c, n, q, e, m, d] => some (.register p t c n q e m d)
  | 0x11, [s] => some (.readRecord p s)
  | 0x12, [t] => some (.find p t)
  | 0x13, [g, s] => some (.scan p g s)
  | 0x14, [k, s, f, v] => some (.amend p k s f v)
  | 0x15, [t] => some (.retire p t)
  | 0x16, [t] => some (.quarantine p t)
  | 0x17, [t] => some (.liftQuarantine p t)
  | 0x18, [t, o] => some (.confirmShred p t o)
  | 0x19, [] => some (.readTallies p)
  | 0x1A, [] => some (.resetTallies p)
  | 0x20, [t, b] => some (.assignBay p t b)
  | 0x21, [b] => some (.abortBay p b)
  | 0x22, [b, v] => some (.setSoftStop p b v)
  | 0x23, [b, v] => some (.setLevelCap p b v)
  | 0x24, [b] => some (.clearFault p b)
  | 0x25, [b] => some (.readBay p b)
  | 0x30, [] => some (.purge p)
  | 0x31, [] => some (.stopChamber p)
  | 0x32, [] => some (.readChamber p)
  | 0x38, [t] => some (.enqueue p t)
  | 0x39, [t] => some (.withdraw p t)
  | 0x3A, [] => some (.resumeFeed p)
  | 0x3B, [] => some (.readQueue p)
  | 0x40, [z] => some (.clearAlarm p z)
  | 0x41, [z] => some (.readZone p z)
  | 0x50, [c, r, e, s, m, w, t, q] => some (.setClass p c r e s m w t q)
  | 0x51, [b, r, c, t, n, m, j, q] => some (.setBayConfig p b r c t n m j q)
  | 0x52, [z, hw, ha, hh, gw, ga, gh, w] =>
    some (.setZoneConfig p z (codeInt 2 hw) (codeInt 2 ha) hh gw ga gh w)
  | 0x53, [a, u, z, k] => some (.setDetectorMap p a u z k)
  | 0x54, [a, b, t, c, q] => some (.setChamberConfig p a b t c q)
  | 0x55, [l, k, r, g, q] =>
    some (.setTiming p (codeOpt 1 l) (codeOpt 2 k) (codeOpt 1 r) (codeOpt 1 g) (codeOpt 2 q))
  | 0x56, [g, u, i] => some (.readSetting p g ⟨u, i⟩)
  | _, _ => none

/-- What the Port Interface makes of a frame (R182). -/
inductive FrameVerdict
  /-- Check 1 or 3 fails: FRAME_ERROR, echoing this code. -/
  | error (echo : Nat)
  /-- Check 2 fails: UNKNOWN_REQUEST, echoing this code. -/
  | unknown (echo : Nat)
  /-- The frame passes all three checks and is dispatched. -/
  | request (i : Instr)
deriving DecidableEq, Repr

/-- The request code byte as received, or 0 when the frame ended before it (R182). DESIGN CHOICE (log entry 29): a frame
refused at a length byte of 0 or above 32 echoes the byte that follows its length byte. -/
def echoOf (bytes : List Byte) : Nat := (bytes[2]?.map BitVec.toNat).getD 0

/-- The three checks of R182, in order, on a frame from its sync byte: length and CRC, code, fixed length. -/
def readFrame (p : Port) (bytes : List Byte) : FrameVerdict :=
  match bytes with
  | _ :: len :: rest =>
    let n := len.toNat
    let body := rest.take n
    if n = 0 || decide (32 < n) || decide (rest.length ≠ n + 2) || decide (rest.drop n ≠ crcBytes (len :: body)) then
      .error (echoOf bytes)
    else
      match requestWidths (echoOf bytes) with
      | none => .unknown (echoOf bytes)
      | some ws =>
        match (readFields ws (body.drop 1)).bind (requestOf p (echoOf bytes)) with
        | none => .error (echoOf bytes)
        | some i => .request i
  | _ => .error (echoOf bytes)

end Sys2Proof
end

