-- ==== Sys2Proof/Config.lean ====
section
/-!
DEFINITION. The free values of the model: constants with no body, so that no proof can rest on a value of one
(log entry 7).
-/

namespace Sys2Proof

/-- DESIGN CHOICE (log entry 7): whether the LINK_LOST fault that an ABORT_BAY leaves on an unbound bay whose link is
lost (R67) was entered from STOPPED or from IDLE. R67 states no value; R108 limits it to these two. -/
opaque Config.abortedFromStopped : Nat → Bool

/-- DESIGN CHOICE (log entry 7): setting number `setting` of the unset class `cls`, which holds no values (chapter 9,
section 9.2). -/
opaque Config.unsetClass : (cls setting : Nat) → Nat

/-- DESIGN CHOICE (log entry 7): the rating of bay `bay` before its first SET_BAY_CONFIG, which is none (Table 9-2). -/
opaque Config.unsetRating : (bay : Nat) → Nat

/-- DESIGN CHOICE (log entry 7): voltage (0), current (1) and temperature (2) of a sample that was never taken. -/
opaque Config.noSample : (quantity : Nat) → Nat

end Sys2Proof
end

