-- ==== Sys2Proof/Machine/State.lean ====
section
/-!
DEFINITION. The state of the W412, its answers and the state right after reset (the end of a cold start).
Each type names the rule or table of spec/ that gives it.
-/

namespace Sys2Proof.Machine

/-! ### Custody records (chapter 1) -/

/-- The nine stages, in the order of Table 1-3. -/
inductive Stage
  | waiting
  | probing
  | discharging
  | resting
  | discharged
  | queued
  | atGate
  | inShredder
  | shredUnconfirmed
deriving DecidableEq, Repr

/-- The flags of a record, in the order of Table 1-2. -/
structure RecFlags where
  damaged : Bool := false
  isolationFault : Bool := false
  overtemp : Bool := false
  openConnection : Bool := false
  interrupted : Bool := false
  reboundLimit : Bool := false
  quarantine : Bool := false
  gateReturned : Bool := false
  recovered : Bool := false
deriving DecidableEq, Repr

/-- The three hazard flags a bay channel writes (R23, R72, R104, R105). -/
inductive HazardFlag
  | isolationFault
  | overtemp
  | openConnection
deriving DecidableEq, Repr

/-- A record (Table 1-1). Energies in Wh, mass in 0.1 kg, capacity in 0.1 Ah, rest voltage in 0.1 V. -/
structure Rec where
  tag : Nat
  origin : Port
  cls : ClassId
  cells : Nat
  capacity : Nat
  declared : Nat
  mass : Nat
  energy : Nat := 0
  stage : Stage := .waiting
  flags : RecFlags := {}
  bay : Option BayId := none
  rest : Option Nat := none
  rebounds : Nat := 0
deriving DecidableEq, Repr

/-- A slot with the tag of its record: how a binding, a queue entry or an engine write names a record (R8). -/
structure Entry where
  slot : Slot
  tag : Nat
deriving DecidableEq, Repr

/-- The six tallies (Table 1-5). -/
structure Tallies where
  registered : Nat := 0
  shredded : Nat := 0
  intact : Nat := 0
  energyTotal : Nat := 0
  residualAdmitted : Nat := 0
  massAdmitted : Nat := 0
deriving DecidableEq, Repr

/-! ### Table access (chapter 2) -/

/-- The access settings (Table 2-2). In a permission set, bit s set means CHANGE on segment s; in a field mask, bits 0
to 5 are class, cells, capacity, declared energy, mass and DAMAGED. -/
structure AccessSettings where
  base : Nat := 0
  count : Nat := 8
  linePerm : BitVec 8 := 0xFF
  plantPerm : BitVec 8 := 0xFF
  lineMask : BitVec 6 := 0x3F
  plantMask : BitVec 6 := 0
deriving DecidableEq, Repr

/-- The engines that ask for grants, in the order of R33; a bay channel by its number. -/
inductive Engine
  | fire
  | feed
  | bay (b : BayId)
deriving DecidableEq, Repr

/-- The states of the arbiter (Table 2-1): PARKED; LINE_ACCESS or PLANT_ACCESS; ENGINE_ACCESS, naming the engine. -/
inductive Access
  | parked
  | port (p : Port)
  | engine (e : Engine)
deriving DecidableEq, Repr

/-- The table lock while held (R36, R39): holder, and the hold timer in 10 ms steps. -/
structure Lock where
  holder : Port
  duration : Nat
  elapsed : Nat
deriving DecidableEq, Repr

/-- The record change of a bay channel's stage change (R8): expected stage, new stage and, at an end of rest, the rest
voltage with the rebound count (R96) and REBOUND_LIMIT (R98). -/
structure StageWrite where
  entry : Entry
  expected : Stage
  new : Stage
  rest : Option (Nat × Nat) := none
  reboundLimit : Bool := false
deriving DecidableEq, Repr

/-- A waiting write of a bay channel (R34). -/
inductive BayWrite
  /-- An energy carry of one watt-hour (R80, R81). -/
  | carry (e : Entry)
  /-- A hazard flag set (R23). -/
  | flag (e : Entry) (f : HazardFlag)
  /-- A stage change that keeps the binding. -/
  | stage (w : StageWrite)
  /-- A stage change that ends the binding (R64). -/
  | unbind (w : StageWrite)
deriving DecidableEq, Repr

/-- A waiting write of the Feed Controller (R34). -/
inductive FeedWrite
  | admission (e : Entry)
  | pass (e : Entry)
  | unexpected (e : Option Entry)
  | giveBack (e : Entry)
  | retirement (e : Entry)
  | unconfirmed (e : Entry)
deriving DecidableEq, Repr

/-- The Table Access Arbiter: its state, the lock, and the waiting writes of the Fire Zone Monitor and the Feed
Controller (R32, R34, R36). Each bay channel holds its own list. -/
structure Arbiter where
  access : Access := .parked
  lock : Option Lock := none
  sweeps : List ZoneId := []
  feedWrites : List FeedWrite := []
deriving DecidableEq, Repr

/-! ### Bay channels (chapters 3, 4 and 5) -/

/-- The nine bay states (Table 3-2). -/
inductive BayState
  | unconfigured
  | stopped
  | idle
  | probing
  | active
  | resting
  | held
  | faulted
  | retrying
deriving DecidableEq, Repr

/-- The held-from states (R49, R55). -/
inductive RunState
  | probing
  | active
  | resting
  | retrying
deriving DecidableEq, Repr

/-- The three hold causes (R54). -/
inductive HoldCause
  | stop
  | zoneAlarm
  | quarantine
deriving DecidableEq, Repr

/-- A hold-cause set (R54). -/
structure Holds where
  stop : Bool := false
  zoneAlarm : Bool := false
  quarantine : Bool := false
deriving DecidableEq, Repr

/-- The outcomes of a probe attempt (Table 3-5). -/
inductive ProbeOutcome
  | normal
  | opened
  | leakNeg
  | leakPos
  | inconsistent
deriving DecidableEq, Repr

/-- The probe state (R49, R71). DESIGN CHOICE (log entry 11): a cleared probe is step 1, count 0, attempt 1, round 1. -/
structure Probe where
  step : Nat := 1
  count : Nat := 0
  attempt : Nat := 1
  round : Nat := 1
  results : List Bool := []
  last : Option ProbeOutcome := none
deriving DecidableEq, Repr

/-- The fault causes, in the order chapter 5 lists them. -/
inductive FaultCause
  | overcurrent
  | overtemp
  | openConnection
  | sensor
  | moduleFault
  | linkLost
  | probeOpen
  | probeInconsistent
deriving DecidableEq, Repr

/-- The fault state while there is a fault (R100): cause, the state it was entered from, the shutdown temperature kept
with it in °C. -/
structure FaultRec where
  cause : FaultCause
  entered : BayState
  shutdown : Option Int := none
deriving DecidableEq, Repr

/-- The retry kinds (R100, R110). -/
inductive RetryKind
  | overcurrent
  | overtemp
  | openConnection
deriving DecidableEq, Repr

/-- The link status (R61). -/
inductive LinkStatus
  | receiving
  | lost
deriving DecidableEq, Repr

/-- The latest fresh sample (R49, R77): V as clamped, I and T as received. -/
structure Sample where
  v : Nat
  i : Nat
  t : Int
  comparator : Bool
  loadFault : Bool
deriving DecidableEq, Repr

/-- The record copies taken at the ASSIGN_BAY grant (R49, R66). -/
structure Copies where
  cls : ClassId
  cells : Nat
  capacity : Nat
  damaged : Bool
deriving DecidableEq, Repr

/-- The states of a fire channel (R154). -/
inductive ChanState
  | normal
  | warn
  | alarmLevel
  | fault
deriving DecidableEq, Repr

/-- A detector or pack-temperature channel (R154, R156): state, latest reading, the three run counts, and the valid
readings in a row taken in FAULT (R158). -/
structure Chan where
  state : ChanState := .normal
  reading : Option Int := none
  alarmRun : Nat := 0
  warnRun : Nat := 0
  quietRun : Nat := 0
  good : Nat := 0
deriving DecidableEq, Repr

/-- The answer kinds of a bay answer frame (Table 10-2). -/
inductive AnswerKind
  | ack
  | nak
  | stall
deriving DecidableEq, Repr

/-- A bay answer frame: kind, level and probe step (0 when the command is a level) (Table 10-2). -/
structure BayAnswer where
  kind : AnswerKind
  level : Nat
  step : Nat
deriving DecidableEq, Repr

/-- One bay channel (Table 3-1; section 4.6; R100). The defaults are the values after a cold start (R75, R115). -/
structure Bay where
  mode : BayState := .unconfigured
  binding : Option Entry := none
  copies : Option Copies := none
  level : Nat := 0
  holds : Holds := {}
  heldFrom : Option RunState := none
  releasePending : Bool := false
  probe : Probe := {}
  fault : Option FaultRec := none
  faultCount : Nat := 0
  softStop : Bool := true
  link : LinkStatus := .lost
  toggle : Option Bool := none
  periods : Nat := 5
  sample : Option Sample := none
  /-- The fractional accumulator F, in units of 10⁻⁴ J (R80). -/
  frac : Nat := 0
  /-- The channel's waiting writes; its carry entries are the waiting carries (R34, R80). -/
  writes : List BayWrite := []
  blanking : Nat := 0
  holdOff : Option Nat := none
  endCount : Nat := 0
  restElapsed : Nat := 0
  rebounds : Nat := 0
  isoDerate : Bool := false
  /-- The current limit in force (R85, R86). -/
  limit : Option Nat := none
  warning : Bool := false
  shutdown : Bool := false
  openCount : Nat := 0
  retry : Option RetryKind := none
  retryWait : Nat := 0
  recovery : Nat := 0
  repeats : Nat := 0
  discards : Nat := 0
  extensions : Nat := 0
  /-- The stage named by the last stage write asked for in the binding, or PROBING (R109). -/
  lastStage : Stage := .probing
  /-- The stage change from RESTING to DISCHARGING is to be asked for at the next entry to ACTIVE (R95, R114). -/
  stageOwed : Bool := false
  /-- The pack-temperature channel of the bay's zone, while the bay is bound (R155). -/
  pack : Option Chan := none
  /-- The last answer frame sent on the bay link (R63). -/
  sent : Option BayAnswer := none
deriving DecidableEq, Repr

/-! ### Chamber Monitor (chapter 6) -/

/-- The chamber states, in the order of Table 6-2. -/
inductive ChamberState
  | doorOpen
  | sealed
  | purging
  | inert
  | shredding
  | hold
  | fire
deriving DecidableEq, Repr

/-- One analyser (Table 6-2): latest value, fresh or stale, periods since the last fresh frame. -/
structure AnalyserState where
  value : Option Nat := none
  fresh : Bool := false
  age : Nat := 0
deriving DecidableEq, Repr

/-- The analyser condition (Table 6-3). -/
inductive Condition
  | agreed
  | disagree
  | single (which : Analyser)
  | noReading
deriving DecidableEq, Repr

/-- The Chamber Monitor (Table 6-2) and its outputs (R130, R131). The door status and the PLANT_PERMIT level are the
levels of their lines (R134). -/
structure Chamber where
  state : ChamberState := .doorOpen
  /-- The throat status: LOADED when true, EMPTY when false. -/
  loaded : Bool := true
  a : AnalyserState := {}
  b : AnalyserState := {}
  condition : Condition := .noReading
  eff : Option Nat := none
  excess : Nat := 0
  confirm : Option Nat := none
  purgeTimer : Option Nat := none
  /-- The chamber fault PURGE_TIMEOUT. -/
  purgeFault : Bool := false
  permit : Bool := false
  shredPermit : Bool := false
  nitrogen : Bool := false
  flood : Bool := false
deriving DecidableEq, Repr

/-! ### Feed Controller (chapter 7) -/

/-- A running timer: elapsed periods, and the duration it was started with (R135). -/
structure Timer where
  elapsed : Nat
  duration : Nat
deriving DecidableEq, Repr

/-- An entry of the shredder path list (R135, R149): SHRED_UNCONFIRMED or IN_SHREDDER, with the admitted residual. -/
structure PathEntry where
  slot : Slot
  tag : Nat
  residual : Nat
  unconfirmed : Bool
deriving DecidableEq, Repr

/-- The feed fault set (R150). -/
structure FeedFaults where
  gateTimeout : Bool := false
  unexpectedPass : Bool := false
  shredTimeout : Bool := false
deriving DecidableEq, Repr

/-- The last-returned memory (R145), with the periods remaining in its return window. -/
structure Memory where
  slot : Slot
  tag : Nat
  remaining : Nat
deriving DecidableEq, Repr

/-- The zone block (R151). -/
structure ZoneBlock where
  z4 : Bool := false
  z5 : Bool := false
  z6 : Bool := false
deriving DecidableEq, Repr

/-- The Feed Controller (Table 7-1). -/
structure Feed where
  queue : List Entry := []
  gate : Option Entry := none
  gateOpen : Bool := false
  gateTimer : Option Timer := none
  shred : Option Entry := none
  passPending : Bool := false
  shredTimer : Option Timer := none
  path : List PathEntry := []
  faults : FeedFaults := {}
  memory : Option Memory := none
  block : ZoneBlock := {}
  admissionWaiting : Bool := false
deriving DecidableEq, Repr

/-! ### Fire zones (chapter 8) -/

/-- The zone states (R154). -/
inductive ZoneState
  | normal
  | preAlarm
  | alarm
deriving DecidableEq, Repr

/-- The flame channel of a zone (R160): ALARM_LEVEL or NORMAL, and the levels of the last two scans, if taken. -/
structure Flame where
  alarmLevel : Bool := false
  last : Option Bool := none
  previous : Option Bool := none
deriving DecidableEq, Repr

/-- One fire zone (R154). Its detector channels stand with their addresses, its pack-temperature channels with their
bays. -/
structure Zone where
  state : ZoneState := .normal
  degraded : Bool := false
  sweepWaiting : Bool := false
  flame : Flame := {}
deriving DecidableEq, Repr

/-- The detector channel of a mapped address (R157): the channel, and the periods since the last fresh frame. -/
structure Detector where
  chan : Chan := {}
  age : Nat := 0
deriving DecidableEq, Repr

/-- What the Sensor Link Interface keeps for one address (R157). -/
structure SensorAddr where
  toggle : Option Bool := none
  value : Option Int := none
deriving DecidableEq, Repr

/-! ### Stored settings (chapter 9) -/

/-- The settings of a configured class (Table 9-1). -/
structure ClassCfg where
  cRate : Nat
  endV : Nat
  safeV : Nat
  permille : Nat
  warnT : Nat
  shutT : Nat
  restSec : Nat
deriving DecidableEq, Repr

/-- The fault modes (Table 9-2). -/
inductive FaultMode
  | latch
  | retry
deriving DecidableEq, Repr

/-- The combine settings (Table 9-2). -/
inductive Combine
  | or
  | and
deriving DecidableEq, Repr

/-- The settings of a bay (Table 9-2). A bay with no rating has not been configured since the last cold start. -/
structure BayCfg where
  rating : Option Nat := none
  cap : Nat := 15
  toff : Nat := 3
  nOpen : Nat := 32
  mode : FaultMode := .latch
  combine : Combine := .or
  retrySec : Nat := 5
deriving DecidableEq, Repr

/-- The settings of a zone (Table 9-3). -/
structure ZoneCfg where
  heatWarn : Int := 70
  heatAlarm : Int := 90
  heatHyst : Nat := 10
  gasWarn : Nat := 300
  gasAlarm : Nat := 800
  gasHyst : Nat := 50
  w : Nat := 3
deriving DecidableEq, Repr

/-- The detector kinds (R177). -/
inductive DetKind
  | heat
  | gas
deriving DecidableEq, Repr

/-- A map entry that is not UNUSED (R177). -/
structure MapEntry where
  zone : ZoneId
  kind : DetKind
deriving DecidableEq, Repr

/-- The chamber settings (Table 6-1); times in seconds. -/
structure ChamberCfg where
  admitLevel : Nat := 200
  abort : Nat := 400
  tolerance : Nat := 50
  confirmSec : Nat := 30
  purgeSec : Nat := 600
deriving DecidableEq, Repr

/-- The timing settings (Table 9-4). -/
structure Timing where
  link : Nat := 5
  lockMs : Nat := 500
  rebound : Nat := 3
  gateSec : Nat := 20
  shredSec : Nat := 90
deriving DecidableEq, Repr

/-- The Settings Store, with the use count of each class (R174). -/
structure Settings where
  classes : Bank (Option ClassCfg) 8 := .fill 8 none
  useCount : Bank Nat 8 := .fill 8 0
  bays : Bank BayCfg 12 := .fill 12 {}
  zones : Bank ZoneCfg 7 := .fill 7 {}
  detectors : Bank (Option MapEntry) 28 := .fill 28 none
  chamber : ChamberCfg := {}
  timing : Timing := {}
deriving DecidableEq, Repr

/-! ### Ports, answers and attention (chapter 10) -/

/-- The kinds of start (R195). -/
inductive StartKind
  | cold
  | warm
deriving DecidableEq, Repr

/-- The details of a BAY condition, in the order of R188. -/
inductive BayDetail
  | hold
  | link
  | release
  | probe
  | stage
  | temp
  | fault
  | retry
  | energyLost
deriving DecidableEq, Repr

/-- The pending set of a port (R188). BAY(b) is pending while its details are not all clear (bits 0 to 8 in the order
of R188). ZONE(z) holds its sources: bit 0 the flame line, bits 1 to 28 sensor addresses 0 to 27, bits 29 to 31 the
bays of the zone. -/
structure Attn where
  bays : Bank (BitVec 9) 12 := .fill 12 0
  zones : Bank (Option (BitVec 32)) 7 := .fill 7 none
  chamber : Bool := false
  feed : Bool := false
  lockExpired : Bool := false
  restart : Bool := false
deriving DecidableEq, Repr

/-- The status codes, in the order of Table 10-5. -/
inductive Status
  | ok
  | frameError
  | unknownRequest
  | badField
  | notFound
  | duplicateTag
  | tableFull
  | classUnset
  | wrongStage
  | notPermitted
  | isProtected
  | locked
  | quarantined
  | notEligible
  | queueFull
  | bayBusy
  | bayUnavailable
  | notBound
  | notFaulted
  | zoneAlarm
  | zoneFull
  | inUse
  | notClear
  | chamberState
deriving DecidableEq, Repr

/-- A record as an answer gives it (R9, Table 10-3): the slot, the stored fields and the four derived values. -/
structure RecView where
  slot : Slot
  record : Rec
  residual : Nat
  perCell : Option Nat
  zone : ZoneId
  position : Option Nat
deriving DecidableEq, Repr

/-- What READ_BAY reports (R70), in its order. -/
structure BayView where
  mode : BayState
  heldFrom : Option RunState
  binding : Option Entry
  releasePending : Bool
  level : Nat
  cap : Nat
  holds : Holds
  stopLine : Bool
  softStop : Bool
  effectiveStop : Bool
  link : LinkStatus
  periods : Nat
  step : Nat
  attempt : Nat
  round : Nat
  last : Option ProbeOutcome
  cause : Option FaultCause
  entered : Option BayState
  sample : Option Sample
  limit : Option Nat
  repeats : Nat
  discards : Nat
  extensions : Nat
  faultCount : Nat
deriving DecidableEq, Repr

/-- What READ_CHAMBER reports (R133), in its order. -/
structure ChamberView where
  state : ChamberState
  purgeFault : Bool
  doorClosed : Bool
  loaded : Bool
  throatEmptyLine : Bool
  a : AnalyserState
  b : AnalyserState
  condition : Condition
  eff : Option Nat
  excess : Nat
  confirm : Option Nat
  purgeTimer : Option Nat
  nitrogen : Bool
  flood : Bool
  permit : Bool
  plantPermit : Bool
  shredPermit : Bool
deriving DecidableEq, Repr

/-- A queue entry with its record's stage (R152). -/
structure QueueItem where
  slot : Slot
  tag : Nat
  stage : Option Stage
deriving DecidableEq, Repr

/-- What READ_QUEUE reports (R152), in its order; `failing` marks the admission conditions of R139 that fail. -/
structure QueueView where
  queue : List QueueItem
  gate : Option Entry
  gateOpen : Bool
  gateTimer : Option Nat
  shred : Option Entry
  passPending : Bool
  shredTimer : Option Nat
  path : List PathEntry
  faults : FeedFaults
  memory : Option Memory
  block : ZoneBlock
  failing : List Bool
deriving DecidableEq, Repr

/-- The channel kinds (R154). -/
inductive ChanKind
  | heat
  | gas
  | flame
  | packTemp
deriving DecidableEq, Repr

/-- A channel as READ_ZONE reports it (R170); `source` is the zone, the address or the bay. -/
structure ChanView where
  kind : ChanKind
  source : Nat
  state : ChanState
  reading : Option Int
  alarmRun : Nat
  warnRun : Nat
  quietRun : Nat
  age : Option Nat
  scans : Option (Option Bool × Option Bool)
deriving DecidableEq, Repr

/-- What READ_ZONE reports (R170). -/
structure ZoneView where
  state : ZoneState
  degraded : Bool
  sweepWaiting : Bool
  channels : List ChanView
deriving DecidableEq, Repr

/-- The results of an answer with status OK (R186), as the request's rule names them. -/
inductive Results
  | empty
  | status (kind : StartKind) (lock : Option (Port × Nat)) (overruns live : Nat) (attnLine : Bool) (mask : BitVec 6)
  | attention (pending : Attn)
  | attnMask (mask : BitVec 6) (attnLine : Bool)
  | lockTime (ms : Nat)
  | access (settings : AccessSettings)
  | slot (n : Slot)
  | record (view : RecView)
  | slots (list : List Slot) (more : Bool)
  | tallies (t : Tallies) (live : Nat)
  | talliesReset (t : Tallies)
  | stops (softStop stopLine effective : Bool)
  | levels (cap level : Nat)
  | bayState (mode : BayState)
  | bay (view : BayView)
  | chamberState (state : ChamberState)
  | chamber (view : ChamberView)
  | feedFaults (faults : FeedFaults)
  | queue (view : QueueView)
  | zoneState (state : ZoneState) (degraded : Bool)
  | zone (view : ZoneView)
  | classCfg (cfg : ClassCfg)
  | classReport (cfg : Option ClassCfg) (useCount : Nat)
  | bayCfg (cfg : BayCfg) (mode : BayState)
  | bayReport (cfg : BayCfg) (overcurrent : Option Nat)
  | zoneCfg (cfg : ZoneCfg)
  | chamberCfg (cfg : ChamberCfg)
  | detectorMap (entries : List (Option MapEntry))
  | detectorReport (entries : List (Option MapEntry)) (counts : List Nat)
  | timing (cfg : Timing)
deriving DecidableEq, Repr

/-- An answer as built (R186, R187): the echo of the request code, the status, the two answer flags, the results. -/
structure Answer where
  echo : Nat
  status : Status
  lockExpired : Bool
  restart : Bool
  results : Results
deriving DecidableEq, Repr

/-- A request in flight (R31, R183, R185): waiting at the arbiter, or answered with the answer kept until its last byte
has gone; `marksCleared` when a first sending has cleared the marks the answer carries (R187). -/
inductive InFlight
  | waiting (req : Instr)
  | answered (ans : Answer) (marksCleared : Bool)
deriving DecidableEq, Repr

/-- One port (chapter 10). -/
structure PortState where
  inFlight : Option InFlight := none
  overruns : Nat := 0
  attn : Attn := {}
  /-- The enable mask: bit 0 BAY, 1 ZONE, 2 CHAMBER, 3 FEED, 4 LOCK_EXPIRED, 5 RESTART (R189). -/
  mask : BitVec 6
  attnLine : Bool := false
  lockMark : Bool := false
  restartMark : Bool := false
  /-- Line Port: the answer has been clocked out whole in the present transaction (R183). -/
  answerDone : Bool := false
deriving DecidableEq, Repr

/-! ### Standby Domain (chapter 11) -/

/-- The phases of the supply and the start (R194 to R197). -/
inductive Phase
  /-- VDD is absent. -/
  | off
  /-- A start is in progress; RESET is asserted and the choice of start has not been made. -/
  | inReset
  /-- A start is in progress; its kind has been chosen. -/
  | starting (kind : StartKind)
  | running
deriving DecidableEq, Repr

/-- The levels of the discrete inputs that are read as levels. -/
structure Lines where
  stop : Bank Bool 12 := .fill 12 false
  doorClosed : Bool := false
  throatEmpty : Bool := false
  plantPermit : Bool := false
  reset : Bool := false
deriving DecidableEq, Repr

/-- The state of the W412 (INVENTORY.md, State). -/
structure State where
  phase : Phase
  retention : Bool
  lastStart : StartKind
  lines : Lines
  slots : Bank (Option Rec) 256
  tallies : Tallies
  access : AccessSettings
  arb : Arbiter
  bays : Bank Bay 12
  chamber : Chamber
  feed : Feed
  zones : Bank Zone 7
  detectors : Bank Detector 28
  sensors : Bank SensorAddr 32
  settings : Settings
  line : PortState
  plant : PortState
  /-- The model's own field: the index of the next free value (log entry 7). -/
  freeCount : Nat
  /-- The model's own field: the commands that are waiting, first in first out. -/
  pending : List Instr
deriving DecidableEq, Repr

/-- Why a step stops with a fault: it never does. Every command has an effect in every state (log entry 3), so the
type has no constructor. -/
inductive Fault
deriving DecidableEq, Repr

/-- Why a step is refused. -/
inductive Refusal
  /-- The row has no meaning in this model yet; raised by exec alone; safe. -/
  | notModelled (mnemonic : String)
deriving DecidableEq, Repr

/-- The pending set of a port at the end of a start: RESTART alone (R197). -/
def restartOnly : Attn := { restart := true }

/-- The state right after the end of a cold start (R28, R47, R48, R75, R115, R134, R153, R171, R189, R195, R197, and
the cold-start values of chapter 9). DESIGN CHOICE (log entry 5): every input line is deasserted, so the chamber is OPEN
and its throat status LOADED (R134). -/
def State.reset : State where
  phase := .running
  retention := true
  lastStart := .cold
  lines := {}
  slots := .fill 256 none
  tallies := {}
  access := {}
  arb := {}
  bays := .fill 12 {}
  chamber := {}
  feed := {}
  zones := .fill 7 {}
  detectors := .fill 28 {}
  sensors := .fill 32 {}
  settings := {}
  line := { mask := 0x3D, attn := restartOnly, attnLine := true, restartMark := true }
  plant := { mask := 0x3F, attn := restartOnly, attnLine := true, restartMark := true }
  freeCount := 0
  pending := []

end Sys2Proof.Machine
end

