-- ==== Sys2Proof/Machine/Flags.lean ====
section
/-!
DEFINITION. The flags of a record and the hold causes of a bay: how each set changes (Table 1-2, R54).
-/

namespace Sys2Proof.Machine

/-- The record's flags with a hazard flag set (R23, Table 1-2). -/
def RecFlags.hazard (f : RecFlags) : HazardFlag → RecFlags
  | .isolationFault => { f with isolationFault := true }
  | .overtemp => { f with overtemp := true }
  | .openConnection => { f with openConnection := true }

/-- The record with QUARANTINE set (R7). -/
def Rec.quarantined (r : Rec) : Rec := { r with flags := { r.flags with quarantine := true } }

/-- The record with QUARANTINE removed (R19). -/
def Rec.lifted (r : Rec) : Rec := { r with flags := { r.flags with quarantine := false } }

/-- The record with GATE_RETURNED set (Table 1-2). -/
def Rec.returned (r : Rec) : Rec := { r with flags := { r.flags with gateReturned := true } }

/-- The record with GATE_RETURNED removed, as at its admission (R140). -/
def Rec.admitted (r : Rec) : Rec := { r with flags := { r.flags with gateReturned := false } }

/-- The record with RECOVERED set (R22). -/
def Rec.recoveredBack (r : Rec) : Rec := { r with flags := { r.flags with recovered := true } }

/-- The record with INTERRUPTED set (R29). -/
def Rec.broken (r : Rec) : Rec := { r with flags := { r.flags with interrupted := true } }

/-- The record with REBOUND_LIMIT set (R98). -/
def Rec.overRebound (r : Rec) : Rec := { r with flags := { r.flags with reboundLimit := true } }

/-- The hold-cause set with a cause added or removed (R54). -/
def Holds.put (h : Holds) (on : Bool) : HoldCause → Holds
  | .stop => { h with stop := on }
  | .zoneAlarm => { h with zoneAlarm := on }
  | .quarantine => { h with quarantine := on }

/-- The hold-cause set is empty. -/
def Holds.empty (h : Holds) : Bool := !(h.stop || h.zoneAlarm || h.quarantine)

/-- The feed fault is present while its set is not empty (R150). -/
def FeedFaults.present (f : FeedFaults) : Bool := f.gateTimeout || f.unexpectedPass || f.shredTimeout

/-- The zone block is empty (R139). -/
def ZoneBlock.empty (z : ZoneBlock) : Bool := !(z.z4 || z.z5 || z.z6)

/-- The zone block with zone 4, 5 or 6 put in or taken out; other zones are not in it (R151). -/
def ZoneBlock.put (z : ZoneBlock) (on : Bool) (zone : ZoneId) : ZoneBlock :=
  if zone = 4 then { z with z4 := on }
  else if zone = 5 then { z with z5 := on }
  else if zone = 6 then { z with z6 := on }
  else z

end Sys2Proof.Machine
end

