-- ==== Sys2Proof/Machine/Ops.lean ====
section
/-!
DEFINITION. The named operations shared by the blocks: reading and changing a part of the state, records and tallies,
attention (R188, R189), the engines' waiting writes (R34), the order of the grants (R33) and the building of an answer
(R186, R187).
-/

namespace Sys2Proof.Machine

/-! ### Parts of the state -/

/-- The part takes the events of the line: no start is in progress and VDD is present (R194, R196). -/
def State.running (s : State) : Bool := decide (s.phase = .running)

/-- Bay channel `b`. -/
def State.bay (s : State) (b : BayId) : Bay := s.bays.get b

/-- The state with bay channel `b` replaced. -/
def State.setBay (s : State) (b : BayId) (x : Bay) : State := { s with bays := s.bays.set b x }

/-- The state with `f` applied to bay channel `b`. -/
def State.modBay (s : State) (b : BayId) (f : Bay → Bay) : State := s.setBay b (f (s.bay b))

/-- The record in slot `i`; none when the slot is FREE (R2). -/
def State.record (s : State) (i : Slot) : Option Rec := s.slots.get i

/-- The state with the content of slot `i` replaced. -/
def State.setRecord (s : State) (i : Slot) (r : Option Rec) : State := { s with slots := s.slots.set i r }

/-- Zone `z`. -/
def State.zone (s : State) (z : ZoneId) : Zone := s.zones.get z

/-- The state with zone `z` replaced. -/
def State.setZone (s : State) (z : ZoneId) (x : Zone) : State := { s with zones := s.zones.set z x }

/-- The detector channel of address `d`. -/
def State.detector (s : State) (d : DetId) : Detector := s.detectors.get d

/-- The state with the detector channel of address `d` replaced. -/
def State.setDetector (s : State) (d : DetId) (x : Detector) : State :=
  { s with detectors := s.detectors.set d x }

/-- The state of a port. -/
def State.port (s : State) : Port → PortState
  | .line => s.line
  | .plant => s.plant

/-- The state with a port replaced. -/
def State.setPort (s : State) (p : Port) (x : PortState) : State :=
  match p with
  | .line => { s with line := x }
  | .plant => { s with plant := x }

/-- The state with the Feed Controller replaced. -/
def State.setFeed (s : State) (f : Feed) : State := { s with feed := f }

/-- The state with the Chamber Monitor replaced. -/
def State.setChamber (s : State) (c : Chamber) : State := { s with chamber := c }

/-- The state with the arbiter replaced. -/
def State.setArb (s : State) (a : Arbiter) : State := { s with arb := a }

/-- The state with the tallies replaced. -/
def State.setTallies (s : State) (t : Tallies) : State := { s with tallies := t }

/-- The state with the settings replaced. -/
def State.setSettings (s : State) (t : Settings) : State := { s with settings := t }

/-- The state with the input lines replaced. -/
def State.setLines (s : State) (l : Lines) : State := { s with lines := l }

/-- The settings of bay `b` (Table 9-2). -/
def State.bayCfg (s : State) (b : BayId) : BayCfg := s.settings.bays.get b

/-- The settings of a class (Table 9-1). An unset class holds no values: they are free (log entry 7). -/
def State.classCfg (s : State) (c : ClassId) : ClassCfg :=
  (s.settings.classes.get c).getD
    { cRate := Config.unsetClass c.1 0, endV := Config.unsetClass c.1 1, safeV := Config.unsetClass c.1 2,
      permille := Config.unsetClass c.1 3, warnT := Config.unsetClass c.1 4, shutT := Config.unsetClass c.1 5,
      restSec := Config.unsetClass c.1 6 }

/-- Zone floor(b / 3) of bay `b` (chapter 3). -/
def bayZone (b : BayId) : ZoneId := ⟨b.1 / 3, by have := b.2; omega⟩

/-- Segment floor(s / 32) of slot `s` (R1). -/
def segment (i : Slot) : Nat := i.1 / 32

/-! ### Attention (R188, R189) -/

/-- The bit of a BAY detail (R188, R190). -/
def BayDetail.bit : BayDetail → BitVec 9
  | .hold => 0x001
  | .link => 0x002
  | .release => 0x004
  | .probe => 0x008
  | .stage => 0x010
  | .temp => 0x020
  | .fault => 0x040
  | .retry => 0x080
  | .energyLost => 0x100

/-- The pending set with a detail of BAY(b) added (R188). -/
def Attn.addBay (a : Attn) (b : BayId) (d : BayDetail) : Attn :=
  { a with bays := a.bays.set b (a.bays.get b ||| d.bit) }

/-- The pending set with ZONE(z) pending and channel sources added to its detail (R188). -/
def Attn.addZone (a : Attn) (z : ZoneId) (sources : BitVec 32) : Attn :=
  { a with zones := a.zones.set z (some ((a.zones.get z).getD 0 ||| sources)) }

/-- At least one pending condition is of a kind that the mask enables (R189). -/
def Attn.asserts (a : Attn) (mask : BitVec 6) : Bool :=
  (mask.getLsbD 0 && a.bays.1.any (fun d => decide (d ≠ 0))) || (mask.getLsbD 1 && a.zones.1.any Option.isSome)
    || (mask.getLsbD 2 && a.chamber) || (mask.getLsbD 3 && a.feed) || (mask.getLsbD 4 && a.lockExpired)
    || (mask.getLsbD 5 && a.restart)

/-- The port with its pending set changed; the attention line follows in the same event (R189). -/
def PortState.attend (x : PortState) (f : Attn → Attn) : PortState :=
  { x with attn := f x.attn, attnLine := (f x.attn).asserts x.mask }

/-- A condition raised on one port. What is raised during a start is dropped (R188, R197), so it is not kept. -/
def State.raisePort (s : State) (p : Port) (f : Attn → Attn) : State :=
  if s.running then s.setPort p ((s.port p).attend f) else s

/-- A condition raised on both ports (R188). -/
def State.raise (s : State) (f : Attn → Attn) : State := (s.raisePort .line f).raisePort .plant f

/-- BAY attention with a detail (R188). -/
def State.raiseBay (s : State) (b : BayId) (d : BayDetail) : State := s.raise (fun a => a.addBay b d)

/-- ZONE attention with the channel sources whose state changed (R188). -/
def State.raiseZone (s : State) (z : ZoneId) (sources : BitVec 32) : State := s.raise (fun a => a.addZone z sources)

/-- CHAMBER attention (R188). -/
def State.raiseChamber (s : State) : State := s.raise (fun a => { a with chamber := true })

/-- FEED attention (R188). -/
def State.raiseFeed (s : State) : State := s.raise (fun a => { a with feed := true })

/-! ### Records and tallies (chapter 1) -/

/-- The live record that an entry names: the slot holds a live record with that tag (R8). -/
def State.named (s : State) (e : Entry) : Option Rec :=
  match s.record e.slot with
  | some r => if r.tag = e.tag then some r else none
  | none => none

/-- The slot of the live record that holds a tag (R3). -/
def State.findTag (s : State) (tag : Nat) : Option Slot :=
  s.slots.find (fun o => match o with | some r => decide (r.tag = tag) | none => false)

/-- The number of LIVE slots (R2). -/
def State.liveCount (s : State) : Nat := s.slots.count Option.isSome

/-- Some live record is in a stage. -/
def State.anyStage (s : State) (g : Stage) : Bool :=
  s.slots.1.any (fun o => match o with | some r => decide (r.stage = g) | none => false)

/-- Residual energy (R9, R84). -/
def Rec.residual (r : Rec) : Nat := r.declared - r.energy

/-- The allowance for a residual permille (R84). -/
def Rec.allowance (r : Rec) (permille : Nat) : Nat := r.declared * permille / 1000

/-- Per-cell voltage of a voltage code, in mV (R9, R88). -/
def perCellOf (v cells : Nat) : Nat := v * 100 / cells

/-- Per-cell rest voltage (R9). -/
def Rec.perCell (r : Rec) : Option Nat := r.rest.map (fun v => perCellOf v r.cells)

/-- The stage is one of the three bound stages (R5). -/
def Stage.bound : Stage → Bool
  | .probing | .discharging | .resting => true
  | .waiting | .discharged | .queued | .atGate | .inShredder | .shredUnconfirmed => false

/-- The zone of a record (Table 1-3, R9). A record in a bound stage has a bay field (R5). -/
def Rec.zone (r : Rec) : ZoneId :=
  match r.stage with
  | .probing | .discharging | .resting => (r.bay.map bayZone).getD 4
  | .waiting | .discharged => 4
  | .queued | .atGate => 5
  | .inShredder | .shredUnconfirmed => 6

/-- The queue position of a slot (R9, R136). -/
def State.position (s : State) (i : Slot) : Option Nat :=
  if s.feed.queue.findIdx (fun e => decide (e.slot = i)) < s.feed.queue.length then
    some (s.feed.queue.findIdx (fun e => decide (e.slot = i)) + 1)
  else none

/-- The record as an answer gives it (R9). -/
def State.view (s : State) (i : Slot) (r : Rec) : RecView where
  slot := i
  record := r
  residual := r.residual
  perCell := r.perCell
  zone := r.zone
  position := if r.stage = .queued ∨ r.stage = .atGate then s.position i else none

/-- The use count of a class increased by one (R174). -/
def State.useClass (s : State) (c : ClassId) : State :=
  s.setSettings { s.settings with useCount := s.settings.useCount.set c (s.settings.useCount.get c + 1) }

/-- The use count of a class decreased by one (R174). -/
def State.unuseClass (s : State) (c : ClassId) : State :=
  s.setSettings { s.settings with useCount := s.settings.useCount.set c (s.settings.useCount.get c - 1) }

/-- A record retired: the slot is FREE with every field cleared (R2), and the class is used once less (R174). -/
def State.freeSlot (s : State) (i : Slot) (r : Rec) : State := (s.setRecord i none).unuseClass r.cls

/-- `n` watt-hours added to a record and to the energy removed total, each saturating (R23, R81, R82). -/
def State.creditEnergy (s : State) (i : Slot) (r : Rec) (n : Nat) : State :=
  (s.setRecord i (some { r with energy := satAdd 999999 r.energy n })).setTallies
    { s.tallies with energyTotal := satAdd tallyMax s.tallies.energyTotal n }

/-- The retired shredded tally increased by one (R21, R147). -/
def State.countShredded (s : State) : State :=
  s.setTallies { s.tallies with shredded := satAdd tallyMax s.tallies.shredded 1 }

/-- A record counted as admitted: its residual and mass added to the tallies (R24, R142, R144). -/
def State.countAdmitted (s : State) (r : Rec) : State :=
  s.setTallies { s.tallies with
    residualAdmitted := satAdd tallyMax s.tallies.residualAdmitted r.residual
    massAdmitted := satAdd tallyMax s.tallies.massAdmitted r.mass }

/-! ### Waiting writes (R32, R34) -/

/-- A write asked for in PARKED moves the arbiter to ENGINE_ACCESS for its engine (R32). -/
def State.wake (s : State) (e : Engine) : State :=
  match s.arb.access with
  | .parked => s.setArb { s.arb with access := .engine e }
  | .port _ | .engine _ => s

/-- A bay channel asks for a write: it joins the end of the channel's list (R34). -/
def State.askBay (s : State) (b : BayId) (w : BayWrite) : State :=
  (s.modBay b (fun x => { x with writes := x.writes ++ [w] })).wake (.bay b)

/-- The Feed Controller asks for a write (R34). -/
def State.askFeed (s : State) (w : FeedWrite) : State :=
  (s.setArb { s.arb with feedWrites := s.arb.feedWrites ++ [w] }).wake .feed

/-- The Fire Zone Monitor asks for a quarantine sweep (R34, R164). -/
def State.askSweep (s : State) (z : ZoneId) : State :=
  (s.setArb { s.arb with sweeps := s.arb.sweeps ++ [z] }).wake .fire

/-- A waiting write is a carry. -/
def BayWrite.isCarry : BayWrite → Bool
  | .carry _ => true
  | .flag _ _ | .stage _ | .unbind _ => false

/-- The count of waiting carries (R80). -/
def Bay.waitingCarries (x : Bay) : Nat := x.writes.countP BayWrite.isCarry

/-- A bay channel asks for `n` carries. A carry that would take the count of waiting carries above 65,535 is dropped,
with BAY attention ENERGY_LOST (R80). -/
def State.askCarries (s : State) (b : BayId) (e : Entry) (n : Nat) : State :=
  let room := countMax - (s.bay b).waitingCarries
  let s1 := if min n room = 0 then s else
    (s.modBay b (fun x => { x with writes := x.writes ++ List.replicate (min n room) (.carry e) })).wake (.bay b)
  if room < n then s1.raiseBay b .energyLost else s1

/-- A bay channel asks for a hazard flag write on its bound record (R23). -/
def State.askFlag (s : State) (b : BayId) (f : HazardFlag) : State :=
  match (s.bay b).binding with
  | some e => s.askBay b (.flag e f)
  | none => s

/-- A bay channel asks for a stage change that keeps its binding; the stage it names is remembered (R109). -/
def State.askStage (s : State) (b : BayId) (expected new : Stage) (rest : Option (Nat × Nat)) : State :=
  match (s.bay b).binding with
  | some e =>
    (s.modBay b (fun x => { x with lastStage := new })).askBay b (.stage { entry := e, expected, new, rest })
  | none => s

/-- A bay channel asks for the stage change that ends its binding and sets release pending. The level is 0 and a
hold-off ends (R64, R92). -/
def State.askUnbind (s : State) (b : BayId) (expected new : Stage) (rest : Option (Nat × Nat)) (reboundLimit : Bool) :
    State :=
  match (s.bay b).binding with
  | some e =>
    (s.modBay b (fun x => { x with releasePending := true, level := 0, holdOff := none, lastStage := new })).askBay b
      (.unbind { entry := e, expected, new, rest, reboundLimit })
  | none => s

/-! ### The order of the grants (R33) -/

/-- The request of a port that waits at the arbiter (R31). -/
def PortState.waitingRequest (x : PortState) : Option Instr :=
  match x.inFlight with
  | some (.waiting i) => some i
  | some (.answered _ _) | none => none

/-- The arbiter's next state at the end of a grant (R32, R33): the Fire Zone Monitor, the Feed Controller, the
lowest-numbered bay channel with a write waiting, the Plant Port, the Line Port, else PARKED. -/
def State.nextAccess (s : State) : Access :=
  if s.arb.sweeps ≠ [] then .engine .fire
  else if s.arb.feedWrites ≠ [] then .engine .feed
  else match s.bays.find (fun x => !x.writes.isEmpty) with
    | some b => .engine (.bay b)
    | none =>
      if s.plant.waitingRequest.isSome then .port .plant
      else if s.line.waitingRequest.isSome then .port .line
      else .parked

/-- The state with the arbiter in a given state (Table 2-1). -/
def State.setAccess (s : State) (a : Access) : State := s.setArb { s.arb with access := a }

/-! ### Answers (R186, R187) -/

/-- A status with the results of an accepted request. -/
structure Reply where
  status : Status
  results : Results
deriving DecidableEq, Repr

/-- A refusal carries no results (R186). -/
def Reply.refuse (st : Status) : Reply := ⟨st, .empty⟩

/-- An answer with status OK. -/
def Reply.ok (r : Results) : Reply := ⟨.ok, r⟩

/-- The answer built on a port carries the port's marks as they stand (R187); the request stays in flight until the
answer has gone (R183, R185). -/
def State.answer (s : State) (p : Port) (echo : Nat) (rep : Reply) : State :=
  s.setPort p { s.port p with
    inFlight := some (.answered
      { echo, status := rep.status, lockExpired := (s.port p).lockMark, restart := (s.port p).restartMark,
        results := rep.results } false) }

end Sys2Proof.Machine
end

