-- ==== Sys2Proof/Machine/Operands.lean ====
section
/-!
DEFINITION. The operands of the port requests: what each code names, each operand's range (check 2 of R13), and the
ports each request is accepted from (check 1 of R13, Table 10-4).
-/

namespace Sys2Proof.Machine

/-- A bay number from 0 to 11. -/
def bayOf (n : Nat) : Option BayId := if h : n < 12 then some ⟨n, h⟩ else none

/-- A zone number from 0 to 6. -/
def zoneOf (n : Nat) : Option ZoneId := if h : n < 7 then some ⟨n, h⟩ else none

/-- A class number from 0 to 7. -/
def classOf (n : Nat) : Option ClassId := if h : n < 8 then some ⟨n, h⟩ else none

/-- A slot number from 0 to 255. -/
def slotOf (n : Nat) : Option Slot := if h : n < 256 then some ⟨n, h⟩ else none

/-- A sensor address from 0 to 27. -/
def detOf (n : Nat) : Option DetId := if h : n < 28 then some ⟨n, h⟩ else none

/-- A stage by its code, numbered as Table 1-3 lists them (R181). -/
def stageOf : Nat → Option Stage
  | 0 => some .waiting
  | 1 => some .probing
  | 2 => some .discharging
  | 3 => some .resting
  | 4 => some .discharged
  | 5 => some .queued
  | 6 => some .atGate
  | 7 => some .inShredder
  | 8 => some .shredUnconfirmed
  | _ => none

/-- A fault mode by its code (Table 9-2, R181). -/
def modeOf : Nat → Option FaultMode
  | 0 => some .latch
  | 1 => some .retry
  | _ => none

/-- A combine setting by its code (Table 9-2, R181). -/
def combineOf : Nat → Option Combine
  | 0 => some .or
  | 1 => some .and
  | _ => none

/-- A detector kind by its code (R177, R181). -/
def kindOf : Nat → Option DetKind
  | 0 => some .heat
  | 1 => some .gas
  | _ => none

/-- `n` lies from `lo` to `hi`. -/
def within (lo hi n : Nat) : Bool := decide (lo ≤ n) && decide (n ≤ hi)

/-- The tag's range (R3). -/
def tagOk (t : Nat) : Bool := within 1 281474976710655 t

/-- The operator fields, in the order of R16. -/
inductive OpField
  | cls
  | cells
  | capacity
  | declared
  | mass
  | damaged
deriving DecidableEq, Repr

/-- An operator field by its code (R16, R181). -/
def fieldOf : Nat → Option OpField
  | 0 => some .cls
  | 1 => some .cells
  | 2 => some .capacity
  | 3 => some .declared
  | 4 => some .mass
  | 5 => some .damaged
  | _ => none

/-- The range of an operator field (Table 1-1; for DAMAGED R16). -/
def OpField.ok (f : OpField) (v : Nat) : Bool :=
  match f with
  | .cls => within 0 7 v
  | .cells => within 1 240 v
  | .capacity => within 1 5000 v
  | .declared => within 0 150000 v
  | .mass => within 1 10000 v
  | .damaged => within 0 1 v

/-- The place of an operator field in a field mask (R181). -/
def OpField.bit : OpField → Nat
  | .cls => 0
  | .cells => 1
  | .capacity => 2
  | .declared => 3
  | .mass => 4
  | .damaged => 5

/-- A given value of SET_TIMING lies in its range (R179). -/
def timingOk (lo hi : Nat) : Option Nat → Bool
  | some v => within lo hi v
  | none => true

/-- Check 2 of R13: every operand is in its range and every relation between operands that the request's rule requires
holds; otherwise the request is refused with BAD_FIELD (R173 for the settings). -/
def operandsOk : Instr → Bool
  -- DEDUCED (log entry 22): a bit that stands for no kind, and a code other than 0 and 1 where two are listed.
  | .setAttentionMask _ m => within 0 63 m
  | .setAccess _ base count lp pp lm pm =>
    within 0 7 base && within 1 8 count && within 0 8 (base + count) && within 0 255 lp && within 0 255 pp
      && within 0 63 lm && within 0 63 pm
  | .register _ tag cls cells capacity declared mass damaged =>
    tagOk tag && OpField.cls.ok cls && OpField.cells.ok cells && OpField.capacity.ok capacity
      && OpField.declared.ok declared && OpField.mass.ok mass && OpField.damaged.ok damaged
  | .readRecord _ slot => within 0 255 slot
  | .find _ tag => tagOk tag
  | .scan _ stage start => (stageOf stage).isSome && within 0 255 start
  | .amend _ kind selector field value =>
    ((decide (kind = 0) && tagOk selector) || (decide (kind = 1) && within 0 255 selector))
      && (match fieldOf field with | some f => f.ok value | none => false)
  | .retire _ tag => tagOk tag
  | .quarantine _ tag => tagOk tag
  | .liftQuarantine _ tag => tagOk tag
  | .confirmShred _ tag outcome => tagOk tag && within 0 1 outcome
  | .assignBay _ tag bay => tagOk tag && within 0 11 bay
  | .abortBay _ bay => within 0 11 bay
  | .setSoftStop _ bay value => within 0 11 bay && within 0 1 value
  | .setLevelCap _ bay cap => within 0 11 bay && within 1 15 cap
  | .clearFault _ bay => within 0 11 bay
  | .readBay _ bay => within 0 11 bay
  | .enqueue _ tag => tagOk tag
  | .withdraw _ tag => tagOk tag
  | .clearAlarm _ zone => within 0 6 zone
  | .readZone _ zone => within 0 6 zone
  | .setClass _ cls c ev sv p wt st rest =>
    within 0 7 cls && within 1 50 c && within 1000 4500 ev && within 1000 4500 sv && decide (ev < sv)
      && within 0 200 p && within 0 140 wt && within 5 150 st && decide (wt < st) && within 10 600 rest
  | .setBayConfig _ bay rating cap toff n mode combine retry =>
    within 0 11 bay && within 10 2500 rating && within 1 15 cap && within 1 8 toff
      && (decide (n = 32) || decide (n = 256)) && (modeOf mode).isSome && (combineOf combine).isSome
      && within 1 60 retry
  | .setZoneConfig _ zone hw ha hh gw ga gh w =>
    within 0 6 zone && decide (-40 ≤ hw) && decide (hw ≤ 400) && decide (hw < ha) && decide (ha ≤ 400)
      && within 1 50 hh && within 0 10000 gw && decide (gw < ga) && decide (ga ≤ 10000) && within 1 1000 gh
      && within 1 15 w
  -- DESIGN CHOICE (log entry 22): with presence byte 0 the zone and kind fields are not looked at.
  | .setDetectorMap _ address used zone kind =>
    within 0 27 address
      && (decide (used = 0) || (decide (used = 1) && within 0 6 zone && (kindOf kind).isSome))
  | .setChamberConfig _ admitLevel abort tol cs ps =>
    within 50 1000 admitLevel && decide (admitLevel < abort) && decide (abort ≤ 1500) && within 10 500 tol && within 5 120 cs
      && within 60 1800 ps
  | .setTiming _ link lockMs rebound gate shred =>
    timingOk 3 15 link && timingOk 10 2550 lockMs && decide (lockMs.getD 0 % 10 = 0) && timingOk 1 7 rebound
      && timingOk 5 60 gate && timingOk 10 300 shred
  -- DEDUCED (log entry 22): a missing index of a group that has one is refused. DESIGN CHOICE (log entry 22): an index of a
  -- group that has none is not looked at.
  | .readSetting _ group index =>
    within 0 6 group && within 0 1 index.given
      && (match group with
          | 0 => decide (index.given = 1) && within 0 7 index.value
          | 1 => decide (index.given = 1) && within 0 11 index.value
          | 2 => decide (index.given = 1) && within 0 6 index.value
          | _ => true)
  | _ => true

/-- Check 1 of R13: the request is accepted from its port (Table 10-4). -/
def portAccepts : Instr → Bool
  | .setAccess p .. | .resetTallies p | .setClass p .. | .setBayConfig p .. | .setZoneConfig p ..
  | .setDetectorMap p .. | .setChamberConfig p .. | .setTiming p .. => decide (p = .line)
  | .liftQuarantine p _ | .confirmShred p _ _ | .clearAlarm p _ => decide (p = .plant)
  | _ => true

end Sys2Proof.Machine
end

