-- ==== Sys2Proof/Machine/Bays.lean ====
section
/-!
DEFINITION. The bay channel's own moves: the effective stop, hold and resume (R52 to R57), the current limit (R85 to
R87), entry to ACTIVE (R89), taking a fault (R107 to R109), the end of a retry (R110), and what an unbinding grant does
to the channel (R64, R82, R100).
-/

namespace Sys2Proof.Machine

/-! ### Stops -/

/-- The effective stop of a bay (R52). -/
def State.effectiveStop (s : State) (b : BayId) : Bool :=
  match (s.bayCfg b).combine with
  | .or => s.lines.stop.get b || (s.bay b).softStop
  | .and => s.lines.stop.get b && (s.bay b).softStop

/-- The unbound state of a bay that is not FAULTED: STOPPED when its effective stop is asserted, else IDLE (R51, R64). -/
def State.restState (s : State) (b : BayId) : BayState := if s.effectiveStop b then .stopped else .idle

/-! ### The current limit -/

/-- I_lim halved when a derating condition holds (step 2 of R85). -/
def derate (on : Bool) (i : Nat) : Nat := if on then i / 2 else i

/-- The current limit of a binding in 0.1 A (R85): base limit, derating in order, floor of 10. -/
def currentLimit (rating cRate capacity : Nat) (damaged iso warning : Bool) : Nat :=
  max 10 (derate warning (derate iso (derate damaged (min rating (cRate * capacity / 10)))))

/-- The raise threshold of a current limit (R85). -/
def raiseThreshold (limit : Nat) : Nat := limit * 7 / 8

/-- The rating of a bay. An unconfigured bay has none: it is free (log entry 7). -/
def State.rating (s : State) (b : BayId) : Nat := ((s.bayCfg b).rating).getD (Config.unsetRating b.1)

/-- The overcurrent level of a bay (R87). -/
def State.overcurrentLevel (s : State) (b : BayId) : Nat := s.rating b + s.rating b / 4

/-- The current limit computed anew from the copies, the settings and the derating conditions as they stand (R86). -/
def State.computeLimit (s : State) (b : BayId) : State :=
  match (s.bay b).copies with
  | some c => s.modBay b (fun x => { x with limit := some (currentLimit (s.rating b) (s.classCfg c.cls).cRate c.capacity
      c.damaged x.isoDerate x.warning) })
  | none => s

/-! ### Entry to ACTIVE, hold and resume -/

/-- The state of a run state. -/
def RunState.mode : RunState → BayState
  | .probing => .probing
  | .active => .active
  | .resting => .resting
  | .retrying => .retrying

/-- The states from which a bay goes to HELD (R55). -/
def BayState.run : BayState → Option RunState
  | .probing => some .probing
  | .active => some .active
  | .resting => some .resting
  | .retrying => some .retrying
  | .unconfigured | .stopped | .idle | .held | .faulted => none

/-- The fault cause a retry kind stands for (R110). -/
def RetryKind.cause : RetryKind → FaultCause
  | .overcurrent => .overcurrent
  | .overtemp => .overtemp
  | .openConnection => .openConnection

/-- The channel at its entry to ACTIVE: level 1, blanking, end-of-discharge and open-connection counts 0, no hold-off
(R89, R93, R105). -/
def Bay.enterActive (x : Bay) : Bay :=
  { x with mode := .active, level := 1, blanking := 2, endCount := 0, openCount := 0, holdOff := none, heldFrom := none }

/-- The stage change from RESTING to DISCHARGING that a fault cleared during rest owes is asked for at the entry to
ACTIVE (R95, R114). -/
def State.payStage (s : State) (b : BayId) : State :=
  if (s.bay b).stageOwed then
    (s.modBay b (fun x => { x with stageOwed := false })).askStage b .resting .discharging none
  else s

/-- The probe begun again at step 1; attempt and round are kept (R56, R73). -/
def Probe.restart (p : Probe) : Probe := { p with step := 1, count := 0, results := [] }

/-- The probe reset by a fault that is not a failed attempt: attempt 1 in the round it was in (R74). -/
def Probe.afterFault (p : Probe) : Probe := { p with step := 1, count := 0, results := [], attempt := 1 }

/-- The load level of a retry (R110, R111). -/
def retryLevel : Option RetryKind → Nat
  | some .openConnection => 1
  | some .overcurrent | some .overtemp | none => 0

/-- The channel in a retry begun from the start (R56, R110 to R112). DEDUCED (log entry 21): the fault state holds the
retry's cause again. -/
def Bay.beginRetry (x : Bay) : Bay :=
  { x with
    mode := .retrying, heldFrom := none, retryWait := 0, recovery := 0, level := retryLevel x.retry
    fault := x.retry.map (fun k => { cause := k.cause, entered := .active }) }

/-- A bay with a release pending back in its held-from state: the level stays 0 and no activity is resumed (R57). -/
def Bay.resumeReleasing (x : Bay) (r : RunState) : Bay :=
  { x with
    mode := r.mode, heldFrom := none
    fault := if r = .retrying then x.retry.map (fun k => { cause := k.cause, entered := .active }) else none }

/-- A HELD bay resumes: it returns to its held-from state (R56), with BAY attention HOLD. -/
def State.resume (s : State) (b : BayId) : State :=
  match (s.bay b).heldFrom with
  | none => s
  | some r =>
    let s1 :=
      if (s.bay b).releasePending then s.modBay b (fun x => x.resumeReleasing r)
      else match r with
        | .probing => s.modBay b (fun x => { x with mode := .probing, heldFrom := none, probe := x.probe.restart })
        | .active => (s.modBay b Bay.enterActive).payStage b
        | .resting => s.modBay b (fun x => { x with mode := .resting, heldFrom := none, restElapsed := 0 })
        | .retrying => s.modBay b Bay.beginRetry
    s1.raiseBay b .hold

/-- A hold cause joins the set of a bound bay. A bay in PROBING, ACTIVE, RESTING or RETRYING goes to HELD with level 0
and BAY attention HOLD (R54, R55); HELD and bound FAULTED bays keep their state (R53, R57). -/
def State.addHold (s : State) (b : BayId) (c : HoldCause) : State :=
  let x := s.bay b
  match x.binding with
  | none => s
  | some _ =>
    match x.mode.run with
    | some r =>
      (s.setBay b { x with
        holds := x.holds.put true c, mode := .held, heldFrom := some r, level := 0, holdOff := none, blanking := 0,
        fault := none }).raiseBay b .hold
    | none => s.setBay b { x with holds := x.holds.put true c }

/-- A hold cause leaves the set of a bound bay. A HELD bay whose set becomes empty resumes (R54, R56). -/
def State.dropHold (s : State) (b : BayId) (c : HoldCause) : State :=
  match (s.bay b).binding with
  | none => s
  | some _ =>
    let s1 := s.modBay b (fun x => { x with holds := x.holds.put false c })
    if (s1.bay b).mode = .held ∧ (s1.bay b).holds.empty = true then s1.resume b else s1

/-- What a change of the effective stop from `before` to its present value does (R52, R53). -/
def State.stopChanged (s : State) (b : BayId) (before : Bool) : State :=
  if s.effectiveStop b = before then s
  else if s.effectiveStop b then
    if (s.bay b).mode = .idle then s.modBay b (fun x => { x with mode := .stopped }) else s.addHold b .stop
  else
    if (s.bay b).mode = .stopped then s.modBay b (fun x => { x with mode := .idle }) else s.dropHold b .stop

/-! ### Faults -/

/-- A cause that can be retried when taken in ACTIVE (R107). -/
def FaultCause.retryKind : FaultCause → Option RetryKind
  | .overcurrent => some .overcurrent
  | .overtemp => some .overtemp
  | .openConnection => some .openConnection
  | .sensor | .moduleFault | .linkLost | .probeOpen | .probeInconsistent => none

/-- The state from which a fault is entered: the bay state, or the held-from state of a HELD bay (R57, R108). -/
def Bay.enteredFrom (x : Bay) : BayState :=
  match x.mode, x.heldFrom with
  | .held, some r => r.mode
  | m, _ => m

/-- The channel at its entry to FAULTED for a cause of chapter 5 or a link loss (R108). -/
def Bay.enterFaulted (x : Bay) (c : FaultCause) (shutdown : Option Int) : Bay :=
  { x with
    mode := .faulted, level := 0, holdOff := none, blanking := 0, endCount := 0, restElapsed := 0, heldFrom := none
    probe := if x.enteredFrom = .probing then x.probe.afterFault else x.probe
    retry := none, retryWait := 0, recovery := 0
    fault := some { cause := c, entered := x.enteredFrom, shutdown }
    stageOwed := x.stageOwed || decide (x.enteredFrom = .resting) }

/-- The channel at its entry to RETRYING from ACTIVE (R110, R111): the hold-off ends and blanking becomes 0. -/
def Bay.enterRetry (x : Bay) (k : RetryKind) : Bay :=
  { x with
    mode := .retrying, retry := some k, retryWait := 0, recovery := 0, level := retryLevel (some k), holdOff := none
    blanking := 0, fault := some { cause := k.cause, entered := .active } }

/-- BAY attention FAULT at a fault taken; a link loss has raised LINK (R61, R107). -/
def State.raiseFault (s : State) (b : BayId) (c : FaultCause) : State :=
  if c = .linkLost then s else s.raiseBay b .fault

/-- The fault goes to RETRYING rather than to FAULTED (R107); `count` is the fault count after its increase. -/
def retries (mode : FaultMode) (x : Bay) (c : FaultCause) (count : Nat) : Option RetryKind :=
  if mode = .retry ∧ x.mode = .active ∧ count ≤ 3 then c.retryKind else none

/-- A fault taken by a bay that is not FAULTED (R107 to R109). Bound: the fault count rises and the bay goes to RETRYING
or FAULTED; the fifth fault of the binding asks for the fault unbinding. Unbound: FAULTED, with no fault count. -/
def State.takeFault (s : State) (b : BayId) (c : FaultCause) : State :=
  let x := s.bay b
  match x.binding, x.copies with
  | some _, some copies =>
    let count := satAdd countMax x.faultCount 1
    match retries (s.bayCfg b).mode x c count with
    | some k => (s.setBay b { x.enterRetry k with faultCount := count }).raiseFault b c
    | none =>
      let s1 := s.setBay b { x.enterFaulted c (some ((s.classCfg copies.cls).shutT : Int)) with faultCount := count }
      let s2 := if count = 5 ∧ x.releasePending = false then s1.askUnbind b x.lastStage .waiting none false else s1
      s2.raiseFault b c
  | _, _ => (s.setBay b { x.enterFaulted c none with stageOwed := false }).raiseFault b c

/-- A retry is complete: ACTIVE at level 1, no fault state, BAY attention RETRY (R110). -/
def State.endRetry (s : State) (b : BayId) : State :=
  (s.modBay b (fun x => { x.enterActive with fault := none, retry := none, retryWait := 0, recovery := 0 })).raiseBay b .retry

/-! ### The end of a binding -/

/-- The carry entries of a binding that wait in the channel's list (R23). -/
def Bay.carriesOf (x : Bay) (e : Entry) : Nat := x.writes.countP (fun w => decide (w = .carry e))

/-- The watt-hour that the unbind rounding adds (R82). -/
def roundUp (frac : Nat) : Nat := if 18000000 ≤ frac then 1 else 0

/-- The watt-hours that an unbinding grant adds to the bound record: the waiting carries of the binding, then the unbind
rounding (R23, R82). -/
def Bay.unbindEnergy (x : Bay) (e : Entry) : Nat := x.carriesOf e + roundUp x.frac

/-- The channel after an unbinding grant, before it takes its unbound state: no binding, the carries made, F = 0,
holds and release pending clear, regulator and protection state cleared (R64, R82, R100, section 4.6). The
pack-temperature channel leaves its zone (R155). -/
def Bay.unbound (x : Bay) (e : Entry) : Bay :=
  { x with
    binding := none, copies := none, level := 0, holds := {}, heldFrom := none, releasePending := false, faultCount := 0
    frac := 0, writes := x.writes.filter (fun w => decide (w ≠ .carry e))
    blanking := 0, holdOff := none, endCount := 0, restElapsed := 0, rebounds := 0, isoDerate := false, limit := none
    warning := false, shutdown := false, openCount := 0, retry := none, retryWait := 0, recovery := 0
    lastStage := .probing, stageOwed := false, pack := none }

end Sys2Proof.Machine
end

