-- ==== Sys2Proof/Machine/Feed.lean ====
section
/-!
DEFINITION. The Feed Controller: admission (R139, R140), the gate (R142 to R146), the shredder (R147, R148), the reports
of the other blocks (R132, R151) and its record writes at their grants.
-/

namespace Sys2Proof.Machine

/-! ### Admission -/

/-- The eight admission conditions of R139, in order; true where the condition holds. -/
def State.admissionConditions (s : State) : List Bool :=
  [ (match s.feed.queue with
      | e :: _ => (match s.named e with | some r => decide (r.stage = .queued) | none => false)
      | [] => false),
    decide (s.chamber.state = .inert),
    s.lines.throatEmpty,
    !s.feed.faults.present,
    !s.anyStage .shredUnconfirmed,
    s.feed.block.empty,
    s.feed.gate.isNone && !s.feed.gateOpen,
    s.feed.shred.isNone && !s.anyStage .inShredder ]

/-- Every admission condition holds (R139). -/
def State.admits (s : State) : Bool := s.admissionConditions.all id

/-- Admission is evaluated: when every condition holds and no admission write waits, one is asked for, naming the head
(R139). -/
def State.evalAdmission (s : State) : State :=
  if s.admits = true ∧ s.feed.admissionWaiting = false then
    match s.feed.queue with
    | e :: _ => (s.setFeed { s.feed with admissionWaiting := true }).askFeed (.admission e)
    | [] => s
  else s

/-! ### Parts of the events -/

/-- A time in seconds as 10 ms periods (section 6.3 of the Introduction). -/
def periodsOf (seconds : Nat) : Nat := seconds * 100

/-- The gate closed: GATE_OPEN deasserted, the gate timer stopped, the gate record none (R146, R151). -/
def Feed.closeGate (f : Feed) : Feed := { f with gateOpen := false, gateTimer := none, gate := none }

/-- The last-returned memory set, with the gate timeout in force as its return window (R145). -/
def State.remember (s : State) (e : Entry) : State :=
  s.setFeed { s.feed with
    memory := some { slot := e.slot, tag := e.tag, remaining := periodsOf s.settings.timing.gateSec } }

/-- The memory cleared when it names a record (R137, R138, R140). -/
def State.forget (s : State) (e : Entry) : State :=
  match s.feed.memory with
  | some m => if m.slot = e.slot ∧ m.tag = e.tag then s.setFeed { s.feed with memory := none } else s
  | none => s

/-- The queue without an entry; the entries behind it move up (R136). -/
def Feed.leave (f : Feed) (e : Entry) : Feed := { f with queue := f.queue.filter (fun x => decide (x.slot ≠ e.slot)) }

/-- A kind added to the feed fault, with FEED attention (R150). -/
def State.addFeedFault (s : State) (g : FeedFaults → FeedFaults) : State :=
  (s.setFeed { s.feed with faults := g s.feed.faults }).raiseFeed

/-- The return of the gate record is started (R146): the gate closes, the memory is set and the return write is asked
for, with FEED attention. Without a gate record nothing is returned. -/
def State.startReturn (s : State) : State :=
  match s.feed.gate with
  | none => s
  | some e => (((s.setFeed s.feed.closeGate).remember e).askFeed (.giveBack e)).raiseFeed

/-- The shredder record given up: it becomes none and the shred timer stops (R148). -/
def Feed.dropShred (f : Feed) : Feed := { f with shred := none, shredTimer := none }

/-- The shredder record goes to SHRED_UNCONFIRMED: it is given up and the write is asked for (R148). -/
def State.loseShred (s : State) : State :=
  match s.feed.shred with
  | none => s
  | some e => (s.setFeed s.feed.dropShred).askFeed (.unconfirmed e)

/-! ### Events -/

/-- A gate pass at the Feed Controller: the pass of the gate record (R142), or an unexpected pass (R144). -/
def State.feedPass (s : State) : State :=
  match s.feed.gate with
  | some e =>
    (s.setFeed { s.feed.closeGate with
      shred := some e, passPending := true
      shredTimer := some { elapsed := 0, duration := periodsOf s.settings.timing.shredSec } }).askFeed (.pass e)
  | none =>
    let taken := s.feed.memory.map (fun m => ({ slot := m.slot, tag := m.tag } : Entry))
    ((s.setFeed { s.feed with faults := { s.feed.faults with unexpectedPass := true }, memory := none }).raiseFeed).askFeed
      (.unexpected taken)

/-- A throat-empty event at the Feed Controller (R147). -/
def State.feedThroatEmpty (s : State) : State :=
  match s.feed.shred with
  | some e => (s.setFeed s.feed.dropShred).askFeed (.retirement e)
  | none => s

/-- The gate timer expires with a gate record present (R146). -/
def State.gateExpired (s : State) : State :=
  match s.feed.gate, s.feed.gateTimer with
  | some _, some _ => (s.startReturn.addFeedFault (fun f => { f with gateTimeout := true })).evalAdmission
  | _, _ => s

/-- The shred timer expires with a shredder record present (R148). -/
def State.shredExpired (s : State) : State :=
  match s.feed.shred, s.feed.shredTimer with
  | some _, some _ => (s.loseShred.addFeedFault (fun f => { f with shredTimeout := true })).evalAdmission
  | _, _ => s

/-- The return window of the last-returned memory runs out (R145). -/
def State.windowEnded (s : State) : State := s.setFeed { s.feed with memory := none }

/-- The report of a change of chamber state (R132): from INERT to HOLD, SEALED or OPEN the record at the gate is returned;
from INERT to FIRE the gate closes; at an entry to INERT admission is evaluated. -/
def State.feedChamberReport (s : State) (old new : ChamberState) : State :=
  let s1 :=
    if old = .inert then
      match new with
      | .hold | .sealed | .doorOpen => s.startReturn
      | .fire => s.setFeed s.feed.closeGate
      | .inert | .shredding | .purging => s
    else s
  s1.evalAdmission

/-- The report of a zone's entry to ALARM (R151): the zone joins the zone block; zones 5 and 6 close the gate with no
return write; zone 6 gives up the shredder record. -/
def State.feedZoneAlarm (s : State) (z : ZoneId) : State :=
  let f := { s.feed with block := s.feed.block.put true z }
  let f := if z = 5 ∨ z = 6 then f.closeGate else f
  let f := if z = 6 then f.dropShred else f
  s.setFeed f

/-- The report of a zone's clearing (R151). -/
def State.feedZoneClear (s : State) (z : ZoneId) : State :=
  (s.setFeed { s.feed with block := s.feed.block.put false z }).evalAdmission

/-! ### Record writes at their grants -/

/-- The live record an entry names, when it is in the expected stage (R8). -/
def State.expect (s : State) (e : Entry) (g : Stage) : Option Rec :=
  match s.named e with
  | some r => if r.stage = g then some r else none
  | none => none

/-- The admission write at its grant (R140). -/
def State.makeAdmission (s : State) (e : Entry) : State :=
  let s0 := s.setFeed { s.feed with admissionWaiting := false }
  match s0.expect e .queued with
  | some r =>
    if s0.admits = true ∧ s0.feed.queue.head? = some e then
      ((s0.setRecord e.slot (some { r.admitted with stage := .atGate })).setFeed { s0.feed with
        gate := some e, gateOpen := true
        gateTimer := some { elapsed := 0, duration := periodsOf s0.settings.timing.gateSec } }).forget e
    else s0.evalAdmission
  | none => s0.evalAdmission

/-- The shredder path list with a new entry (R149); there is room for 8 (Table 7-1). DESIGN CHOICE (log entry 24): an
entry for which there is no room is not kept. -/
def Feed.joinPath (f : Feed) (x : PathEntry) : Feed :=
  { f with path := if f.path.length < 8 then f.path ++ [x] else f.path }

/-- A record counted into the shredder path: the admitted residual is kept in a new entry of the path list and the
tallies are increased (R142, R144, R149). -/
def State.enterPath (s : State) (e : Entry) (r : Rec) (unconfirmed : Bool) : State :=
  ((s.setRecord e.slot (some { r with stage := if unconfirmed then .shredUnconfirmed else .inShredder })).setFeed
    ((s.feed.leave e).joinPath { slot := e.slot, tag := e.tag, residual := r.residual, unconfirmed })).countAdmitted r

/-- The pass write at its grant (R142). -/
def State.makePass (s : State) (e : Entry) : State :=
  let s0 := s.setFeed { s.feed with passPending := false }
  match s0.expect e .atGate with
  | some r => s0.enterPath e r false
  | none => s0

/-- The unexpected-pass write at its grant (R144). -/
def State.makeUnexpected (s : State) (named : Option Entry) : State :=
  match named with
  | some e =>
    (match s.expect e .queued with
      | some r => (s.enterPath e r true).raiseFeed
      | none => s)
  | none => s

/-- The return write at its grant (R146). -/
def State.makeReturn (s : State) (e : Entry) : State :=
  match s.expect e .atGate with
  | some r => s.setRecord e.slot (some { r.returned with stage := .queued })
  | none => s

/-- The shredder path list without the entry of a record (R149). -/
def Feed.leavePath (f : Feed) (e : Entry) : Feed := { f with path := f.path.filter (fun x => decide (x.slot ≠ e.slot)) }

/-- The retirement write at its grant (R147). -/
def State.makeRetirement (s : State) (e : Entry) : State :=
  match s.expect e .inShredder with
  | some r => ((s.freeSlot e.slot r).countShredded).setFeed (s.feed.leavePath e)
  | none => s

/-- The shredder path list with the entry of a record at SHRED_UNCONFIRMED (R148, R167). -/
def Feed.unconfirmPath (f : Feed) (i : Slot) : Feed :=
  { f with path := f.path.map (fun x => if x.slot = i then { x with unconfirmed := true } else x) }

/-- The write to SHRED_UNCONFIRMED at its grant (R148). -/
def State.makeUnconfirmed (s : State) (e : Entry) : State :=
  match s.expect e .inShredder with
  | some r =>
    ((s.setRecord e.slot (some { r with stage := .shredUnconfirmed })).setFeed (s.feed.unconfirmPath e.slot)).raiseFeed
  | none => s

/-- The pass write that waits, if one does. -/
def FeedWrite.passEntry : FeedWrite → Option Entry
  | .pass e => some e
  | .admission _ | .unexpected _ | .giveBack _ | .retirement _ | .unconfirmed _ => none

/-- A pass write still waiting is made at the start of another grant, and leaves the Feed Controller's list (R143). -/
def State.makeWaitingPass (s : State) : State :=
  match s.arb.feedWrites.findSome? FeedWrite.passEntry with
  | some e =>
    (s.setArb { s.arb with feedWrites := s.arb.feedWrites.filter (fun w => decide (w ≠ .pass e)) }).makePass e
  | none => s

end Sys2Proof.Machine
end

