-- ==== Sys2Proof/Machine/Chamber.lean ====
section
/-!
DEFINITION. The Chamber Monitor: effective oxygen (R117 to R119), the chamber states and their timers (R120 to R129),
the outputs (R130, R131) and the reports to the Feed Controller (R132).
-/

namespace Sys2Proof.Machine

/-! ### Outputs -/

/-- The nitrogen valve output of a chamber state (R130). -/
def ChamberState.nitrogen : ChamberState → Bool
  | .purging | .inert | .shredding | .hold | .fire => true
  | .doorOpen | .sealed => false

/-- The internal shred permit (R131). -/
def permitOf (state : ChamberState) (eff : Option Nat) (abort : Nat) : Bool :=
  match state with
  | .inert | .shredding => true
  | .hold => (match eff with | some e => decide (e ≤ abort) | none => false)
  | .doorOpen | .sealed | .purging | .fire => false

/-- The chamber with its outputs as R130 and R131 give them for its state. -/
def Chamber.drive (c : Chamber) (abort : Nat) (plantPermit : Bool) : Chamber :=
  { c with
    nitrogen := c.state.nitrogen, flood := decide (c.state = .fire), permit := permitOf c.state c.eff abort
    shredPermit := permitOf c.state c.eff abort && plantPermit }

/-- The outputs brought up to date, at each change of chamber state, each recomputation and each change of PLANT_PERMIT
(R130, R131). -/
def State.driveChamber (s : State) : State :=
  s.setChamber (s.chamber.drive s.settings.chamber.abort s.lines.plantPermit)

/-- The chamber takes a new state: the outputs follow, CHAMBER attention is raised and the Feed Controller is handed the
report, all in the same event (R130, R131, R132). -/
def State.enterChamber (s : State) (new : ChamberState) : State :=
  if s.chamber.state = new then s
  else
    (((s.setChamber { s.chamber with state := new }).driveChamber).raiseChamber).feedChamberReport s.chamber.state new

/-- The confirm and purge timers stopped and the excess count 0 (R120, R126, R128). -/
def Chamber.stopTimers (c : Chamber) : Chamber := { c with confirm := none, purgeTimer := none, excess := 0 }

/-! ### Effective oxygen -/

/-- EFF and the analyser condition (Table 6-3). -/
def effective (a b : AnalyserState) (tolerance : Nat) : Option Nat × Condition :=
  match a.fresh, b.fresh, a.value, b.value with
  | true, true, some x, some y =>
    (some (max x y), if max x y - min x y ≤ tolerance then .agreed else .disagree)
  | true, _, some x, _ => (some x, .single .a)
  | _, true, _, some y => (some y, .single .b)
  | _, _, _, _ => (none, .noReading)

/-- The confirm condition (R122). -/
def Chamber.confirmHolds (c : Chamber) (admitLevel : Nat) : Bool :=
  decide (c.condition = .agreed) && (match c.eff with | some e => decide (e ≤ admitLevel) | none => false)

/-- The confirm timer started from 0 when the confirm condition holds, and stopped otherwise (R121, R124). -/
def Chamber.startConfirm (c : Chamber) (admitLevel : Nat) : Chamber :=
  { c with confirm := if c.confirmHolds admitLevel then some 0 else none }

/-- The confirm timer rule at a recomputation in PURGING or HOLD (R122). -/
def Chamber.confirmRule (c : Chamber) (admitLevel : Nat) : Chamber :=
  if c.state = .purging ∨ c.state = .hold then
    { c with confirm := if c.confirmHolds admitLevel then some (c.confirm.getD 0) else none }
  else c

/-- The excess count at an effective reading with condition AGREED in INERT or SHREDDING (R124). -/
def Chamber.countExcess (c : Chamber) (admitLevel : Nat) : Chamber :=
  if (c.state = .inert ∨ c.state = .shredding) ∧ c.condition = .agreed then
    { c with excess := match c.eff with
        | some e => if admitLevel < e then min 3 (c.excess + 1) else 0
        | none => c.excess }
  else c

/-- The chamber goes to HOLD after this recomputation (R124). -/
def Chamber.mustHold (c : Chamber) : Bool :=
  decide (c.state = .inert ∨ c.state = .shredding) && (decide (c.condition ≠ .agreed) || decide (3 ≤ c.excess))

/-- A recomputation of the effective oxygen, an effective reading or not (R119): EFF and the condition, CHAMBER
attention at a change of condition, then the confirm timer rule, the HOLD entry rule and the shred permit rule. -/
def State.recompute (s : State) (effectiveReading : Bool) : State :=
  let cfg := s.settings.chamber
  let e := effective s.chamber.a s.chamber.b cfg.tolerance
  let c := { s.chamber with eff := e.1, condition := e.2 }
  let c := c.confirmRule cfg.admitLevel
  let c := if effectiveReading then c.countExcess cfg.admitLevel else c
  let s1 := s.setChamber c
  let s2 := if s.chamber.condition = e.2 then s1 else s1.raiseChamber
  if c.mustHold then
    (s2.setChamber ({ c with excess := 0 }.startConfirm cfg.admitLevel)).enterChamber .hold
  else s2.driveChamber

/-- An analyser of the Chamber Monitor. -/
def Chamber.analyser (c : Chamber) : Analyser → AnalyserState
  | .a => c.a
  | .b => c.b

/-- The chamber with an analyser replaced. -/
def Chamber.setAnalyser (c : Chamber) (w : Analyser) (x : AnalyserState) : Chamber :=
  match w with
  | .a => { c with a := x }
  | .b => { c with b := x }

/-- An analyser frame with a new toggle (R117): an OK frame renews value and freshness, a FAULT frame makes the analyser
stale; either recomputes the effective oxygen. -/
def State.analyserReading (s : State) (w : Analyser) (fault : Bool) (value : Int) : State :=
  if fault then
    (s.setChamber (s.chamber.setAnalyser w { s.chamber.analyser w with fresh := false })).recompute false
  else
    (s.setChamber (s.chamber.setAnalyser w { value := some (min 2500 value.toNat), fresh := true, age := 0 })).recompute true

/-- An analyser's freshness lapses: no fresh frame for 100 periods (R118). -/
def State.analyserLapse (s : State) (w : Analyser) : State :=
  if (s.chamber.analyser w).fresh then
    (s.setChamber (s.chamber.setAnalyser w { s.chamber.analyser w with fresh := false, age := 100 })).recompute false
  else s

/-! ### Chamber states -/

/-- The door opens (R120): SEALED, PURGING, INERT, SHREDDING and HOLD go to OPEN; a record in the shredder is given up
(R132, R148). -/
def State.doorOpens (s : State) : State :=
  match s.chamber.state with
  | .doorOpen | .fire => s
  | .sealed | .purging | .inert | .shredding | .hold =>
    (((s.setChamber s.chamber.stopTimers).enterChamber .doorOpen).loseShred).evalAdmission

/-- The door closes (R120). -/
def State.doorCloses (s : State) : State :=
  match s.chamber.state with
  | .doorOpen => s.enterChamber .sealed
  | .sealed | .purging | .inert | .shredding | .hold | .fire => s

/-- A purge is started from SEALED (R121). -/
def State.startPurge (s : State) : State :=
  (s.setChamber ({ s.chamber with purgeTimer := some 0, purgeFault := false }.startConfirm
    s.settings.chamber.admitLevel)).enterChamber .purging

/-- STOP_CHAMBER is accepted in PURGING, in INERT and in HOLD with the throat EMPTY (R126). -/
def Chamber.stoppable (c : Chamber) : Bool :=
  match c.state with
  | .purging | .inert => true
  | .hold => !c.loaded
  | .doorOpen | .sealed | .shredding | .fire => false

/-- Inerting ended at the request of a client (R126). -/
def State.stopInerting (s : State) : State := (s.setChamber s.chamber.stopTimers).enterChamber .sealed

/-- The confirm time elapses while the confirm timer runs: PURGING goes to INERT (R122); HOLD is left for SHREDDING or
INERT by the throat status (R125). -/
def State.confirmElapsed (s : State) : State :=
  match s.chamber.confirm with
  | none => s
  | some _ =>
    match s.chamber.state with
    | .purging => (s.setChamber s.chamber.stopTimers).enterChamber .inert
    | .hold => (s.setChamber s.chamber.stopTimers).enterChamber (if s.chamber.loaded then .shredding else .inert)
    | .doorOpen | .sealed | .inert | .shredding | .fire => s

/-- The purge timer reaches the purge timeout in PURGING (R123). -/
def State.purgeExpired (s : State) : State :=
  match s.chamber.purgeTimer with
  | none => s
  | some _ =>
    if s.chamber.state = .purging then
      (s.setChamber { s.chamber with confirm := none, purgeTimer := none, purgeFault := true }).enterChamber .sealed
    else s

/-- A gate pass event at the Chamber Monitor (R127). -/
def State.chamberPass (s : State) : State :=
  let s1 := s.setChamber { s.chamber with loaded := true }
  if s.chamber.state = .inert then s1.enterChamber .shredding else s1

/-- A throat-empty event at the Chamber Monitor (R127). -/
def State.chamberThroatEmpty (s : State) : State :=
  let s1 := s.setChamber { s.chamber with loaded := false }
  if s.chamber.state = .shredding then s1.enterChamber .inert else s1

/-- Zone 6 enters ALARM: the chamber goes to FIRE from any state (R128). -/
def State.chamberFire (s : State) : State :=
  if s.chamber.state = .fire then s else (s.setChamber s.chamber.stopTimers).enterChamber .fire

/-- Zone 6 is cleared: FIRE is left for SEALED or OPEN by the door status (R129). -/
def State.chamberFireExit (s : State) : State :=
  if s.chamber.state = .fire then
    (s.setChamber s.chamber.stopTimers).enterChamber (if s.lines.doorClosed then .sealed else .doorOpen)
  else s

end Sys2Proof.Machine
end

