-- ==== Sys2Proof/Machine/Zones.lean ====
section
/-!
DEFINITION. The Fire Zone Monitor: the channel filter (R156, R158), detector, pack-temperature and flame channels (R157,
R159, R160), the vote (R162), the entry to ALARM with its reports (R164), the clearing (R168, R169), and the channels
that join and leave (R155, R161).
-/

namespace Sys2Proof.Machine

/-! ### The filter -/

/-- The three levels of a channel (R156). -/
structure Levels where
  warn : Int
  alarm : Int
  quiet : Int
deriving DecidableEq, Repr

/-- A run after a reading: one more, at most 15, when the reading meets its condition, else 0 (R156). -/
def runStep (run : Nat) (meets : Bool) : Nat := if meets then min 15 (run + 1) else 0

/-- The run counts after a valid reading (R156). -/
def Chan.countRuns (c : Chan) (l : Levels) (v : Int) : Chan :=
  { c with
    alarmRun := runStep c.alarmRun (decide (l.alarm ≤ v))
    warnRun := runStep c.warnRun (decide (l.warn ≤ v))
    quietRun := runStep c.quietRun (decide (v < l.quiet) && decide (v < l.alarm)) }

/-- The judgement of the channel state (the table of R156). A channel in FAULT is not judged. -/
def Chan.judge (c : Chan) (w : Nat) : Chan :=
  match c.state with
  | .normal => if w ≤ c.alarmRun then { c with state := .alarmLevel } else if w ≤ c.warnRun then { c with state := .warn } else c
  | .warn => if w ≤ c.alarmRun then { c with state := .alarmLevel } else if w ≤ c.quietRun then { c with state := .normal } else c
  | .alarmLevel => if w ≤ c.quietRun then { c with state := .normal } else c
  | .fault => c

/-- A valid reading taken by a channel (R156, R158): in FAULT the second valid reading in a row leaves FAULT for NORMAL
and is judged. -/
def Chan.take (c : Chan) (l : Levels) (w : Nat) (v : Int) : Chan :=
  let c := { c.countRuns l v with reading := some v }
  match c.state with
  | .fault =>
    if 2 ≤ c.good + 1 then { c with state := .normal, good := 0 }.judge w else { c with good := c.good + 1 }
  | .normal | .warn | .alarmLevel => c.judge w

/-- A channel put in FAULT: its runs and its count of valid readings become 0 (R158). DEDUCED (log entry 10): a channel
already in FAULT enters it again. -/
def Chan.fail (c : Chan) : Chan := { c with state := .fault, alarmRun := 0, warnRun := 0, quietRun := 0, good := 0 }

/-! ### Sources -/

/-- The source bit of a flame line in a ZONE detail (R188). -/
def flameSource : BitVec 32 := 1

/-- The source bit of a sensor address. -/
def detSource (d : DetId) : BitVec 32 := 1#32 <<< (d.1 + 1)

/-- The source bit of a bay of the zone. -/
def baySource (b : BayId) : BitVec 32 := 1#32 <<< (29 + b.1 % 3)

/-! ### The vote -/

/-- The detector addresses mapped to a zone (R155, R161). -/
def State.mappedTo (s : State) (z : ZoneId) : List DetId :=
  (Bank.places 28).filter (fun d =>
    match s.settings.detectors.get d with
    | some m => decide (m.zone = z)
    | none => false)

/-- The bays of a zone; none for zones 4 to 6 (Table 8-1). -/
def zoneBays (z : ZoneId) : List BayId := (Bank.places 12).filter (fun b => decide (bayZone b = z))

/-- The state of a flame channel: NORMAL or ALARM_LEVEL (R160). -/
def Flame.state (f : Flame) : ChanState := if f.alarmLevel then .alarmLevel else .normal

/-- The states of a zone's channels (R155): the flame line, the detectors, the pack-temperature channels. -/
def State.channelStates (s : State) (z : ZoneId) : List ChanState :=
  (s.zone z).flame.state :: (s.mappedTo z).map (fun d => (s.detector d).chan.state)
    ++ (zoneBays z).filterMap (fun b => (s.bay b).pack.map Chan.state)

/-- DEGRADED: some channel is in FAULT (R162). -/
def degradedOf (cs : List ChanState) : Bool := cs.contains .fault

/-- The number of channels in WARN. -/
def warnCount (cs : List ChanState) : Nat := cs.count .warn

/-- The zone enters ALARM by its vote (R162, case 2). -/
def alarming (cs : List ChanState) : Bool :=
  cs.contains .alarmLevel || decide (2 ≤ warnCount cs) || (degradedOf cs && decide (warnCount cs = 1))

/-- The zone state that the vote gives (R162). -/
def voteOf (before : ZoneState) (cs : List ChanState) : ZoneState :=
  if before = .alarm then .alarm
  else if alarming cs then .alarm
  else if warnCount cs = 1 then .preAlarm
  else .normal

/-- The entry to ALARM, within the event that makes it (R164): the sweep is asked for unless one waits, and the bays,
the feed and the chamber are told. -/
def State.enterAlarm (s : State) (z : ZoneId) : State :=
  let s1 := if (s.zone z).sweepWaiting then s
    else (s.setZone z { s.zone z with sweepWaiting := true }).askSweep z
  let s2 := (zoneBays z).foldl (fun t b => t.addHold b .zoneAlarm) s1
  let s3 := if z = 4 ∨ z = 5 ∨ z = 6 then s2.feedZoneAlarm z else s2
  let s4 := if z = 6 then s3.chamberFire else s3
  s4.raiseZone z 0

/-- The vote of a zone on its channels as they stand (R162). Each change of the zone state or of DEGRADED raises ZONE
attention. -/
def State.vote (s : State) (z : ZoneId) : State :=
  let cs := s.channelStates z
  let old := s.zone z
  let new := voteOf old.state cs
  let s1 := s.setZone z { old with state := new, degraded := degradedOf cs }
  let s2 := if old.state = new ∧ old.degraded = degradedOf cs then s1 else s1.raiseZone z 0
  if new = .alarm ∧ old.state ≠ .alarm then s2.enterAlarm z else s2

/-- A channel that changed its state: ZONE attention with its source, then the vote (R156, R162). -/
def State.channelMoved (s : State) (z : ZoneId) (source : BitVec 32) (before after : ChanState) : State :=
  if before = after then s else (s.raiseZone z source).vote z

/-! ### Detector channels -/

/-- The levels of a detector channel (R157). -/
def detLevels (k : DetKind) (c : ZoneCfg) : Levels :=
  match k with
  | .heat => { warn := c.heatWarn, alarm := c.heatAlarm, quiet := c.heatWarn - c.heatHyst }
  | .gas => { warn := c.gasWarn, alarm := c.gasAlarm, quiet := (c.gasWarn : Int) - c.gasHyst }

/-- The valid range of a detector reading (R157). -/
def detValid (k : DetKind) (v : Int) : Bool :=
  match k with
  | .heat => decide (-40 ≤ v) && decide (v ≤ 400)
  | .gas => decide (0 ≤ v) && decide (v ≤ 10000)

/-- The settings of a zone (Table 9-3). -/
def State.zoneCfg (s : State) (z : ZoneId) : ZoneCfg := s.settings.zones.get z

/-- The detector channel with its state changed, its attention and its vote. -/
def State.moveDetector (s : State) (d : DetId) (m : MapEntry) (x : Detector) : State :=
  (s.setDetector d x).channelMoved m.zone (detSource d) (s.detector d).chan.state x.chan.state

/-- A frame with a new toggle from a mapped address (R157): FAULT puts the channel in FAULT; an OK frame is fresh, and
its value is the latest reading, valid or not. -/
def State.detectorReading (s : State) (d : DetId) (fault : Bool) (v : Int) : State :=
  match s.settings.detectors.get d with
  | none => s
  | some m =>
    let x := s.detector d
    if fault then s.moveDetector d m { x with chan := x.chan.fail }
    else if detValid m.kind v then
      s.moveDetector d m { chan := x.chan.take (detLevels m.kind (s.zoneCfg m.zone)) (s.zoneCfg m.zone).w v, age := 0 }
    else s.moveDetector d m { chan := { x.chan.fail with reading := some v }, age := 0 }

/-- A mapped detector's freshness lapses (R157): at 100 periods without a fresh frame its channel goes to FAULT, and
there is no further lapse until its next fresh frame. -/
def State.detectorLapse (s : State) (d : DetId) : State :=
  match s.settings.detectors.get d with
  | none => s
  | some m =>
    let x := s.detector d
    if x.age < 100 then s.moveDetector d m { chan := x.chan.fail, age := 100 } else s

/-! ### Pack-temperature channels -/

/-- A pack temperature is valid (R77, R159). -/
def tempValid (t : Int) : Bool := decide (-40 ≤ t) && decide (t ≤ 150)

/-- The levels of a bay's pack-temperature channel (R159). -/
def packLevels (shutT : Nat) (c : ZoneCfg) : Levels :=
  { warn := shutT, alarm := c.heatAlarm, quiet := (shutT : Int) - 5 }

/-- The pack-temperature channel of a bay with its state changed, its attention and its vote. -/
def State.movePack (s : State) (b : BayId) (before after : Chan) : State :=
  (s.modBay b (fun x => { x with pack := some after })).channelMoved (bayZone b) (baySource b) before.state after.state

/-- The pack temperature of a fresh sample handed to the bay's pack-temperature channel (R159). An invalid temperature
puts the channel in FAULT and is not used (R106). -/
def State.packReading (s : State) (b : BayId) (t : Int) : State :=
  match (s.bay b).pack, (s.bay b).copies with
  | some c, some k =>
    if tempValid t then
      s.movePack b c (c.take (packLevels (s.classCfg k.cls).shutT (s.zoneCfg (bayZone b))) (s.zoneCfg (bayZone b)).w t)
    else s.movePack b c c.fail
  | _, _ => s

/-- The bay's link is lost: its pack-temperature channel goes to FAULT (R61, R159). -/
def State.packLost (s : State) (b : BayId) : State :=
  match (s.bay b).pack with
  | some c => s.movePack b c c.fail
  | none => s

/-- A pack-temperature channel joins the bay's zone in NORMAL with its counts 0, and the zone votes (R155). -/
def State.packJoin (s : State) (b : BayId) : State :=
  (s.modBay b (fun x => { x with pack := some {} })).vote (bayZone b)

/-! ### Flame lines -/

/-- The flame channel after a scan that finds the line at a level (R160). -/
def Flame.scan (f : Flame) (level : Bool) : Flame :=
  { last := some level, previous := f.last
    alarmLevel := if f.last = some level then level else f.alarmLevel }

/-- A scan of one flame line (R160). -/
def State.scanFlame (s : State) (z : ZoneId) (level : Bool) : State :=
  let f := (s.zone z).flame
  (s.setZone z { s.zone z with flame := f.scan level }).channelMoved z flameSource f.state (f.scan level).state

/-! ### Clearing -/

/-- No channel of the zone is WARN or ALARM_LEVEL (R168). -/
def State.zoneQuiet (s : State) (z : ZoneId) : Bool :=
  !((s.channelStates z).contains .warn || (s.channelStates z).contains .alarmLevel)

/-- The clearing of a zone in ALARM, with its reports (R168, R169). -/
def State.clearZone (s : State) (z : ZoneId) : State :=
  let s1 := (s.setZone z { s.zone z with state := .normal }).raiseZone z 0
  let s2 := (zoneBays z).foldl (fun t b => t.dropHold b .zoneAlarm) s1
  let s3 := if z = 6 then s2.chamberFireExit else s2
  if z = 4 ∨ z = 5 ∨ z = 6 then s3.feedZoneClear z else s3

/-! ### The detector map -/

/-- The map entry of an address replaced (R161, R177): an old channel leaves its zone, a new one joins its zone in NORMAL
with its runs and its time 0, and each zone votes at once. -/
def State.remap (s : State) (d : DetId) (entry : Option MapEntry) : State :=
  let old := s.settings.detectors.get d
  if old = entry then s
  else
    let s1 := s.setSettings { s.settings with detectors := s.settings.detectors.set d none }
    let s2 := match old with
      | some m => s1.vote m.zone
      | none => s1
    let s3 := (s2.setSettings { s2.settings with detectors := s2.settings.detectors.set d entry }).setDetector d {}
    match entry with
    | some m => s3.vote m.zone
    | none => s3

end Sys2Proof.Machine
end

