-- ==== Sys2Proof/Machine/Protection.lean ====
section
/-!
DEFINITION. The protections of a fresh sample (R101 to R106), and CLEAR_FAULT's checks and outcome (R113, R114).
-/

namespace Sys2Proof.Machine

/-- The latest fresh sample. A sample never taken has no values: they are free (log entry 7). -/
def Bay.latest (x : Bay) : Sample :=
  x.sample.getD { v := Config.noSample 0, i := Config.noSample 1, t := Config.noSample 2, comparator := false,
                  loadFault := false }

/-- A sample is an overcurrent: over range, or at or above I_oc (R102). -/
def overcurrentBy (level : Nat) (i : Nat) : Bool := decide (2500 < i) || decide (level ≤ i)

/-- The overtemperature warning after a sample (R103). -/
def warningAfter (on : Bool) (warnT : Nat) (t : Int) : Bool :=
  if !tempValid t then on
  else if (warnT : Int) ≤ t then true
  else if t < (warnT : Int) - 5 then false
  else on

/-- The shutdown condition after a sample (R104). -/
def shutdownAfter (on : Bool) (shutT : Nat) (t : Int) : Bool :=
  if !tempValid t then on
  else if (shutT : Int) ≤ t then true
  else if t < (shutT : Int) - 5 then false
  else on

/-- The warning and the shutdown condition of a bound bay brought up to date (R101, R103, R104): a start or end of the
warning raises TEMP and recomputes the limit; a start of the shutdown condition asks for OVERTEMP on the record. -/
def State.trackTemp (s : State) (b : BayId) (t : Int) : State :=
  match (s.bay b).copies with
  | none => s
  | some k =>
    let x := s.bay b
    let cfg := s.classCfg k.cls
    let w := warningAfter x.warning cfg.warnT t
    let d := shutdownAfter x.shutdown cfg.shutT t
    let s1 := if w = x.warning then s
      else ((s.modBay b (fun y => { y with warning := w })).computeLimit b).raiseBay b .temp
    let s2 := s1.modBay b (fun y => { y with shutdown := d })
    if d = true ∧ x.shutdown = false then s2.askFlag b .overtemp else s2

/-- The states of a bound bay in which SENSOR, MODULE, OVERCURRENT and OVERTEMP are faults (R101). -/
def BayState.faultable : BayState → Bool
  | .probing | .active | .resting | .held | .retrying => true
  | .unconfigured | .stopped | .idle | .faulted => false

/-- The open-connection count after a sample in ACTIVE (R105): a blanked sample and a sample at level 0 leave it. -/
def Bay.openAfter (x : Bay) (i : Nat) : Nat :=
  if x.mode = .active ∧ x.blanking = 0 ∧ 1 ≤ x.level then (if i < 5 then x.openCount + 1 else 0) else x.openCount

/-- The fault that the first four tests find in a bound state, in the order SENSOR, MODULE, OVERCURRENT, OVERTEMP
(R101). -/
def boundFault (x : Bay) (p : Sample) (oc : Nat) (shutT : Nat) : Option FaultCause :=
  if !x.mode.faultable then none
  else if !tempValid p.t then some .sensor
  else if p.loadFault then some .moduleFault
  else if overcurrentBy oc p.i then some .overcurrent
  else if (shutT : Int) ≤ p.t ∧ ¬ (x.mode = .retrying ∧ x.retry = some .overtemp) then some .overtemp
  else none

/-- The fault tests of a fresh sample in a bound state (R101 to R106). Open connection is tested last, in ACTIVE: when the
count reaches N the flag write is asked for and the fault is taken. -/
def State.testBound (s : State) (b : BayId) (p : Sample) : State :=
  let x := s.bay b
  match x.copies with
  | none => s
  | some k =>
    match boundFault x p (s.overcurrentLevel b) (s.classCfg k.cls).shutT with
    | some c => s.takeFault b c
    | none =>
      let n := x.openAfter p.i
      if x.mode = .active ∧ n ≠ x.openCount ∧ (s.bayCfg b).nOpen ≤ n then
        ((s.modBay b (fun y => { y with openCount := 0 })).askFlag b .openConnection).takeFault b .openConnection
      else s.modBay b (fun y => { y with openCount := n })

/-- The fault tests of a fresh sample in IDLE and STOPPED: MODULE, then OVERCURRENT (R101, R102, R106). -/
def State.testUnbound (s : State) (b : BayId) (p : Sample) : State :=
  match (s.bay b).mode with
  | .idle | .stopped =>
    if p.loadFault then s.takeFault b .moduleFault
    else if overcurrentBy (s.overcurrentLevel b) p.i then s.takeFault b .overcurrent
    else s
  | .unconfigured | .probing | .active | .resting | .held | .faulted | .retrying => s

/-- Stage 3 of a fresh frame (R78, R101). -/
def State.protect (s : State) (b : BayId) (p : Sample) : State :=
  if (s.bay b).binding.isSome then (s.trackTemp b p.t).testBound b p else s.testUnbound b p

/-! ### CLEAR_FAULT -/

/-- The shutdown check of CLEAR_FAULT (check 4 of R113). -/
def tooHot (f : FaultRec) (t : Int) : Bool :=
  match f.shutdown with
  | some d => !tempValid t || !decide (t < d - 5)
  | none => false

/-- A FAULTED bay may not be cleared: the five checks of R113, and an unbound bay with cause LINK_LOST, which CLEAR_FAULT cannot
clear (R114). DEDUCED (log entry 30): it is refused with NOT_CLEAR on a RECEIVING link too. -/
def State.faultStands (s : State) (b : BayId) : Bool :=
  let x := s.bay b
  x.releasePending || decide (x.link = .lost) || overcurrentBy (s.overcurrentLevel b) x.latest.i
    || (match x.fault with
        | some f => tooHot f x.latest.t || (decide (f.cause = .moduleFault) && x.latest.loadFault)
          || (decide (f.cause = .linkLost) && x.binding.isNone)
        | none => false)

/-- The run state a bound bay takes when its fault is cleared (R114). -/
def clearedTo : BayState → RunState
  | .probing => .probing
  | .active | .resting | .retrying | .unconfigured | .stopped | .idle | .held | .faulted => .active

/-- The probe of a bound bay cleared to PROBING (R73, R74, R114): round 2 after a failed attempt, else the round it was
in. -/
def Probe.cleared (p : Probe) (c : FaultCause) : Probe :=
  match c with
  | .probeOpen | .probeInconsistent => { p with step := 1, count := 0, results := [], attempt := 1, round := 2 }
  | .overcurrent | .overtemp | .openConnection | .sensor | .moduleFault | .linkLost => p.afterFault

/-- An accepted CLEAR_FAULT (R114): the fault state becomes none, BAY attention FAULT, and the bay takes its next state;
a bound bay with a hold cause goes to HELD instead (R57). DESIGN CHOICE (log entry 33): that entry to HELD raises detail FAULT
alone, not HOLD. -/
def State.clearTheFault (s : State) (b : BayId) : State :=
  let x := s.bay b
  match x.binding, x.fault with
  | some _, some f =>
    let r : RunState := clearedTo f.entered
    let y := { x with fault := none, probe := if r = RunState.probing then x.probe.cleared f.cause else x.probe }
    let s1 :=
      if y.holds.empty then
        (if r = RunState.probing then s.setBay b { y with mode := .probing } else (s.setBay b y.enterActive).payStage b)
      else s.setBay b { y with mode := .held, heldFrom := some r }
    s1.raiseBay b .fault
  | _, _ => (s.setBay b { x with fault := none, mode := s.restState b }).raiseBay b .fault

end Sys2Proof.Machine
end

