-- ==== Sys2Proof/Machine/Samples.lean ====
section
/-!
DEFINITION. A frame on a bay link (R58 to R63, R78): the checks, energy (R79, R80), the probe (R71 to R73), the end of
discharge and the regulator (R89 to R94), the retries (R110, R111) and the answer; and the ends of a bay's times: link
timeout (R61), hold-off (R91), rest (R96 to R98) and retry wait (R110).
-/

namespace Sys2Proof.Machine

/-! ### The frame -/

/-- The content of a bay sample frame (Table 10-2). -/
structure SampleFrame where
  toggle : Bool
  comparator : Bool
  loadFault : Bool
  v : Nat
  i : Nat
  t : Int
deriving DecidableEq, Repr

/-- The frame that bytes on a link hold: it begins with the first 0xC3 (R192). Bytes before it are ignored (log entry
14). -/
def fromSync (bytes : List Byte) : List Byte := bytes.dropWhile (fun x => decide (x ≠ 0xC3))

/-- A sample frame that passes the three checks of R58: length 11, CRC, address of the link. -/
def readSample (b : BayId) (frame : List Byte) : Option SampleFrame :=
  match frame with
  | [_, a, f, v1, v0, i1, i0, t1, t0, c1, c0] =>
    if crcBytes [a, f, v1, v0, i1, i0, t1, t0] = [c1, c0] ∧ a.toNat = b.1 then
      some { toggle := f.getLsbD 0, comparator := f.getLsbD 1, loadFault := f.getLsbD 2
             v := bytesNum [v1, v0], i := bytesNum [i1, i0], t := codeInt 2 (bytesNum [t1, t0]) }
    else none
  | _ => none

/-- The sample of a fresh frame: V clamped to 9000, I and T as received (R77). -/
def SampleFrame.sample (f : SampleFrame) : Sample :=
  { v := min 9000 f.v, i := f.i, t := f.t, comparator := f.comparator, loadFault := f.loadFault }

/-! ### The answer -/

/-- The answer kind of a bay state to an accepted frame (Table 3-2). -/
def BayState.answerKind : BayState → AnswerKind
  | .unconfigured | .stopped | .held | .faulted => .stall
  | .idle | .probing | .active | .resting | .retrying => .ack

/-- The level in the command that a bay holds: 0 in a STALL state and while a probe step is named (R58, R63). -/
def Bay.heldLevel (x : Bay) : Nat :=
  match x.mode with
  | .active | .retrying => x.level
  | .unconfigured | .stopped | .idle | .probing | .resting | .held | .faulted => 0

/-- The probe step in the command that a bay holds; 0 when the command is a level (Table 10-2). -/
def Bay.heldStep (x : Bay) : Nat :=
  match x.mode with
  | .probing => x.probe.step
  | .unconfigured | .stopped | .idle | .active | .resting | .held | .faulted | .retrying => 0

/-- The answer to an accepted frame, fresh or repeat, by the state of the bay (R63, Table 3-2). -/
def Bay.accepted (x : Bay) : BayAnswer := { kind := x.mode.answerKind, level := x.heldLevel, step := x.heldStep }

/-- The answer to a discarded frame (R58). -/
def Bay.discarded (x : Bay) : BayAnswer := { kind := .nak, level := x.heldLevel, step := x.heldStep }

/-- STALL with level 0, the answer to every frame while a start is in progress (R63, R196). -/
def stallAnswer : BayAnswer := { kind := .stall, level := 0, step := 0 }

/-- The channel answers an accepted frame from its present state. -/
def State.answerFrame (s : State) (b : BayId) : State := s.modBay b (fun x => { x with sent := some x.accepted })

/-! ### Link and energy -/

/-- The gap count of a fresh frame (R60, R62). -/
def Bay.gap (x : Bay) : Nat := if x.link = .lost then 1 else max 1 x.periods

/-- The LINK_LOST fault of an unbound bay is cleared by a frame (R62, R67, R109). DEDUCED (log entry 30): by the first fresh
frame, also where the link was restored before the bay was unbound. -/
def State.endLinkLoss (s : State) (b : BayId) : State :=
  let x := s.bay b
  if x.mode = .faulted ∧ x.binding = none ∧ x.fault.map FaultRec.cause = some .linkLost
  then s.setBay b { x with mode := s.restState b, fault := none } else s

/-- What a fresh frame does to the link (R62): the first accepted frame on a LOST link restores it, and the LINK_LOST fault of
an unbound bay ends. -/
def State.restoreLink (s : State) (b : BayId) : State :=
  let s1 := s.endLinkLoss b
  if (s.bay b).link = .lost then (s1.modBay b (fun x => { x with link := .receiving })).raiseBay b .link else s1

/-- One watt-hour in units of the accumulator (R80). -/
def wattHour : Nat := 36000000

/-- The increment of a sample over `g` periods, in units of 10⁻⁴ J (R79). -/
def energyStep (p : Sample) (g : Nat) : Nat := if 2500 < p.i then 0 else p.v * p.i * g

/-- Stage 2: the energy of the sample is added to F and the whole watt-hours are asked for as carries (R79, R80). An
unbound bay integrates nothing. -/
def State.integrate (s : State) (b : BayId) (p : Sample) (g : Nat) : State :=
  match (s.bay b).binding with
  | none => s
  | some e =>
    let total := (s.bay b).frac + energyStep p g
    (s.modBay b (fun x => { x with frac := total % wattHour })).askCarries b e (total / wattHour)

/-! ### The probe -/

/-- The classification of the three results (Table 3-5). -/
def classify : List Bool → ProbeOutcome
  | [false, true, true] => .normal
  | [true, true, true] => .opened
  | [false, false, _] => .leakNeg
  | [false, true, false] => .leakPos
  | _ => .inconsistent

/-- The cause that a failed probe leaves (R73). -/
def ProbeOutcome.cause : ProbeOutcome → FaultCause
  | .opened => .probeOpen
  | .normal | .leakNeg | .leakPos | .inconsistent => .probeInconsistent

/-- The channel in FAULTED after the third failed attempt (R73). No shutdown temperature is kept with a probe fault
(R108 names the causes of chapter 5 and a link loss; log entry 11). -/
def Bay.probeFaulted (x : Bay) (c : FaultCause) : Bay :=
  { x with mode := .faulted, level := 0, fault := some { cause := c, entered := .probing } }

/-- The failed attempt (R73): the next attempt, the fault of round 1, or the give-up in round 2. DESIGN CHOICE (log entry
11): the probe goes back to step 1 with its count 0 and its results discarded after the third failed attempt too. -/
def State.failProbe (s : State) (b : BayId) (o : ProbeOutcome) : State :=
  let x := s.bay b
  if x.probe.attempt < 3 then s.setBay b { x with probe := { x.probe.restart with attempt := x.probe.attempt + 1 } }
  else
    let s1 := s.setBay b { x with probe := x.probe.restart }
    let s2 := s1.modBay b (fun y => y.probeFaulted o.cause)
    if x.probe.round = 1 then s2 else s2.askUnbind b .probing .waiting none false

/-- The end of step 3 (R72): the outcome is recorded with BAY attention PROBE, and acts. -/
def State.endProbe (s : State) (b : BayId) (o : ProbeOutcome) : State :=
  let s1 := (s.modBay b (fun x => { x with probe := { x.probe with last := some o } })).raiseBay b .probe
  match o with
  | .normal => (s1.modBay b Bay.enterActive).askStage b .probing .discharging none
  | .leakNeg | .leakPos =>
    ((((s1.modBay b (fun x => { x with isoDerate := true })).computeLimit b).askFlag b .isolationFault).modBay b
      Bay.enterActive).askStage b .probing .discharging none
  | .opened | .inconsistent => s1.failProbe b o

/-- A fresh frame in PROBING (R71): two frames settle, the third gives the step's result. -/
def State.probeFrame (s : State) (b : BayId) (bit : Bool) : State :=
  let p := (s.bay b).probe
  if p.count < 2 then s.modBay b (fun x => { x with probe := { p with count := p.count + 1 } })
  else if p.step < 3 then
    s.modBay b (fun x => { x with probe := { p with step := p.step + 1, count := 0, results := p.results ++ [bit] } })
  else
    (s.modBay b (fun x => { x with probe := { p with count := 0, results := p.results ++ [bit] } })).endProbe b
      (classify (p.results ++ [bit]))

/-! ### ACTIVE -/

/-- The level set by a step of the regulator: a change sets blanking (R89, R90). -/
def Bay.setLevel (x : Bay) (l : Nat) : Bay := if l = x.level then x else { x with level := l, blanking := 2 }

/-- A reduction with a hold-off of TOFF periods; the open-connection count is reset (R90, R91). -/
def Bay.reduce (x : Bay) (toff : Nat) : Bay := { x.setLevel (x.level - 1) with holdOff := some toff, openCount := 0 }

/-- The step of the regulator outside a hold-off (R90). -/
def Bay.regulate (x : Bay) (limit cap toff vCell endV i : Nat) : Bay :=
  if limit < i then x.reduce toff
  else if i < raiseThreshold limit ∧ endV < vCell ∧ x.level < cap then x.setLevel (x.level + 1)
  else x

/-- The regulator on a fresh sample in ACTIVE: a blanked sample counts blanking down, a hold-off lets no step be taken
(R89 to R91). -/
def State.regulator (s : State) (b : BayId) (p : Sample) (cells endV : Nat) : State :=
  s.modBay b (fun x =>
    if 0 < x.blanking then { x with blanking := x.blanking - 1 }
    else match x.holdOff, x.limit with
      | none, some l => x.regulate l (s.bayCfg b).cap (s.bayCfg b).toff (perCellOf p.v cells) endV p.i
      | _, _ => x)

/-- The end of discharge confirmed (R94). -/
def State.endDischarge (s : State) (b : BayId) : State :=
  ((s.modBay b (fun x => { x with
      mode := .resting, level := 0, holdOff := none, blanking := 0, restElapsed := 0, endCount := 0 })).askStage b
    .discharging .resting none).raiseBay b .stage

/-- A fresh frame in ACTIVE: the end-of-discharge count (R93), then the regulator (R78). -/
def State.activeFrame (s : State) (b : BayId) (p : Sample) : State :=
  let x := s.bay b
  match x.copies with
  | none => s
  | some k =>
    let endV := (s.classCfg k.cls).endV
    let n := if perCellOf p.v k.cells ≤ endV then x.endCount + 1 else 0
    if 64 ≤ n then s.endDischarge b
    else (s.modBay b (fun y => { y with endCount := n })).regulator b p k.cells endV

/-! ### RETRYING -/

/-- A fresh frame in RETRYING (R110, R111): an overtemperature retry ends at a cool sample, an open-connection retry at
the Nth sample in a row with current. -/
def State.retryFrame (s : State) (b : BayId) (p : Sample) : State :=
  let x := s.bay b
  match x.retry, x.copies with
  | some .overtemp, some k =>
    if tempValid p.t = true ∧ p.t < ((s.classCfg k.cls).shutT : Int) - 5 then s.endRetry b else s
  | some .openConnection, some _ =>
    let n := if 5 ≤ p.i then x.recovery + 1 else 0
    if (s.bayCfg b).nOpen ≤ n then s.endRetry b else s.modBay b (fun y => { y with recovery := n })
  | _, _ => s

/-! ### Frames -/

/-- Stage 4: the work of the state that the bay is in after stage 3; none while a release is pending (R64, R78). -/
def State.workFrame (s : State) (b : BayId) (p : Sample) : State :=
  if (s.bay b).releasePending then s
  else match (s.bay b).mode with
    | .probing => s.probeFrame b p.comparator
    | .active => s.activeFrame b p
    | .retrying => s.retryFrame b p
    | .unconfigured | .stopped | .idle | .resting | .held | .faulted => s

/-- The toggle, the gap count and the sample of a fresh frame are taken (R59, R60). -/
def State.takeSample (s : State) (b : BayId) (f : SampleFrame) : State :=
  s.modBay b (fun x => { x with toggle := some f.toggle, periods := 0, sample := some f.sample })

/-- A fresh frame (R59, R62, R78), answered from the state after stage 4. The pack-temperature channel takes the
temperature after the answer is formed (R164). -/
def State.freshFrame (s : State) (b : BayId) (f : SampleFrame) : State :=
  let g := (s.bay b).gap
  let s1 := (s.restoreLink b).takeSample b f
  let s2 := ((s1.integrate b f.sample g).protect b f.sample).workFrame b f.sample
  (s2.answerFrame b).packReading b f.t

/-- A repeat frame: counted, and answered with the command the channel holds (R59, R63). -/
def State.repeatFrame (s : State) (b : BayId) : State :=
  (s.modBay b (fun x => { x with repeats := satAdd countMax x.repeats 1 })).answerFrame b

/-- A discarded frame: counted, and answered NAK (R58). DESIGN CHOICE (log entry 31): in UNCONFIGURED too, where only an
accepted frame is answered STALL (R51). -/
def State.discardFrame (s : State) (b : BayId) : State :=
  s.modBay b (fun x => { x with discards := satAdd countMax x.discards 1, sent := some x.discarded })

/-- A frame received on a bay link of a running part (R51, R58, R59). -/
def State.bayFrame (s : State) (b : BayId) (frame : List Byte) : State :=
  match readSample b frame with
  | none => s.discardFrame b
  | some f =>
    if (s.bay b).mode = .unconfigured then s.answerFrame b
    else if (s.bay b).toggle = some f.toggle then s.repeatFrame b
    else s.freshFrame b f

/-- A frame on a bay link (R192): answered STALL while a start is in progress (R196), nothing while VDD is absent
(R194). -/
def State.onBayLink (s : State) (b : BayId) (bytes : List Byte) : State :=
  match fromSync bytes with
  | [] => s
  | frame =>
    match s.phase with
    | .off => s
    | .inReset | .starting _ => s.modBay b (fun x => { x with sent := some stallAnswer })
    | .running => s.bayFrame b frame

/-! ### The ends of a bay's times -/

/-- The link is lost (R61). A bay that is not FAULTED goes to FAULTED with cause LINK_LOST; the pack-temperature channel
of a bound bay goes to FAULT. -/
def State.loseLink (s : State) (b : BayId) : State :=
  let s1 := (s.modBay b (fun x => { x with
    link := .lost, periods := s.settings.timing.link, toggle := none })).raiseBay b .link
  let s2 := if (s.bay b).mode = .faulted then s1 else s1.takeFault b .linkLost
  s2.packLost b

/-- The bay supervises its link and has it RECEIVING (R51, R61, R62). -/
def Bay.supervises (x : Bay) : Bool := decide (x.mode ≠ .unconfigured) && decide (x.link = .receiving)

/-- A hold-off expires (R91): the latest fresh sample extends it or ends it. -/
def State.expireHoldOff (s : State) (b : BayId) : State :=
  s.modBay b (fun x =>
    match x.limit with
    | some l =>
      if l < x.latest.i then
        { x.reduce (s.bayCfg b).toff with extensions := satAdd countMax x.extensions 1 }
      else { x with holdOff := none }
    | none => { x with holdOff := none })

/-- The bay is in ACTIVE with a hold-off in progress (R91). -/
def Bay.inHoldOff (x : Bay) : Bool := decide (x.mode = .active) && x.holdOff.isSome

/-- The bay's rest runs: RESTING without a release pending (R95). -/
def Bay.rests (x : Bay) : Bool := decide (x.mode = .resting) && !x.releasePending

/-- The end of rest (R96): the pack is discharged (R97), rebounds, or has reached the rebound limit (R98). -/
def State.endRest (s : State) (b : BayId) : State :=
  let x := s.bay b
  match x.copies with
  | none => s
  | some k =>
    let cfg := s.classCfg k.cls
    let v := min 9000 x.latest.v
    let s1 := s.modBay b (fun y => { y with restElapsed := periodsOf cfg.restSec })
    let s2 :=
      if perCellOf v k.cells ≤ cfg.safeV then s1.askUnbind b .resting .discharged (some (v, x.rebounds)) false
      else if x.rebounds < s.settings.timing.rebound then
        (s1.modBay b (fun y => { y.enterActive with rebounds := x.rebounds + 1 })).askStage b .resting .discharging
          (some (v, x.rebounds + 1))
      else s1.askUnbind b .resting .waiting (some (v, x.rebounds)) true
    s2.raiseBay b .stage

/-- The bay waits out an overcurrent retry (R110). -/
def Bay.waitsRetry (x : Bay) : Bool :=
  decide (x.mode = .retrying) && decide (x.retry = some .overcurrent) && !x.releasePending

end Sys2Proof.Machine
end

