-- ==== Sys2Proof/Machine/Sensors.lean ====
section
/-!
DEFINITION. The Sensor Link Interface: the checks of a sensor reading frame (R192) and the delivery of its reading to the
Fire Zone Monitor (R157) or the Chamber Monitor (R117).
-/

namespace Sys2Proof.Machine

/-- The content of a sensor reading frame (Table 10-2). -/
structure Reading where
  address : Fin 32
  toggle : Bool
  fault : Bool
  value : Int
deriving DecidableEq, Repr

/-- A sensor frame that passes the checks of R192: length 7 and CRC. DEDUCED (log entry 18): a frame with an address above
31, which Table 10-2 does not give, delivers nothing. -/
def readSensor (frame : List Byte) : Option Reading :=
  match frame with
  | [_, a, f, v1, v0, c1, c0] =>
    if crcBytes [a, f, v1, v0] = [c1, c0] then
      if h : a.toNat < 32 then
        some { address := ⟨a.toNat, h⟩, toggle := f.getLsbD 0, fault := f.getLsbD 1
               value := codeInt 2 (bytesNum [v1, v0]) }
      else none
    else none
  | _ => none

/-- The reading goes to the block that takes its address: 0 to 27 the Fire Zone Monitor, 30 and 31 the Chamber Monitor;
28 and 29 go nowhere (R157, R192). -/
def State.deliver (s : State) (r : Reading) : State :=
  if h : r.address.1 < 28 then s.detectorReading ⟨r.address.1, h⟩ r.fault r.value
  else if r.address.1 = 30 then s.analyserReading .a r.fault r.value
  else if r.address.1 = 31 then s.analyserReading .b r.fault r.value
  else s

/-- The state with the last accepted toggle and the last value of an address replaced (R157). -/
def State.setSensor (s : State) (a : Fin 32) (x : SensorAddr) : State := { s with sensors := s.sensors.set a x }

/-- A channel uses the readings of the address: a mapped detector or an analyser (R117, R157). -/
def State.usesAddress (s : State) (a : Fin 32) : Bool :=
  if h : a.1 < 28 then (s.settings.detectors.get ⟨a.1, h⟩).isSome else decide (30 ≤ a.1)

/-- An accepted sensor frame: a repeat from an address that a channel uses is ignored; any other frame is kept as the toggle and
the value of its address, and delivered (R117, R157). -/
def State.takeReading (s : State) (r : Reading) : State :=
  if s.usesAddress r.address = true ∧ (s.sensors.get r.address).toggle = some r.toggle then s
  else (s.setSensor r.address { toggle := some r.toggle, value := some r.value }).deliver r

/-- A frame on the sensor link (R192); while a start is in progress it delivers no reading (R196). -/
def State.onSensorLink (s : State) (bytes : List Byte) : State :=
  if s.running then
    match readSensor (fromSync bytes) with
    | some r => s.takeReading r
    | none => s
  else s

end Sys2Proof.Machine
end

