-- ==== Sys2Proof/Machine/Records.lean ====
section
/-!
DEFINITION. The port requests that take a grant (R30): the checks of R13 at the grant, the requests on records (chapter
1), the lock and the access settings (chapter 2), ASSIGN_BAY and ABORT_BAY (chapter 3), ENQUEUE and WITHDRAW (chapter 7).
Each answers a reply and the state at the end of the grant.
-/

namespace Sys2Proof.Machine

/-! ### The checks of R13 -/

/-- The other port holds the table lock (check 3 of R13, R37). -/
def State.lockedOut (s : State) (p : Port) : Bool :=
  match s.arb.lock with
  | some l => decide (l.holder ≠ p)
  | none => false

/-- Slot `i` lies inside the Plant window (R41). -/
def AccessSettings.inWindow (a : AccessSettings) (i : Slot) : Bool :=
  decide (a.base ≤ segment i) && decide (segment i < a.base + a.count)

/-- A port sees slot `i`: the window acts on the Plant Port alone (R41). -/
def State.sees (s : State) (p : Port) (i : Slot) : Bool :=
  match p with
  | .line => true
  | .plant => s.access.inWindow i

/-- The permission of a port for the segment of slot `i` is CHANGE (R42). -/
def State.mayChange (s : State) (p : Port) (i : Slot) : Bool :=
  match p with
  | .line => s.access.linePerm.getLsbD (segment i)
  | .plant => s.access.plantPerm.getLsbD (segment i)

/-- The live record of a slot that a port sees (check 4 of R13). -/
def State.visible (s : State) (p : Port) (i : Slot) : Option Rec := if s.sees p i then s.record i else none

/-- A refused request leaves the state (R13). -/
def State.refuse (s : State) (st : Status) : Reply × State := (.refuse st, s)

/-- Checks 3, 4 and 5 of R13 for a record-changing request on the record in a slot, then the request's own checks. -/
def State.onRecord (s : State) (p : Port) (slot : Option Slot) (f : Slot → Rec → Reply × State) : Reply × State :=
  if s.lockedOut p then s.refuse .locked
  else match slot with
    | none => s.refuse .notFound
    | some i =>
      match s.visible p i with
      | none => s.refuse .notFound
      | some r => if s.mayChange p i then f i r else s.refuse .isProtected

/-- A record that a safety request names by tag, in every segment (R46). -/
def State.anyRecord (s : State) (tag : Nat) (f : Slot → Rec → Reply × State) : Reply × State :=
  match s.findTag tag with
  | none => s.refuse .notFound
  | some i =>
    match s.record i with
    | none => s.refuse .notFound
    | some r => f i r

/-- The answer with the record in a slot as it stands (R9). -/
def State.recordReply (s : State) (i : Slot) : Reply :=
  match s.record i with
  | some r => .ok (.record (s.view i r))
  | none => .refuse .notFound

/-- An accepted request whose answer is the record as it stands after the change (R9). -/
def State.withRecord (s : State) (i : Slot) : Reply × State := (s.recordReply i, s)

/-! ### Reads -/

/-- READ_RECORD at its grant (R10). -/
def State.grantReadRecord (s : State) (p : Port) (slot : Nat) : Reply × State :=
  match slotOf slot with
  | none => s.refuse .badField
  | some i => if (s.visible p i).isSome then s.withRecord i else s.refuse .notFound

/-- FIND at its grant (R11). -/
def State.grantFind (s : State) (p : Port) (tag : Nat) : Reply × State :=
  match s.findTag tag with
  | none => s.refuse .notFound
  | some i => if (s.visible p i).isSome then s.withRecord i else s.refuse .notFound

/-- The slots that a SCAN matches, in ascending order (R12). -/
def State.scanMatches (s : State) (p : Port) (g : Stage) (start : Nat) : List Slot :=
  (Bank.places 256).filter (fun i => decide (start ≤ i.1) &&
    (match s.visible p i with
      | some r => decide (r.stage = g)
      | none => false))

/-- SCAN at its grant (R12). -/
def State.grantScan (s : State) (p : Port) (stage start : Nat) : Reply × State :=
  match stageOf stage with
  | none => s.refuse .badField
  | some g =>
    let found := s.scanMatches p g start
    (.ok (.slots (found.take 32) (decide (32 < found.length))), s)

/-- READ_TALLIES at its grant (R26). -/
def State.grantReadTallies (s : State) : Reply × State := (.ok (.tallies s.tallies s.liveCount), s)

/-- READ_SETTING of the access group at its grant (R45). -/
def State.grantReadAccess (s : State) : Reply × State := (.ok (.access s.access), s)

/-! ### REGISTER, AMEND, RETIRE -/

/-- The lowest FREE slot that a port may allocate (R15). -/
def State.permittedFree (s : State) (p : Port) : Option Slot :=
  (Bank.places 256).find? (fun i => (s.record i).isNone && s.sees p i && s.mayChange p i)

/-- The record of an accepted REGISTER (R15). -/
def newRecord (p : Port) (tag : Nat) (c : ClassId) (cells capacity declared mass damaged : Nat) : Rec where
  tag := tag
  origin := p
  cls := c
  cells := cells
  capacity := capacity
  declared := declared
  mass := mass
  flags := { damaged := decide (damaged = 1) }

/-- REGISTER at its grant (R14, R15). -/
def State.grantRegister (s : State) (p : Port) (tag cls cells capacity declared mass damaged : Nat) : Reply × State :=
  match classOf cls with
  | none => s.refuse .badField
  | some c =>
    if s.lockedOut p then s.refuse .locked
    else if (s.findTag tag).isSome then s.refuse .duplicateTag
    else if (s.settings.classes.get c).isNone then s.refuse .classUnset
    else match s.permittedFree p with
      | none => s.refuse .tableFull
      | some i =>
        (.ok (.slot i),
          ((s.setRecord i (some (newRecord p tag c cells capacity declared mass damaged))).useClass c).setTallies
            { s.tallies with registered := satAdd tallyMax s.tallies.registered 1 })

/-- The field mask of a port (R43). -/
def State.fieldMask (s : State) : Port → BitVec 6
  | .line => s.access.lineMask
  | .plant => s.access.plantMask

/-- An operator field of the record in a slot given a value; an AMEND of class moves the record from one use count to
the other (R16, R174). -/
def State.amendField (s : State) (i : Slot) (r : Rec) (f : OpField) (v : Nat) : State :=
  match f with
  | .cls =>
    match classOf v with
    | some c => ((s.setRecord i (some { r with cls := c })).unuseClass r.cls).useClass c
    | none => s
  | .cells => s.setRecord i (some { r with cells := v })
  | .capacity => s.setRecord i (some { r with capacity := v })
  | .declared => s.setRecord i (some { r with declared := v })
  | .mass => s.setRecord i (some { r with mass := v })
  | .damaged => s.setRecord i (some { r with flags := { r.flags with damaged := decide (v = 1) } })

/-- The AMEND is of class and the new class has not been configured (check 3 of R16). -/
def State.amendUnset (s : State) (f : OpField) (v : Nat) : Bool :=
  match f with
  | .cls =>
    (match classOf v with
      | some c => (s.settings.classes.get c).isNone
      | none => true)
  | .cells | .capacity | .declared | .mass | .damaged => false

/-- The slot that the selector of AMEND names: kind 0 a tag, kind 1 a slot number (R16). -/
def State.selected (s : State) (kind selector : Nat) : Option Slot :=
  if kind = 0 then s.findTag selector else slotOf selector

/-- AMEND at its grant (R16). -/
def State.grantAmend (s : State) (p : Port) (kind selector field value : Nat) : Reply × State :=
  match fieldOf field with
  | none => s.refuse .badField
  | some f =>
    s.onRecord p (s.selected kind selector) (fun i r =>
      if !(s.fieldMask p).getLsbD f.bit then s.refuse .notPermitted
      else if r.stage ≠ .waiting then s.refuse .wrongStage
      else if s.amendUnset f value then s.refuse .classUnset
      else (s.amendField i r f value).withRecord i)

/-- RETIRE at its grant (R17). -/
def State.grantRetire (s : State) (p : Port) (tag : Nat) : Reply × State :=
  s.onRecord p (s.findTag tag) (fun i r =>
    if r.stage ≠ .waiting ∧ r.stage ≠ .discharged then s.refuse .wrongStage
    else if r.flags.quarantine = true ∧ p = .line then s.refuse .notPermitted
    else (.ok (.slot i),
      (s.freeSlot i r).setTallies { s.tallies with intact := satAdd tallyMax s.tallies.intact 1 }))

/-! ### QUARANTINE, LIFT_QUARANTINE, CONFIRM_SHRED -/

/-- A record taken out of the feed queue to DISCHARGED with QUARANTINE, and from the gate also with GATE_RETURNED, the
gate closed and the last-returned memory set (R18, R145, R166, R167). -/
def State.pullFromFeed (s : State) (i : Slot) (r : Rec) : State :=
  let e : Entry := { slot := i, tag := r.tag }
  if r.stage = .atGate then
    ((s.setRecord i (some { r.quarantined.returned with stage := .discharged })).setFeed
      (s.feed.leave e).closeGate).remember e
  else (s.setRecord i (some { r.quarantined with stage := .discharged })).setFeed (s.feed.leave e)

/-- The bay of a bound record takes the record's quarantine as a hold cause (R18, R54). -/
def State.holdForQuarantine (s : State) (r : Rec) : State :=
  match r.bay with
  | some b => s.addHold b .quarantine
  | none => s

/-- QUARANTINE of a record AT_GATE (R18). A pass write still waiting is made first, and the record is then in the shredder
(R143). -/
def State.quarantineAtGate (s : State) (i : Slot) : Reply × State :=
  let s1 := s.makeWaitingPass
  match s1.record i with
  | some r =>
    if r.stage = .atGate then (.ok .empty, (s1.pullFromFeed i r).evalAdmission) else s1.refuse .wrongStage
  | none => s1.refuse .notFound

/-- QUARANTINE at its grant (R18). -/
def State.grantQuarantine (s : State) (p : Port) (tag : Nat) : Reply × State :=
  s.onRecord p (s.findTag tag) (fun i r =>
    match r.stage with
    | .inShredder | .shredUnconfirmed => s.refuse .wrongStage
    | .queued => (.ok .empty, (s.pullFromFeed i r).evalAdmission)
    | .atGate => s.quarantineAtGate i
    | .probing | .discharging | .resting =>
      (.ok .empty, (s.setRecord i (some r.quarantined)).holdForQuarantine r)
    | .waiting | .discharged => (.ok .empty, s.setRecord i (some r.quarantined)))

/-- LIFT_QUARANTINE at its grant (R19). -/
def State.grantLift (s : State) (tag : Nat) : Reply × State :=
  s.anyRecord tag (fun i r =>
    if (s.zone r.zone).state = .alarm then s.refuse .notClear
    else if r.flags.quarantine then
      let s1 := s.setRecord i (some r.lifted)
      (.ok .empty, match r.bay with
        | some b => s1.dropHold b .quarantine
        | none => s1)
    else (.ok .empty, s))

/-- The admitted residual kept for the record in a slot (R149). -/
def Feed.admitted (f : Feed) (i : Slot) : Nat :=
  match f.path.find? (fun x => decide (x.slot = i)) with
  | some x => x.residual
  | none => 0

/-- CONFIRM_SHRED at its grant: SHREDDED (R21) or RECOVERED (R22). -/
def State.grantConfirm (s : State) (tag outcome : Nat) : Reply × State :=
  s.anyRecord tag (fun i r =>
    let e : Entry := { slot := i, tag := r.tag }
    if r.stage ≠ .shredUnconfirmed then s.refuse .wrongStage
    else if outcome = 0 then
      (.ok .empty, (((s.freeSlot i r).countShredded).setFeed (s.feed.leavePath e)).evalAdmission)
    else
      (.ok .empty, (((s.setRecord i (some { r.recoveredBack with stage := .discharged })).setTallies
        { s.tallies with
          massAdmitted := s.tallies.massAdmitted - r.mass
          residualAdmitted := s.tallies.residualAdmitted - s.feed.admitted i }).setFeed
        (s.feed.leavePath e)).evalAdmission))

/-! ### RESET_TALLIES, the lock, SET_ACCESS -/

/-- The mass of the live records in the shredder path (R25, R27). -/
def State.pathMass (s : State) : Nat :=
  (s.slots.1.map (fun o => match o with
    | some r => if r.stage = .inShredder ∨ r.stage = .shredUnconfirmed then r.mass else 0
    | none => 0)).sum

/-- RESET_TALLIES at its grant (R27). -/
def State.grantResetTallies (s : State) : Reply × State :=
  let t : Tallies :=
    { registered := s.liveCount
      residualAdmitted := min tallyMax (s.feed.path.map PathEntry.residual).sum
      massAdmitted := min tallyMax s.pathMass }
  (.ok (.talliesReset t), s.setTallies t)

/-- LOCK_TABLE at its grant (R36). -/
def State.grantLock (s : State) (p : Port) : Reply × State :=
  if s.lockedOut p then s.refuse .locked
  else (.ok (.lockTime s.settings.timing.lockMs),
    s.setArb { s.arb with lock := some { holder := p, duration := s.settings.timing.lockMs / 10, elapsed := 0 } })

/-- The port holds the table lock. -/
def State.holdsLock (s : State) (p : Port) : Bool :=
  match s.arb.lock with
  | some l => decide (l.holder = p)
  | none => false

/-- UNLOCK_TABLE at its grant (R38). -/
def State.grantUnlock (s : State) (p : Port) : Reply × State :=
  if s.holdsLock p then (.ok .empty, s.setArb { s.arb with lock := none }) else s.refuse .notPermitted

/-- SET_ACCESS at its grant (R44). -/
def State.grantSetAccess (s : State) (base count linePerm plantPerm lineMask plantMask : Nat) : Reply × State :=
  let a : AccessSettings :=
    { base, count, linePerm := BitVec.ofNat 8 linePerm, plantPerm := BitVec.ofNat 8 plantPerm
      lineMask := BitVec.ofNat 6 lineMask, plantMask := BitVec.ofNat 6 plantMask }
  (.ok (.access a), { s with access := a })

/-! ### ASSIGN_BAY and ABORT_BAY -/

/-- The bay is not free for a binding (check 4 of R65). -/
def BayState.busy : BayState → Bool
  | .probing | .active | .resting | .held | .retrying | .faulted => true
  | .unconfigured | .stopped | .idle => false

/-- The channel at its binding (R66, R86, R100, section 4.6). -/
def Bay.bind (x : Bay) (e : Entry) (r : Rec) : Bay :=
  { x with
    mode := .probing, binding := some e, level := 0, frac := 0, holds := {}, heldFrom := none, releasePending := false
    copies := some { cls := r.cls, cells := r.cells, capacity := r.capacity, damaged := r.flags.damaged }
    repeats := 0, discards := 0, extensions := 0, faultCount := 0, probe := {}, fault := none
    blanking := 0, holdOff := none, endCount := 0, restElapsed := 0, rebounds := 0, isoDerate := r.flags.isolationFault
    warning := false, shutdown := false, openCount := 0, retry := none, retryWait := 0, recovery := 0
    lastStage := .probing, stageOwed := false }

/-- A record bound to a bay, in the grant of ASSIGN_BAY (R66): record, channel, current limit, pack-temperature
channel. -/
def State.bindBay (s : State) (i : Slot) (r : Rec) (b : BayId) : State :=
  let s1 := s.setRecord i (some { r with stage := .probing, bay := some b, rebounds := 0 })
  ((s1.modBay b (fun x => x.bind { slot := i, tag := r.tag } r)).computeLimit b).packJoin b

/-- ASSIGN_BAY at its grant (R65, R66). -/
def State.grantAssign (s : State) (p : Port) (tag bay : Nat) : Reply × State :=
  match bayOf bay with
  | none => s.refuse .badField
  | some b =>
    s.onRecord p (s.findTag tag) (fun i r =>
      if r.stage ≠ .waiting then s.refuse .wrongStage
      else if r.flags.quarantine then s.refuse .quarantined
      else if (s.settings.classes.get r.cls).isNone then s.refuse .classUnset
      else if (s.bay b).mode.busy then s.refuse .bayBusy
      else if (s.bay b).mode ≠ .idle ∨ (s.bay b).link = .lost then s.refuse .bayUnavailable
      else if (s.zone (bayZone b)).state = .alarm then s.refuse .zoneAlarm
      else (s.bindBay i r b).withRecord i)

/-- The record of a bound pack at the end of its binding (R64): the energy of the carries and of the rounding (R23,
R82), then the new stage without the bay field. -/
def State.releaseRecord (s : State) (b : BayId) (e : Entry) (r : Rec) (g : Rec → Rec) : State :=
  let n := (s.bay b).unbindEnergy e
  (s.creditEnergy e.slot r n).setRecord e.slot
    (some (g { r with energy := satAdd 999999 r.energy n, bay := none }))

/-- The channel at the end of its binding in a given unbound state; the pack-temperature channel leaves the zone, which
votes, and BAY attention RELEASE is raised (R64, R155). -/
def State.releaseBay (s : State) (b : BayId) (e : Entry) (g : Bay → Bay) : State :=
  ((s.modBay b (fun x => g (x.unbound e))).vote (bayZone b)).raiseBay b .release

/-- The fault state of a bay unbound by ABORT_BAY (R67): none, or LINK_LOST while the link is LOST. The state it was
entered from is a free value (log entry 7). -/
def abortFault (lost : Bool) (free : Nat) : Option FaultRec :=
  if lost then
    some { cause := .linkLost, entered := if Config.abortedFromStopped free then .stopped else .idle }
  else none

/-- The channel after an accepted ABORT_BAY (R67): the fault and the probe state go with the binding. -/
def Bay.aborted (x : Bay) (rest : BayState) (free : Nat) : Bay :=
  { x with
    mode := if x.link = .lost then .faulted else rest
    fault := abortFault (decide (x.link = .lost)) free
    probe := {} }

/-- The index of the next free value moves on when one has been used (log entry 7). -/
def State.useFree (s : State) (used : Bool) : State := if used then { s with freeCount := s.freeCount + 1 } else s

/-- ABORT_BAY at its grant (R67). -/
def State.grantAbort (s : State) (p : Port) (bay : Nat) : Reply × State :=
  match bayOf bay with
  | none => s.refuse .badField
  | some b =>
    if s.lockedOut p then s.refuse .locked
    else match (s.bay b).binding with
      | none => s.refuse .notBound
      | some e =>
        if !s.sees p e.slot then s.refuse .notFound
        else if !s.mayChange p e.slot then s.refuse .isProtected
        else match s.named e with
          | none => s.refuse .notBound
          | some r =>
            let s1 := s.releaseRecord b e r (fun x => { x with stage := .waiting })
            let s2 := s1.releaseBay b e (fun x => x.aborted (s.restState b) s.freeCount)
            (s2.useFree (decide ((s.bay b).link = .lost))).withRecord e.slot

/-! ### ENQUEUE and WITHDRAW -/

/-- Conditions 3 and 4 of the eligibility test (R99). -/
def Rec.eligible (r : Rec) (cfg : ClassCfg) : Bool :=
  (match r.perCell with
    | some v => decide (v ≤ cfg.safeV)
    | none => false)
    && (decide (r.declared = 0) || decide (r.residual ≤ r.allowance cfg.permille))

/-- ENQUEUE at its grant (R137). -/
def State.grantEnqueue (s : State) (p : Port) (tag : Nat) : Reply × State :=
  s.onRecord p (s.findTag tag) (fun i r =>
    let e : Entry := { slot := i, tag := r.tag }
    if r.stage ≠ .discharged then s.refuse .wrongStage
    else if r.flags.quarantine then s.refuse .quarantined
    else if !r.eligible (s.classCfg r.cls) then s.refuse .notEligible
    else if 8 ≤ s.feed.queue.length then s.refuse .queueFull
    else ((((s.setRecord i (some { r with stage := .queued })).setFeed
        { s.feed with queue := s.feed.queue ++ [e] }).forget e).evalAdmission).withRecord i)

/-- WITHDRAW at its grant (R138). -/
def State.grantWithdraw (s : State) (p : Port) (tag : Nat) : Reply × State :=
  s.onRecord p (s.findTag tag) (fun i r =>
    let e : Entry := { slot := i, tag := r.tag }
    if r.stage ≠ .queued then s.refuse .wrongStage
    else ((((s.setRecord i (some { r with stage := .discharged })).setFeed (s.feed.leave e)).forget e).evalAdmission).withRecord i)

/-! ### Which requests take a grant -/

/-- The requests that take a grant (R30, R45), at their grant. A request that takes none is not served here. -/
def serveGrant (req : Instr) (s : State) : Option (Reply × State) :=
  match req with
  | .readRecord p slot => some (s.grantReadRecord p slot)
  | .find p tag => some (s.grantFind p tag)
  | .scan p stage start => some (s.grantScan p stage start)
  | .readTallies _ => some s.grantReadTallies
  | .readSetting _ 6 _ => some s.grantReadAccess
  | .register p tag cls cells capacity declared mass damaged =>
    some (s.grantRegister p tag cls cells capacity declared mass damaged)
  | .amend p kind selector field value => some (s.grantAmend p kind selector field value)
  | .retire p tag => some (s.grantRetire p tag)
  | .quarantine p tag => some (s.grantQuarantine p tag)
  | .assignBay p tag bay => some (s.grantAssign p tag bay)
  | .abortBay p bay => some (s.grantAbort p bay)
  | .enqueue p tag => some (s.grantEnqueue p tag)
  | .withdraw p tag => some (s.grantWithdraw p tag)
  | .liftQuarantine _ tag => some (s.grantLift tag)
  | .confirmShred _ tag outcome => some (s.grantConfirm tag outcome)
  | .resetTallies _ => some s.grantResetTallies
  | .lockTable p => some (s.grantLock p)
  | .unlockTable p => some (s.grantUnlock p)
  | .setAccess _ base count lp pp lm pm => some (s.grantSetAccess base count lp pp lm pm)
  | _ => none

end Sys2Proof.Machine
end

