-- ==== Sys2Proof/Machine/Writes.lean ====
section
/-!
DEFINITION. The grants of the Table Access Arbiter: the end of a grant and the next one (R32, R33), a port request at the
arbiter (R31, R32), the bay channels' writes (R8, R23, R64, R81), the Feed Controller's writes and the quarantine sweeps
(R165 to R167).
-/

namespace Sys2Proof.Machine

/-! ### The arbiter -/

/-- A port request carried out in its grant, and its answer built from the state at the end of the grant (R30). -/
def State.grantPort (s : State) (p : Port) (req : Instr) : State :=
  match serveGrant req s with
  | some r => r.2.answer p req.code r.1
  | none => s

/-- The end of a grant (R32, R33): the arbiter passes to the next requester. A port request so chosen is granted and ends
in the same step (log entry 4), at most `n` of them; an engine write so chosen waits for its own row. -/
def State.endGrant : Nat → State → State
  | 0, s => s.setAccess s.nextAccess
  | n + 1, s =>
    match s.nextAccess with
    | .port p =>
      match (s.port p).waitingRequest with
      | some req => ((s.setAccess (.port p)).grantPort p req).endGrant n
      | none => s.setAccess (.port p)
    | .parked => s.setAccess .parked
    | .engine e => s.setAccess (.engine e)

/-- A port request that has passed its first two checks reaches the arbiter (R31, R32): granted at once in PARKED,
otherwise it waits. -/
def State.reachArbiter (s : State) (p : Port) (req : Instr) : State :=
  match s.arb.access with
  | .parked => ((s.setAccess (.port p)).grantPort p req).endGrant 2
  | .port _ | .engine _ => s.setPort p { s.port p with inFlight := some (.waiting req) }

/-- An engine's grant: it is given when the arbiter is in ENGINE_ACCESS for that engine (Table 2-1). -/
def State.engineGrant (s : State) (e : Engine) (f : State → State) : State :=
  if s.running = true ∧ s.arb.access = .engine e then (f s).endGrant 2 else s

/-! ### The bay channels' writes -/

/-- The oldest write of a bay channel leaves its list at its grant (R34). -/
def State.popBay (s : State) (b : BayId) : State := s.modBay b (fun x => { x with writes := x.writes.tail })

/-- The carry of one watt-hour, made when its slot still holds the record (R8, R81). -/
def State.makeCarry (s : State) (e : Entry) : State :=
  match s.named e with
  | some r => s.creditEnergy e.slot r 1
  | none => s

/-- The hazard flag set on the record, made when its slot still holds it (R8, R23). -/
def State.makeFlag (s : State) (e : Entry) (f : HazardFlag) : State :=
  match s.named e with
  | some r => s.setRecord e.slot (some { r with flags := r.flags.hazard f })
  | none => s

/-- The record after a stage write: the new stage and, at an end of rest, the rest voltage with the rebound count (R8,
R96). -/
def StageWrite.apply (w : StageWrite) (r : Rec) : Rec :=
  let r := { r with stage := w.new }
  let r := match w.rest with
    | some (v, n) => { r with rest := some v, rebounds := n }
    | none => r
  if w.reboundLimit then r.overRebound else r

/-- A stage change that keeps the binding, made when slot, tag and expected stage still match (R8). -/
def State.makeStage (s : State) (w : StageWrite) : State :=
  match s.expect w.entry w.expected with
  | some r => s.setRecord w.entry.slot (some (w.apply r))
  | none => s

/-- The unbound state of the channel (R64): FAULTED when it is FAULTED, else by the effective stop. -/
def Bay.unboundMode (x : Bay) (rest : BayState) : Bay := { x with mode := if x.mode = .faulted then .faulted else rest }

/-- The unbinding write at its grant (R64). A write that does not match, or whose channel is bound to that record no
longer, is not made (R8). -/
def State.makeUnbind (s : State) (b : BayId) (w : StageWrite) : State :=
  match s.expect w.entry w.expected with
  | some r =>
    if (s.bay b).binding = some w.entry then
      (s.releaseRecord b w.entry r w.apply).releaseBay b w.entry (fun x => x.unboundMode (s.restState b))
    else s
  | none => s

/-- ENERGY_CARRY: the oldest write of channel `b` is a carry, and is granted (R23, R81). -/
def State.grantCarry (s : State) (b : BayId) : State :=
  match (s.bay b).writes with
  | .carry e :: _ => s.engineGrant (.bay b) (fun t => (t.popBay b).makeCarry e)
  | _ => s

/-- HAZARD_FLAG_WRITE: the oldest write of channel `b` is a hazard flag, and is granted (R23). -/
def State.grantFlag (s : State) (b : BayId) : State :=
  match (s.bay b).writes with
  | .flag e f :: _ => s.engineGrant (.bay b) (fun t => (t.popBay b).makeFlag e f)
  | _ => s

/-- STAGE_CHANGE_WRITE: the oldest write of channel `b` is a stage change that keeps the binding, and is granted (R8). -/
def State.grantStage (s : State) (b : BayId) : State :=
  match (s.bay b).writes with
  | .stage w :: _ => s.engineGrant (.bay b) (fun t => (t.popBay b).makeStage w)
  | _ => s

/-- UNBINDING_GRANT: the oldest write of channel `b` is an unbinding write, and is granted (R64). -/
def State.grantUnbind (s : State) (b : BayId) : State :=
  match (s.bay b).writes with
  | .unbind w :: _ => s.engineGrant (.bay b) (fun t => (t.popBay b).makeUnbind b w)
  | _ => s

/-! ### The Feed Controller's writes -/

/-- The oldest write of the Feed Controller leaves its list at its grant (R34). -/
def State.popFeed (s : State) : State := s.setArb { s.arb with feedWrites := s.arb.feedWrites.tail }

/-- A grant of the Feed Controller: the write leaves the list, is made or not made, and admission is evaluated at the end
of the grant (R139). -/
def State.feedGrant (s : State) (f : State → State) : State :=
  s.engineGrant .feed (fun t => (f t.popFeed).evalAdmission)

/-- ADMISSION_WRITE (R140). -/
def State.grantAdmission (s : State) : State :=
  match s.arb.feedWrites with
  | .admission e :: _ => s.feedGrant (fun t => t.makeAdmission e)
  | _ => s

/-- PASS_WRITE (R142). -/
def State.grantPass (s : State) : State :=
  match s.arb.feedWrites with
  | .pass e :: _ => s.feedGrant (fun t => t.makePass e)
  | _ => s

/-- UNEXPECTED_PASS_WRITE (R144). -/
def State.grantUnexpected (s : State) : State :=
  match s.arb.feedWrites with
  | .unexpected e :: _ => s.feedGrant (fun t => t.makeUnexpected e)
  | _ => s

/-- RETURN_WRITE (R146). -/
def State.grantReturn (s : State) : State :=
  match s.arb.feedWrites with
  | .giveBack e :: _ => s.feedGrant (fun t => t.makeReturn e)
  | _ => s

/-- RETIREMENT_WRITE (R147). -/
def State.grantRetirement (s : State) : State :=
  match s.arb.feedWrites with
  | .retirement e :: _ => s.feedGrant (fun t => t.makeRetirement e)
  | _ => s

/-- SHRED_UNCONFIRMED_WRITE (R148). -/
def State.grantUnconfirmed (s : State) : State :=
  match s.arb.feedWrites with
  | .unconfirmed e :: _ => s.feedGrant (fun t => t.makeUnconfirmed e)
  | _ => s

/-! ### Quarantine sweeps -/

/-- The sweep of zone `z` on the record in one slot, by the record's stage at the grant (R165 to R167). -/
def State.sweepRecord (z : ZoneId) (s : State) (i : Slot) : State :=
  match s.record i with
  | none => s
  | some r =>
    match r.stage with
    | .probing | .discharging | .resting =>
      if r.bay.map bayZone = some z then (s.setRecord i (some r.quarantined)).holdForQuarantine r else s
    | .waiting | .discharged => if z = 4 then s.setRecord i (some r.quarantined) else s
    | .queued => if z = 5 then s.pullFromFeed i r else s
    | .atGate => if z = 5 ∨ z = 6 then s.pullFromFeed i r else s
    | .inShredder =>
      if z = 6 then
        (s.setRecord i (some { r.quarantined with stage := .shredUnconfirmed })).setFeed (s.feed.unconfirmPath i)
      else s
    | .shredUnconfirmed => if z = 6 then s.setRecord i (some r.quarantined) else s

/-- The sweep of a zone: one grant over every live record (R165). -/
def State.sweepRecords (s : State) (z : ZoneId) : State := (Bank.places 256).foldl (State.sweepRecord z) s

/-- FEED attention of a sweep (R166, R167): zone 5 when the queue lost a record, zone 6 when a record changed. -/
def State.sweepAttention (s before : State) (z : ZoneId) : State :=
  if (z = 5 ∧ s.feed.queue ≠ before.feed.queue) ∨ (z = 6 ∧ s.slots ≠ before.slots) then s.raiseFeed else s

/-- The quarantine sweep of zone `z` at its grant (R165 to R167): sweep waiting clears; the sweeps of zones 5 and 6 first
make a pass write that waits (R143). -/
def State.makeSweep (s : State) (z : ZoneId) : State :=
  let s1 := s.setZone z { s.zone z with sweepWaiting := false }
  let s2 := if z = 5 ∨ z = 6 then s1.makeWaitingPass else s1
  ((s2.sweepRecords z).sweepAttention s2 z).evalAdmission

/-- The oldest sweep leaves the Fire Zone Monitor's list at its grant (R34). -/
def State.popSweep (s : State) : State := s.setArb { s.arb with sweeps := s.arb.sweeps.tail }

/-- QUARANTINE_SWEEP: the oldest sweep is granted. During a warm start the sweeps retained as waiting are granted too,
after the reconciliation (R47, R172, R197). -/
def State.grantSweep (s : State) : State :=
  match s.arb.sweeps with
  | z :: _ =>
    match s.phase with
    | .running => s.engineGrant .fire (fun t => t.popSweep.makeSweep z)
    | .starting _ => (s.popSweep.makeSweep z).endGrant 0
    | .off | .inReset => s
  | [] => s

end Sys2Proof.Machine
end

