-- ==== Sys2Proof/Machine/Ports.lean ====
section
/-!
DEFINITION. The Port Interface: taking a request (R31, R182, R185), frames in error and cut short (R182 to R184), overruns
(R185), the sending of answers (R183, R187), and the lock's hold timer (R39).
-/

namespace Sys2Proof.Machine

/-! ### Taking a frame -/

/-- The port takes the bytes of a frame: the part runs (R196), and the Line Port has not clocked out a whole answer in
the present transaction (R183). -/
def State.takesFrame (s : State) (p : Port) : Bool :=
  s.running && !(decide (p = .line) && (s.port p).answerDone)

/-- A request is in flight on the port (R185). -/
def State.inFlight (s : State) (p : Port) : Bool := (s.port p).inFlight.isSome

/-- An overrun: the frame is discarded and counted (R185). -/
def State.countOverrun (s : State) (p : Port) : State :=
  s.setPort p { s.port p with overruns := satAdd countMax (s.port p).overruns 1 }

/-- A request frame that passes the frame checks: an overrun while a request is in flight (R185); else the first two
checks of R13, and then `serve`. -/
def State.receive (s : State) (p : Port) (req : Instr) (serve : State → State) : State :=
  if !s.takesFrame p then s
  else if s.inFlight p then s.countOverrun p
  else if !portAccepts req then s.answer p req.code (.refuse .notPermitted)
  else if !operandsOk req then s.answer p req.code (.refuse .badField)
  else serve s

/-- A request that takes a grant (R30, R31). -/
def State.granted (s : State) (p : Port) (req : Instr) : State := s.receive p req (fun t => t.reachArbiter p req)

/-- A request that its block serves as it arrives (R35): the reply is answered in the same event. -/
def State.served (s : State) (p : Port) (req : Instr) (f : State → Reply × State) : State :=
  s.receive p req (fun t => (f t).2.answer p req.code (f t).1)

/-! ### Frames that reach no block -/

/-- A frame in error is answered at once (R182), unless it is an overrun. -/
def State.rejectFrame (s : State) (p : Port) (echo : Nat) (st : Status) : State :=
  if !s.takesFrame p then s
  else if s.inFlight p then s.countOverrun p
  else s.answer p echo (.refuse st)

/-- The bytes begin with the sync byte 0xA5 (R182). -/
def synced (bytes : List Byte) : Bool :=
  match bytes with
  | b :: _ => decide (b = 0xA5)
  | [] => false

/-- FRAME_ERROR: a frame that fails check 1 or 3 of R182. Other bytes are no such frame and change nothing. -/
def State.onFrameError (s : State) (p : Port) (bytes : List Byte) : State :=
  match synced bytes, readFrame p bytes with
  | true, .error echo => s.rejectFrame p echo .frameError
  | _, _ => s

/-- UNKNOWN_REQUEST: a frame that fails check 2 of R182. Other bytes are no such frame and change nothing. -/
def State.onUnknownRequest (s : State) (p : Port) (bytes : List Byte) : State :=
  match synced bytes, readFrame p bytes with
  | true, .unknown echo => s.rejectFrame p echo .unknownRequest
  | _, _ => s

/-- OVERRUN: a frame begins on a port that has a request in flight (R185). DESIGN CHOICE (log entry 35): the row is a whole frame
of its own and counts one; a frame given by another row while a request is in flight is counted by that row. -/
def State.onOverrun (s : State) (p : Port) : State :=
  if s.takesFrame p = true ∧ s.inFlight p = true then s.countOverrun p else s

/-- The bytes are the beginning of a frame that is not complete (R183, R184): its length byte, when there, is 1 to 32, and
the frame has not run to its end. -/
def cutShort (bytes : List Byte) : Bool :=
  match bytes with
  | [a] => decide (a = 0xA5)
  | a :: len :: rest => decide (a = 0xA5) && within 1 32 len.toNat && decide (rest.length < len.toNat + 2)
  | [] => false

/-- A frame cut short (R183, R184): answered FRAME_ERROR, or counted as an overrun. -/
def State.cutFrame (s : State) (p : Port) (bytes : List Byte) : State :=
  if cutShort bytes then s.rejectFrame p (echoOf bytes) .frameError else s

/-! ### Sending -/

/-- The marks that a sent answer carried are cleared; those it did not carry stay (R39, R187). -/
def PortState.clearMarks (x : PortState) (a : Answer) : PortState :=
  { x with lockMark := x.lockMark && !a.lockExpired, restartMark := x.restartMark && !a.restart }

/-- A first sending of a part of the answer clears the marks it carries; the answer is kept (R183, R187; log entry
15). -/
def PortState.beginSending (x : PortState) : PortState :=
  match x.inFlight with
  | some (.answered a false) => { x.clearMarks a with inFlight := some (.answered a true) }
  | some (.answered _ true) | some (.waiting _) | none => x

/-- The last byte of the answer leaves the port (R183, R184, R187): the request is in flight no longer, and the marks the
answer carried are cleared, unless a first sending has cleared them. -/
def PortState.finishSending (x : PortState) : PortState :=
  match x.inFlight with
  | some (.answered a false) => { x.clearMarks a with inFlight := none }
  | some (.answered _ true) => { x with inFlight := none }
  | some (.waiting _) | none => x

/-- The port has an answer to send. -/
def PortState.answers (x : PortState) : Bool :=
  match x.inFlight with
  | some (.answered _ _) => true
  | some (.waiting _) | none => false

/-- ANSWER_SENT (R187). On the Line Port the bytes that follow in the transaction are ignored (R183). -/
def State.onAnswerSent (s : State) (p : Port) : State :=
  if s.running = true ∧ (s.port p).answers = true then
    s.setPort p { (s.port p).finishSending with answerDone := decide (p = .line) }
  else s

/-- CHIP_SELECT_RISE (R183): a part of the answer clocked out in the transaction was a sending; a frame not complete is
cut short; the transaction ends. -/
def State.onChipSelectRise (s : State) (cut : List Byte) (answerBegun : Bool) : State :=
  if s.running then
    let s1 := if answerBegun then s.setPort .line (s.port .line).beginSending else s
    let s2 := s1.cutFrame .line cut
    s2.setPort .line { s2.port .line with answerDone := false }
  else s

/-! ### The lock -/

/-- The hold timer expires (R39): the lock ends, LOCK_EXPIRED is raised on the port that held it and its mark is set. -/
def State.expireLock (s : State) : State :=
  match s.arb.lock with
  | none => s
  | some l =>
    let s1 := (s.setArb { s.arb with lock := none }).raisePort l.holder (fun a => { a with lockExpired := true })
    s1.setPort l.holder { s1.port l.holder with lockMark := true }

end Sys2Proof.Machine
end

