-- ==== Sys2Proof/Machine/Requests.lean ====
section
/-!
DEFINITION. The port requests that take no grant (R35): each answers a reply and the state after it.
-/

namespace Sys2Proof.Machine

/-! ### STATUS and attention (chapter 10) -/

/-- The lock as STATUS reports it: holder and the time remaining in 10 ms steps (R191). -/
def Arbiter.lockReport (a : Arbiter) : Option (Port × Nat) := a.lock.map (fun l => (l.holder, l.duration - l.elapsed))

/-- STATUS (R191). -/
def State.serveStatus (s : State) (p : Port) : Reply × State :=
  (.ok (.status s.lastStart s.arb.lockReport (s.port p).overruns s.liveCount (s.port p).attnLine (s.port p).mask), s)

/-- GET_ATTENTION: the whole pending set is returned, then cleared (R190). -/
def State.serveGetAttention (s : State) (p : Port) : Reply × State :=
  (.ok (.attention (s.port p).attn), s.setPort p ((s.port p).attend (fun _ => {})))

/-- SET_ATTENTION_MASK: the mask and the line change together (R189). -/
def State.serveSetMask (s : State) (p : Port) (mask : Nat) : Reply × State :=
  let m := BitVec.ofNat 6 mask
  let line := (s.port p).attn.asserts m
  (.ok (.attnMask m line), s.setPort p { s.port p with mask := m, attnLine := line })

/-! ### Bays (chapters 3 and 5) -/

/-- A request served by the bay channel that its operand names. -/
def State.onBay (s : State) (bay : Nat) (f : BayId → Reply × State) : Reply × State :=
  match bayOf bay with
  | some b => f b
  | none => s.refuse .badField

/-- SET_SOFT_STOP: value 0 is ASSERT (R68). -/
def State.serveSoftStop (s : State) (bay value : Nat) : Reply × State :=
  s.onBay bay (fun b =>
    let s1 := s.modBay b (fun x => { x with softStop := decide (value = 0), holdOff := none })
    let s2 := s1.stopChanged b (s.effectiveStop b)
    (.ok (.stops (s2.bay b).softStop (s2.lines.stop.get b) (s2.effectiveStop b)), s2))

/-- The settings of a bay replaced. -/
def State.setBayCfg (s : State) (b : BayId) (c : BayCfg) : State :=
  s.setSettings { s.settings with bays := s.settings.bays.set b c }

/-- The channel under a new level cap: in ACTIVE the level is at most the cap, a fall sets blanking and a hold-off ends
(R69, R89, R92). -/
def Bay.capped (x : Bay) (cap : Nat) : Bay :=
  if x.mode = .active then { x.setLevel (min x.level cap) with holdOff := none } else x

/-- SET_LEVEL_CAP (R69). -/
def State.serveLevelCap (s : State) (bay cap : Nat) : Reply × State :=
  s.onBay bay (fun b =>
    if (s.bay b).mode = .unconfigured then s.refuse .bayUnavailable
    else
      let s1 := (s.setBayCfg b { s.bayCfg b with cap := cap }).modBay b (fun x => x.capped cap)
      (.ok (.levels cap (s1.bay b).level), s1))

/-- CLEAR_FAULT (R113, R114). -/
def State.serveClearFault (s : State) (bay : Nat) : Reply × State :=
  s.onBay bay (fun b =>
    if (s.bay b).mode ≠ .faulted then s.refuse .notFaulted
    else if s.faultStands b then s.refuse .notClear
    else (.ok (.bayState ((s.clearTheFault b).bay b).mode), s.clearTheFault b))

/-- What READ_BAY reports (R70). The current limit is reported absent for an unbound bay (R85). -/
def State.bayView (s : State) (b : BayId) : BayView :=
  let x := s.bay b
  { mode := x.mode, heldFrom := x.heldFrom, binding := x.binding, releasePending := x.releasePending, level := x.level
    cap := (s.bayCfg b).cap, holds := x.holds, stopLine := s.lines.stop.get b, softStop := x.softStop
    effectiveStop := s.effectiveStop b, link := x.link, periods := x.periods, step := x.probe.step
    attempt := x.probe.attempt, round := x.probe.round, last := x.probe.last, cause := x.fault.map FaultRec.cause
    entered := x.fault.map FaultRec.entered, sample := x.sample, limit := x.limit, repeats := x.repeats
    discards := x.discards, extensions := x.extensions, faultCount := x.faultCount }

/-- READ_BAY (R70). -/
def State.serveReadBay (s : State) (bay : Nat) : Reply × State :=
  s.onBay bay (fun b => (.ok (.bay (s.bayView b)), s))

/-! ### Chamber (chapter 6) -/

/-- PURGE (R121). -/
def State.servePurge (s : State) : Reply × State :=
  if s.chamber.state = .sealed then (.ok (.chamberState s.startPurge.chamber.state), s.startPurge)
  else s.refuse .chamberState

/-- STOP_CHAMBER (R126). -/
def State.serveStopChamber (s : State) : Reply × State :=
  if s.chamber.stoppable then (.ok (.chamberState s.stopInerting.chamber.state), s.stopInerting)
  else s.refuse .chamberState

/-- What READ_CHAMBER reports (R133). -/
def State.chamberView (s : State) : ChamberView where
  state := s.chamber.state
  purgeFault := s.chamber.purgeFault
  doorClosed := s.lines.doorClosed
  loaded := s.chamber.loaded
  throatEmptyLine := s.lines.throatEmpty
  a := s.chamber.a
  b := s.chamber.b
  condition := s.chamber.condition
  eff := s.chamber.eff
  excess := s.chamber.excess
  confirm := s.chamber.confirm
  purgeTimer := s.chamber.purgeTimer
  nitrogen := s.chamber.nitrogen
  flood := s.chamber.flood
  permit := s.chamber.permit
  plantPermit := s.lines.plantPermit
  shredPermit := s.chamber.shredPermit

/-- READ_CHAMBER (R133). -/
def State.serveReadChamber (s : State) : Reply × State := (.ok (.chamber s.chamberView), s)

/-! ### Feed (chapter 7) -/

/-- Some entry of the shredder path list is SHRED_UNCONFIRMED (R150). -/
def Feed.unsettled (f : Feed) : Bool := f.path.any PathEntry.unconfirmed

/-- RESUME_FEED (R150). -/
def State.serveResumeFeed (s : State) : Reply × State :=
  if s.feed.unsettled then s.refuse .notClear
  else (.ok (.feedFaults {}), (s.setFeed { s.feed with faults := {} }).evalAdmission)

/-- What READ_QUEUE reports (R152). -/
def State.queueView (s : State) : QueueView where
  queue := s.feed.queue.map (fun e => { slot := e.slot, tag := e.tag, stage := (s.named e).map Rec.stage })
  gate := s.feed.gate
  gateOpen := s.feed.gateOpen
  gateTimer := s.feed.gateTimer.map Timer.elapsed
  shred := s.feed.shred
  passPending := s.feed.passPending
  shredTimer := s.feed.shredTimer.map Timer.elapsed
  path := s.feed.path
  faults := s.feed.faults
  memory := s.feed.memory
  block := s.feed.block
  failing := s.admissionConditions.map not

/-- READ_QUEUE (R152). -/
def State.serveReadQueue (s : State) : Reply × State := (.ok (.queue s.queueView), s)

/-! ### Zones (chapter 8) -/

/-- A request served by the Fire Zone Monitor for the zone that its operand names. -/
def State.onZone (s : State) (zone : Nat) (f : ZoneId → Reply × State) : Reply × State :=
  match zoneOf zone with
  | some z => f z
  | none => s.refuse .badField

/-- CLEAR_ALARM (R168, R169): a zone that is not in ALARM is accepted and nothing changes. -/
def State.serveClearAlarm (s : State) (zone : Nat) : Reply × State :=
  s.onZone zone (fun z =>
    if !s.zoneQuiet z then s.refuse .notClear
    else
      let s1 := if (s.zone z).state = .alarm then s.clearZone z else s
      (.ok (.zoneState (s1.zone z).state (s1.zone z).degraded), s1))

/-- The kind of channel that a detector is (R154). -/
def DetKind.chanKind : DetKind → ChanKind
  | .heat => .heat
  | .gas => .gas

/-- A filtered channel as READ_ZONE reports it (R170). -/
def Chan.report (c : Chan) (kind : ChanKind) (source : Nat) (age : Option Nat) : ChanView :=
  { kind, source, state := c.state, reading := c.reading, alarmRun := c.alarmRun, warnRun := c.warnRun
    quietRun := c.quietRun, age, scans := none }

/-- The flame channel of a zone as READ_ZONE reports it (R170); it has no reading and no runs (R160). -/
def Flame.report (f : Flame) (z : ZoneId) : ChanView :=
  { kind := .flame, source := z.1, state := f.state, reading := none, alarmRun := 0, warnRun := 0, quietRun := 0
    age := none, scans := some (f.last, f.previous) }

/-- The channels of a zone (R155). DESIGN CHOICE (log entry 16): flame line, detectors, pack temperatures, each in
ascending order. -/
def State.zoneChannels (s : State) (z : ZoneId) : List ChanView :=
  ((s.zone z).flame.report z) ::
    ((s.mappedTo z).filterMap (fun d => (s.settings.detectors.get d).map (fun m =>
      (s.detector d).chan.report m.kind.chanKind d.1 (some (s.detector d).age)))
    ++ (zoneBays z).filterMap (fun b => (s.bay b).pack.map (fun c => c.report .packTemp b.1 none)))

/-- READ_ZONE (R170). -/
def State.serveReadZone (s : State) (zone : Nat) : Reply × State :=
  s.onZone zone (fun z => (.ok (.zone { state := (s.zone z).state, degraded := (s.zone z).degraded
                                        sweepWaiting := (s.zone z).sweepWaiting, channels := s.zoneChannels z }), s))

/-! ### Settings (chapter 9) -/

/-- SET_CLASS (R174). -/
def State.serveSetClass (s : State) (cls : Nat) (cfg : ClassCfg) : Reply × State :=
  match classOf cls with
  | none => s.refuse .badField
  | some c =>
    if 0 < s.settings.useCount.get c then s.refuse .inUse
    else (.ok (.classCfg cfg), s.setSettings { s.settings with classes := s.settings.classes.set c (some cfg) })

/-- The bay takes a SET_BAY_CONFIG (R175). -/
def BayState.configurable : BayState → Bool
  | .unconfigured | .stopped | .idle => true
  | .probing | .active | .resting | .held | .faulted | .retrying => false

/-- The channel under new bay settings (R51, R175): STOPPED or IDLE by the effective stop. A bay that leaves UNCONFIGURED
has its link LOST, no toggle, and its period count at the link timeout. -/
def Bay.configured (x : Bay) (rest : BayState) (timeout : Nat) : Bay :=
  if x.mode = .unconfigured then { x with mode := rest, link := .lost, toggle := none, periods := timeout }
  else { x with mode := rest }

/-- SET_BAY_CONFIG (R175). -/
def State.serveBayConfig (s : State) (bay : Nat) (cfg : BayCfg) : Reply × State :=
  s.onBay bay (fun b =>
    if !(s.bay b).mode.configurable then s.refuse .inUse
    else
      let s1 := s.setBayCfg b cfg
      let s2 := s1.modBay b (fun x => x.configured (s1.restState b) s.settings.timing.link)
      (.ok (.bayCfg cfg (s2.bay b).mode), s2))

/-- SET_ZONE_CONFIG (R176). -/
def State.serveZoneConfig (s : State) (zone : Nat) (cfg : ZoneCfg) : Reply × State :=
  s.onZone zone (fun z => (.ok (.zoneCfg cfg), s.setSettings { s.settings with zones := s.settings.zones.set z cfg }))

/-- The detector channels of a zone, leaving out the one of an address (R177). -/
def State.detectorCount (s : State) (z : ZoneId) (d : DetId) : Nat :=
  ((s.mappedTo z).filter (fun x => decide (x ≠ d))).length

/-- The map entry that SET_DETECTOR_MAP gives (R177). -/
def mapEntryOf (used zone kind : Nat) : Option MapEntry :=
  if used = 0 then none
  else match zoneOf zone, kindOf kind with
    | some z, some k => some { zone := z, kind := k }
    | _, _ => none

/-- The zone has its four detectors (R177); a request that sets UNUSED counts no zone. -/
def State.zoneFull (s : State) (d : DetId) (entry : Option MapEntry) : Bool :=
  match entry with
  | some m => decide (4 ≤ s.detectorCount m.zone d)
  | none => false

/-- SET_DETECTOR_MAP (R177, R161). -/
def State.serveDetectorMap (s : State) (address used zone kind : Nat) : Reply × State :=
  match detOf address with
  | none => s.refuse .badField
  | some d =>
    if s.zoneFull d (mapEntryOf used zone kind) then s.refuse .zoneFull
    else
      let s1 := s.remap d (mapEntryOf used zone kind)
      (.ok (.detectorMap s1.settings.detectors.1), s1)

/-- SET_CHAMBER_CONFIG (R178). -/
def State.serveChamberConfig (s : State) (cfg : ChamberCfg) : Reply × State :=
  match s.chamber.state with
  | .doorOpen | .sealed => (.ok (.chamberCfg cfg), s.setSettings { s.settings with chamber := cfg })
  | .purging | .inert | .shredding | .hold | .fire => s.refuse .chamberState

/-- Some bay is bound (R179). -/
def State.anyBound (s : State) : Bool := s.bays.1.any (fun x => x.binding.isSome)

/-- A setting given a value is in use (the last column of Table 9-4, R179). -/
def State.timingInUse (s : State) (link rebound gate shred : Option Nat) : Bool :=
  ((link.isSome || rebound.isSome) && s.anyBound)
    || ((gate.isSome || shred.isSome) && (s.feed.gate.isSome || s.feed.shred.isSome))

/-- SET_TIMING (R179). A LOST link takes a new link timeout as its period count. -/
def State.serveTiming (s : State) (link lockMs rebound gate shred : Option Nat) : Reply × State :=
  if s.timingInUse link rebound gate shred then s.refuse .inUse
  else
    let t := s.settings.timing
    let t := { t with link := link.getD t.link, lockMs := lockMs.getD t.lockMs, rebound := rebound.getD t.rebound
                      gateSec := gate.getD t.gateSec, shredSec := shred.getD t.shredSec }
    let s1 := s.setSettings { s.settings with timing := t }
    (.ok (.timing t), { s1 with
      bays := s1.bays.map (fun x => if x.link = .lost then { x with periods := t.link } else x) })

/-- A class as READ_SETTING reports it (R180). -/
def State.readClass (s : State) (index : Nat) : Reply :=
  match classOf index with
  | some c => .ok (.classReport (s.settings.classes.get c) (s.settings.useCount.get c))
  | none => .refuse .badField

/-- A bay's settings as READ_SETTING reports them, with I_oc when configured (R180). -/
def State.readBayCfg (s : State) (index : Nat) : Reply :=
  match bayOf index with
  | some b => .ok (.bayReport (s.bayCfg b) ((s.bayCfg b).rating.map (fun _ => s.overcurrentLevel b)))
  | none => .refuse .badField

/-- A zone's settings as READ_SETTING reports them (R180). -/
def State.readZoneCfg (s : State) (index : Nat) : Reply :=
  match zoneOf index with
  | some z => .ok (.zoneCfg (s.zoneCfg z))
  | none => .refuse .badField

/-- READ_SETTING of a group other than ACCESS (R180). -/
def State.readSetting (s : State) (group index : Nat) : Reply :=
  match group with
  | 0 => s.readClass index
  | 1 => s.readBayCfg index
  | 2 => s.readZoneCfg index
  | 3 => .ok (.chamberCfg s.settings.chamber)
  | 4 => .ok (.detectorReport s.settings.detectors.1 ((Bank.places 7).map (fun z => (s.mappedTo z).length)))
  | 5 => .ok (.timing s.settings.timing)
  | _ => .refuse .badField

end Sys2Proof.Machine
end

