-- ==== Sys2Proof/Machine/Standby.lean ====
section
/-!
DEFINITION. The Standby Domain (chapter 11): the loss of the main domain (R194, R196), the choice of start (R195), the
cold-start values, the warm-start reconciliation (R29, R47, R76, R153, R172) and the end of a start (R197).
-/

namespace Sys2Proof.Machine

/-! ### Loss of the main domain -/

/-- A bay write that is retained: a carry or a hazard flag (R47, Table 11-1). -/
def BayWrite.retained : BayWrite → Bool
  | .carry _ | .flag _ _ => true
  | .stage _ | .unbind _ => false

/-- What a bay channel retains: binding, F, waiting carries and waiting flag writes (Table 11-1). The rest takes its start
value (R76, R115; log entry 8). -/
def Bay.retained (x : Bay) : Bay :=
  { binding := x.binding, frac := x.frac, writes := x.writes.filter BayWrite.retained }

/-- What a zone retains: the ALARM latch and sweep waiting (R154). -/
def Zone.retained (z : Zone) : Zone :=
  { state := if z.state = .alarm then .alarm else .normal, sweepWaiting := z.sweepWaiting }

/-- What the Feed Controller retains: queue and shredder path list (R135). -/
def Feed.retained (f : Feed) : Feed := { queue := f.queue, path := f.path }

/-- What a port retains: its attention mask (R189). While a start is in progress the line is deasserted (R196). -/
def PortState.retained (x : PortState) : PortState := { mask := x.mask }

/-- The main domain stops (R194, R196): every main-domain item takes its start value, every output is inactive, and the
retained state stays. -/
def State.stopMain (s : State) : State :=
  { s with
    arb := {}, bays := s.bays.map Bay.retained, chamber := {}, feed := s.feed.retained
    zones := s.zones.map Zone.retained, detectors := .fill 28 {}, sensors := .fill 32 {}
    line := s.line.retained, plant := s.plant.retained }

/-! ### Cold start -/

/-- Every retained item at its cold-start value (R28, R48, R75, R153, R171, R189, chapter 9). -/
def State.coldValues (s : State) : State :=
  { s with
    slots := .fill 256 none, tallies := {}, access := {}, arb := {}, bays := .fill 12 {}, feed := {}
    zones := .fill 7 {}, settings := {}, line := { mask := 0x3D }, plant := { mask := 0x3F } }

/-! ### Warm start -/

/-- A retained write of a bay made in the reconciliation (R47). -/
def State.makeRetained (s : State) (w : BayWrite) : State :=
  match w with
  | .carry e => s.makeCarry e
  | .flag e f => s.makeFlag e f
  | .stage _ | .unbind _ => s

/-- The unbind rounding of a bound bay at a warm start (R76, R82). -/
def State.roundBay (s : State) (b : BayId) : State :=
  match (s.bay b).binding with
  | some e =>
    match s.named e with
    | some r => s.creditEnergy e.slot r (roundUp (s.bay b).frac)
    | none => s
  | none => s

/-- The reconciliation of one bay (R76): the retained carries and flag writes are made, the rounding is applied, and the
binding, F and the list are gone. -/
def State.reconcileBay (s : State) (b : BayId) : State :=
  (((s.bay b).writes.foldl State.makeRetained s).roundBay b).modBay b
    (fun x => { x with binding := none, frac := 0, writes := [] })

/-- The reconciliation of the record in one slot by its stage (R29). -/
def State.reconcileSlot (s : State) (i : Slot) : State :=
  match s.record i with
  | none => s
  | some r =>
    match r.stage with
    | .probing | .discharging | .resting => s.setRecord i (some { r.broken with stage := .waiting, bay := none })
    | .atGate => s.setRecord i (some { r.returned with stage := .queued })
    | .inShredder =>
      (s.setRecord i (some { r with stage := .shredUnconfirmed })).setFeed (s.feed.unconfirmPath i)
    | .waiting | .discharged | .queued | .shredUnconfirmed => s

/-- The sweeps retained as waiting, asked for again (R47, R172). DESIGN CHOICE (log entry 17): in the order of the zone
numbers. -/
def State.retainedSweeps (s : State) : List ZoneId := (Bank.places 7).filter (fun z => (s.zone z).sweepWaiting)

/-- The reconciliation of a warm start: the bays with their records, then the stages (R29), then the sweeps that wait
(R47). -/
def State.reconcile (s : State) : State :=
  let s1 := (Bank.places 12).foldl State.reconcileBay s
  let s2 := (Bank.places 256).foldl State.reconcileSlot s1
  let s3 := s2.setArb { sweeps := s2.retainedSweeps }
  s3.setAccess s3.nextAccess

/-- The kind of the start (R195): warm when the retention flag is held. -/
def State.startKind (s : State) : StartKind := if s.retention then .warm else .cold

/-- The choice of start, at POWER_UP or at the release of RESET (R195, R196): every main-domain item is at its start value,
and the retained state is kept and reconciled, or takes its cold-start values. -/
def State.chooseStart (s : State) : State :=
  match s.startKind with
  | .warm => { s.stopMain.reconcile with phase := .starting .warm }
  | .cold => { s.stopMain.coldValues with phase := .starting .cold }

/-! ### The end of a start -/

/-- A bay channel at the end of a start (R51, R75, R76): UNCONFIGURED when it has no settings, otherwise STOPPED or IDLE;
link LOST with the period count at the link timeout. -/
def Bay.started (x : Bay) (configured : Bool) (rest : BayState) (timeout : Nat) : Bay :=
  { x with mode := if configured then rest else .unconfigured, periods := timeout }

/-- The bay channels at the end of a start. -/
def State.startBays (s : State) : State :=
  (Bank.places 12).foldl (fun t b => t.modBay b (fun x =>
    x.started ((t.bayCfg b).rating.isSome) (t.restState b) t.settings.timing.link)) s

/-- The chamber state after a start (R134). -/
def State.startChamber (s : State) : ChamberState :=
  if (s.zone 6).state = .alarm then .fire else if s.lines.doorClosed then .sealed else .doorOpen

/-- The zone block after a start: the zones retained in ALARM (R153, R172). -/
def State.startBlock (s : State) : ZoneBlock :=
  { z4 := decide ((s.zone 4).state = .alarm), z5 := decide ((s.zone 5).state = .alarm)
    z6 := decide ((s.zone 6).state = .alarm) }

/-- A port at the end of a start (R189, R197): {RESTART} pending, the line by the mask, the restart mark set. -/
def PortState.started (x : PortState) : PortState :=
  { mask := x.mask, attn := restartOnly, attnLine := restartOnly.asserts x.mask, restartMark := true }

/-- The sweeps that still wait are made before the start ends (R197). -/
def State.remainingSweeps (s : State) : State :=
  s.arb.sweeps.foldl (fun t z => t.popSweep.makeSweep z) s

/-- The end of a start of a kind (R197): every block in its start state, the retention flag set, the kind recorded, the
outputs and the attention lines at their levels. -/
def State.endStart (s : State) (kind : StartKind) : State :=
  let s1 := s.remainingSweeps.stopMain.startBays
  let s2 := { s1 with
    phase := .running, retention := true, lastStart := kind, line := s1.line.started, plant := s1.plant.started
    feed := { s1.feed with block := s1.startBlock } }
  (s2.setChamber { state := s2.startChamber, loaded := !s2.lines.throatEmpty }).driveChamber

/-! ### Events of the supplies and of RESET -/

/-- VDD falls (R194). -/
def State.loseVdd (s : State) : State :=
  match s.phase with
  | .off => s
  | .inReset | .starting _ | .running => { s.stopMain with phase := .off }

/-- VSTBY falls below the retention level: the flag is lost while VDD is absent (R195). DESIGN CHOICE (log entry 32): no
VSTBY level is held, so a loss of VDD keeps the flag until this event. -/
def State.loseRetention (s : State) : State :=
  match s.phase with
  | .off => { s with retention := false }
  | .inReset | .starting _ | .running => s

/-- VDD reaches its operating level (R195, R196): while RESET is asserted the choice of start waits for its release. -/
def State.reachVdd (s : State) : State :=
  match s.phase with
  | .off => if s.lines.reset then { s with phase := .inReset } else s.chooseStart
  | .inReset | .starting _ | .running => s

/-- RESET asserts (R196). -/
def State.assertReset (s : State) : State :=
  let s1 := s.setLines { s.lines with reset := true }
  match s.phase with
  | .off => s1
  | .inReset | .starting _ | .running => { s1.stopMain with phase := .inReset }

/-- RESET is released (R196). -/
def State.releaseReset (s : State) : State :=
  let s1 := s.setLines { s.lines with reset := false }
  match s.phase with
  | .inReset => s1.chooseStart
  | .off | .starting _ | .running => s1

/-- START_END (R197). -/
def State.finishStart (s : State) : State :=
  match s.phase with
  | .starting kind => s.endStart kind
  | .off | .inReset | .running => s

end Sys2Proof.Machine
end

