-- ==== Sys2Proof/Machine/Tick.lean ====
section
/-!
DEFINITION. One end of a 10 ms period, taken by every timebase of a running part together (log entry 1): what a step does
on an empty queue. DESIGN CHOICE (log entry 9): the order in which the blocks take it is the order below.
-/

namespace Sys2Proof.Machine

/-- The lock's hold timer (R39). -/
def State.tickLock (s : State) : State :=
  match s.arb.lock with
  | none => s
  | some l =>
    if l.duration ≤ l.elapsed + 1 then s.expireLock
    else s.setArb { s.arb with lock := some { l with elapsed := l.elapsed + 1 } }

/-- The period count of a bay (R60, R61). -/
def State.tickLink (s : State) (b : BayId) : State :=
  if (s.bay b).supervises then
    if s.settings.timing.link < (s.bay b).periods + 1 then s.loseLink b
    else s.modBay b (fun x => { x with periods := x.periods + 1 })
  else s

/-- The hold-off of a bay (R91). -/
def State.tickHoldOff (s : State) (b : BayId) : State :=
  if (s.bay b).inHoldOff then
    match (s.bay b).holdOff with
    | some n => if n ≤ 1 then s.expireHoldOff b else s.modBay b (fun x => { x with holdOff := some (n - 1) })
    | none => s
  else s

/-- The rest time of a class, in periods (R95); 0 for an unbound bay. -/
def State.restPeriods (s : State) (b : BayId) : Nat :=
  match (s.bay b).copies with
  | some k => periodsOf (s.classCfg k.cls).restSec
  | none => 0

/-- The rest of a bay (R95). -/
def State.tickRest (s : State) (b : BayId) : State :=
  if (s.bay b).rests then
    if s.restPeriods b ≤ (s.bay b).restElapsed + 1 then s.endRest b
    else s.modBay b (fun x => { x with restElapsed := x.restElapsed + 1 })
  else s

/-- The retry wait of a bay (R110). -/
def State.tickRetry (s : State) (b : BayId) : State :=
  if (s.bay b).waitsRetry then
    if periodsOf (s.bayCfg b).retrySec ≤ (s.bay b).retryWait + 1 then s.endRetry b
    else s.modBay b (fun x => { x with retryWait := x.retryWait + 1 })
  else s

/-- The end of a period at a bay channel: the period count, then the time that runs in the state the bay is in. -/
def State.tickBay (s : State) (b : BayId) : State :=
  let s1 := s.tickLink b
  match (s1.bay b).mode with
  | .active => s1.tickHoldOff b
  | .resting => s1.tickRest b
  | .retrying => s1.tickRetry b
  | .unconfigured | .stopped | .idle | .probing | .held | .faulted => s1

/-- A mapped detector (R157): the time since its last fresh frame, up to the lapse. DESIGN CHOICE (log entry 34): after the
lapse the time stays 100 until the next fresh frame. -/
def State.tickDetector (s : State) (d : DetId) : State :=
  if (s.settings.detectors.get d).isSome ∧ (s.detector d).age < 100 then
    if (s.detector d).age + 1 = 100 then s.detectorLapse d
    else s.setDetector d { s.detector d with age := (s.detector d).age + 1 }
  else s

/-- An analyser (R118). -/
def State.tickAnalyser (s : State) (w : Analyser) : State :=
  let x := s.chamber.analyser w
  if x.fresh then
    if 100 ≤ x.age + 1 then s.analyserLapse w
    else s.setChamber (s.chamber.setAnalyser w { x with age := x.age + 1 })
  else s

/-- The confirm timer (R122, R125). -/
def State.tickConfirm (s : State) : State :=
  match s.chamber.confirm with
  | none => s
  | some n =>
    if periodsOf s.settings.chamber.confirmSec ≤ n + 1 then s.confirmElapsed
    else s.setChamber { s.chamber with confirm := some (n + 1) }

/-- The purge timer (R123). -/
def State.tickPurge (s : State) : State :=
  match s.chamber.purgeTimer with
  | none => s
  | some n =>
    if periodsOf s.settings.chamber.purgeSec ≤ n + 1 then s.purgeExpired
    else s.setChamber { s.chamber with purgeTimer := some (n + 1) }

/-- The gate timer (R142, R146). -/
def State.tickGate (s : State) : State :=
  match s.feed.gateTimer with
  | none => s
  | some t =>
    if t.duration ≤ t.elapsed + 1 then s.gateExpired
    else s.setFeed { s.feed with gateTimer := some { t with elapsed := t.elapsed + 1 } }

/-- The shred timer (R142, R148). -/
def State.tickShred (s : State) : State :=
  match s.feed.shredTimer with
  | none => s
  | some t =>
    if t.duration ≤ t.elapsed + 1 then s.shredExpired
    else s.setFeed { s.feed with shredTimer := some { t with elapsed := t.elapsed + 1 } }

/-- The return window (R145). -/
def State.tickWindow (s : State) : State :=
  match s.feed.memory with
  | none => s
  | some m =>
    if m.remaining ≤ 1 then s.windowEnded
    else s.setFeed { s.feed with memory := some { m with remaining := m.remaining - 1 } }

/-- One period end of every timebase. The memory set by a gate timeout in this same period keeps its whole window, so the
window counts before the gate timer. -/
def State.tickAll (s : State) : State :=
  let s1 := (Bank.places 12).foldl State.tickBay s.tickLock
  let s2 := (Bank.places 28).foldl State.tickDetector s1
  let s3 := ((s2.tickAnalyser .a).tickAnalyser .b).tickConfirm.tickPurge
  s3.tickWindow.tickGate.tickShred

/-- What a step does on an empty queue: a running part takes one period end; no timer runs otherwise (R196). -/
def State.tick (s : State) : State := if s.running then s.tickAll else s

end Sys2Proof.Machine
end

