-- ==== Sys2Proof/Machine/Events.lean ====
section
/-!
DEFINITION. The meanings of the rows that are no port request: frame events, the engines' grants, frames from the field,
the ends of times, the discrete inputs, and the supplies. An event of the line is taken while the part runs (R194, R196);
an event that cannot occur in a state leaves it (log entry 3). A row that names the end of a time takes that time to its
end at once (log entry 2).
-/

namespace Sys2Proof.Machine

/-- An event that only a running part takes. -/
def State.whenRunning (s : State) (f : State → State) : State := if s.running then f s else s

/-! ### Port frame events -/

/-- FRAME_ERROR (R182). -/
def execFrameError (p : Port) (bytes : List Byte) (s : State) : Host.Outcome State Fault Refusal :=
  .next (s.onFrameError p bytes)

/-- UNKNOWN_REQUEST (R182). -/
def execUnknownRequest (p : Port) (bytes : List Byte) (s : State) : Host.Outcome State Fault Refusal :=
  .next (s.onUnknownRequest p bytes)

/-- OVERRUN (R185). -/
def execOverrun (p : Port) (s : State) : Host.Outcome State Fault Refusal := .next (s.onOverrun p)

/-- CHIP_SELECT_RISE (R183). -/
def execChipSelectRise (cut : List Byte) (answerBegun : Bool) (s : State) : Host.Outcome State Fault Refusal :=
  .next (s.onChipSelectRise cut answerBegun)

/-- PLANT_BYTE_GAP_TIMEOUT (R184). -/
def execPlantByteGapTimeout (bytes : List Byte) (s : State) : Host.Outcome State Fault Refusal :=
  .next (s.cutFrame .plant bytes)

/-- ANSWER_SENT (R187). -/
def execAnswerSent (p : Port) (s : State) : Host.Outcome State Fault Refusal := .next (s.onAnswerSent p)

/-- LOCK_HOLD_EXPIRY (R39). -/
def execLockHoldExpiry (s : State) : Host.Outcome State Fault Refusal := .next (s.whenRunning State.expireLock)

/-! ### The engines' grants -/

/-- ENERGY_CARRY (R23). -/
def execEnergyCarry (b : BayId) (s : State) : Host.Outcome State Fault Refusal := .next (s.grantCarry b)

/-- HAZARD_FLAG_WRITE (R23). -/
def execHazardFlagWrite (b : BayId) (s : State) : Host.Outcome State Fault Refusal := .next (s.grantFlag b)

/-- STAGE_CHANGE_WRITE (R8). -/
def execStageChangeWrite (b : BayId) (s : State) : Host.Outcome State Fault Refusal := .next (s.grantStage b)

/-- UNBINDING_GRANT (R64). -/
def execUnbindingGrant (b : BayId) (s : State) : Host.Outcome State Fault Refusal := .next (s.grantUnbind b)

/-- ADMISSION_WRITE (R140). -/
def execAdmissionWrite (s : State) : Host.Outcome State Fault Refusal := .next s.grantAdmission

/-- PASS_WRITE (R142). -/
def execPassWrite (s : State) : Host.Outcome State Fault Refusal := .next s.grantPass

/-- UNEXPECTED_PASS_WRITE (R144). -/
def execUnexpectedPassWrite (s : State) : Host.Outcome State Fault Refusal := .next s.grantUnexpected

/-- RETURN_WRITE (R146). -/
def execReturnWrite (s : State) : Host.Outcome State Fault Refusal := .next s.grantReturn

/-- RETIREMENT_WRITE (R147). -/
def execRetirementWrite (s : State) : Host.Outcome State Fault Refusal := .next s.grantRetirement

/-- SHRED_UNCONFIRMED_WRITE (R148). -/
def execShredUnconfirmedWrite (s : State) : Host.Outcome State Fault Refusal := .next s.grantUnconfirmed

/-- QUARANTINE_SWEEP (R165 to R167). -/
def execQuarantineSweep (s : State) : Host.Outcome State Fault Refusal := .next s.grantSweep

/-! ### Frames from the field and the ends of times -/

/-- SAMPLE_FRAME (R78). -/
def execSampleFrame (b : BayId) (bytes : List Byte) (s : State) : Host.Outcome State Fault Refusal :=
  .next (s.onBayLink b bytes)

/-- LINK_TIMEOUT (R61). -/
def execLinkTimeout (b : BayId) (s : State) : Host.Outcome State Fault Refusal :=
  .next (s.whenRunning (fun t => if (t.bay b).supervises then t.loseLink b else t))

/-- HOLD_OFF_EXPIRY (R91). -/
def execHoldOffExpiry (b : BayId) (s : State) : Host.Outcome State Fault Refusal :=
  .next (s.whenRunning (fun t => if (t.bay b).inHoldOff then t.expireHoldOff b else t))

/-- REST_END (R96). -/
def execRestEnd (b : BayId) (s : State) : Host.Outcome State Fault Refusal :=
  .next (s.whenRunning (fun t => if (t.bay b).rests then t.endRest b else t))

/-- RETRY_WAIT_ELAPSED (R110). -/
def execRetryWaitElapsed (b : BayId) (s : State) : Host.Outcome State Fault Refusal :=
  .next (s.whenRunning (fun t => if (t.bay b).waitsRetry then t.endRetry b else t))

/-- SENSOR_FRAME (R192). -/
def execSensorFrame (bytes : List Byte) (s : State) : Host.Outcome State Fault Refusal :=
  .next (s.onSensorLink bytes)

/-- ANALYSER_FRESHNESS_LAPSE (R118). -/
def execAnalyserFreshnessLapse (which : Analyser) (s : State) : Host.Outcome State Fault Refusal :=
  .next (s.whenRunning (fun t => t.analyserLapse which))

/-- DETECTOR_FRESHNESS_LAPSE (R157). -/
def execDetectorFreshnessLapse (d : DetId) (s : State) : Host.Outcome State Fault Refusal :=
  .next (s.whenRunning (fun t => t.detectorLapse d))

/-- FLAME_SCAN (R160): the seven lines, FLAME0 first. DESIGN CHOICE (log entry 18): so the sweeps of zones that enter ALARM
in one scan are asked for in ascending order of the zone. -/
def execFlameScan (levels : BitVec 7) (s : State) : Host.Outcome State Fault Refusal :=
  .next (s.whenRunning (fun t => (Bank.places 7).foldl (fun u z => u.scanFlame z (levels.getLsbD z.1)) t))

/-- CONFIRM_TIME_ELAPSED (R122, R125). -/
def execConfirmTimeElapsed (s : State) : Host.Outcome State Fault Refusal := .next (s.whenRunning State.confirmElapsed)

/-- PURGE_TIMEOUT (R123). -/
def execPurgeTimeout (s : State) : Host.Outcome State Fault Refusal := .next (s.whenRunning State.purgeExpired)

/-- GATE_TIMEOUT (R146). -/
def execGateTimeout (s : State) : Host.Outcome State Fault Refusal := .next (s.whenRunning State.gateExpired)

/-- SHRED_TIMEOUT (R148). -/
def execShredTimeout (s : State) : Host.Outcome State Fault Refusal := .next (s.whenRunning State.shredExpired)

/-- RETURN_WINDOW_END (R145). -/
def execReturnWindowEnd (s : State) : Host.Outcome State Fault Refusal := .next (s.whenRunning State.windowEnded)

/-! ### Discrete inputs: the level is kept at all times, the event is taken while the part runs (R196) -/

/-- The STOP line of bay `b` at a level. -/
def State.stopLevel (s : State) (b : BayId) (high : Bool) : State :=
  s.setLines { s.lines with stop := s.lines.stop.set b high }

/-- STOP_LINE_CHANGE (R52). -/
def execStopLineChange (b : BayId) (high : Bool) (s : State) : Host.Outcome State Fault Refusal :=
  .next ((s.stopLevel b high).whenRunning (fun t => t.stopChanged b (s.effectiveStop b)))

/-- DOOR_CLOSED_CHANGE (R120). A line given the level it has is no change. -/
def execDoorClosedChange (closed : Bool) (s : State) : Host.Outcome State Fault Refusal :=
  .next ((s.setLines { s.lines with doorClosed := closed }).whenRunning (fun t =>
    if closed = s.lines.doorClosed then t else if closed then t.doorCloses else t.doorOpens))

/-- GATE_PASS (R127, R142, R144). -/
def execGatePass (s : State) : Host.Outcome State Fault Refusal :=
  .next (s.whenRunning (fun t => t.feedPass.chamberPass))

/-- THROAT_EMPTY (R127, R147); a change of the line's level evaluates admission (R139). -/
def execThroatEmpty (s : State) : Host.Outcome State Fault Refusal :=
  .next ((s.setLines { s.lines with throatEmpty := true }).whenRunning (fun t =>
    t.feedThroatEmpty.chamberThroatEmpty.evalAdmission))

/-- THROAT_EMPTY_DEASSERT (R139). -/
def execThroatEmptyDeassert (s : State) : Host.Outcome State Fault Refusal :=
  .next ((s.setLines { s.lines with throatEmpty := false }).whenRunning State.evalAdmission)

/-- PLANT_PERMIT_CHANGE (R131). -/
def execPlantPermitChange (asserted : Bool) (s : State) : Host.Outcome State Fault Refusal :=
  .next ((s.setLines { s.lines with plantPermit := asserted }).whenRunning State.driveChamber)

/-! ### Supplies and RESET (chapter 11) -/

/-- VDD_LOSS (R194). -/
def execVddLoss (s : State) : Host.Outcome State Fault Refusal := .next s.loseVdd

/-- RETENTION_LOSS (R195). -/
def execRetentionLoss (s : State) : Host.Outcome State Fault Refusal := .next s.loseRetention

/-- POWER_UP (R195). -/
def execPowerUp (s : State) : Host.Outcome State Fault Refusal := .next s.reachVdd

/-- RESET_ASSERT (R196). -/
def execResetAssert (s : State) : Host.Outcome State Fault Refusal := .next s.assertReset

/-- RESET_RELEASE (R196). -/
def execResetRelease (s : State) : Host.Outcome State Fault Refusal := .next s.releaseReset

/-- START_END (R197). -/
def execStartEnd (s : State) : Host.Outcome State Fault Refusal := .next s.finishStart

end Sys2Proof.Machine
end

