-- ==== Sys2Proof/Machine/PortRequests.lean ====
section
/-!
DEFINITION. The meanings of the 39 port requests (Table 10-4). A request that takes a grant (R30) is carried out by its
definition in Records.lean, at its grant; one that takes none (R35) by its definition in Requests.lean, as it arrives.
-/

namespace Sys2Proof.Machine

/-- STATUS (R191). -/
def execStatus (p : Port) (s : State) : Host.Outcome State Fault Refusal :=
  .next (s.served p (.status p) (fun t => t.serveStatus p))

/-- GET_ATTENTION (R190). -/
def execGetAttention (p : Port) (s : State) : Host.Outcome State Fault Refusal :=
  .next (s.served p (.getAttention p) (fun t => t.serveGetAttention p))

/-- SET_ATTENTION_MASK (R189). -/
def execSetAttentionMask (p : Port) (mask : Nat) (s : State) : Host.Outcome State Fault Refusal :=
  .next (s.served p (.setAttentionMask p mask) (fun t => t.serveSetMask p mask))

/-- LOCK_TABLE (R36). -/
def execLockTable (p : Port) (s : State) : Host.Outcome State Fault Refusal :=
  .next (s.granted p (.lockTable p))

/-- UNLOCK_TABLE (R38). -/
def execUnlockTable (p : Port) (s : State) : Host.Outcome State Fault Refusal :=
  .next (s.granted p (.unlockTable p))

/-- SET_ACCESS (R44). -/
def execSetAccess (p : Port) (base count linePerm plantPerm lineMask plantMask : Nat) (s : State) :
    Host.Outcome State Fault Refusal :=
  .next (s.granted p (.setAccess p base count linePerm plantPerm lineMask plantMask))

/-- REGISTER (R14). -/
def execRegister (p : Port) (tag cls cells capacity declared mass damaged : Nat) (s : State) :
    Host.Outcome State Fault Refusal :=
  .next (s.granted p (.register p tag cls cells capacity declared mass damaged))

/-- READ_RECORD (R10). -/
def execReadRecord (p : Port) (slot : Nat) (s : State) : Host.Outcome State Fault Refusal :=
  .next (s.granted p (.readRecord p slot))

/-- FIND (R11). -/
def execFind (p : Port) (tag : Nat) (s : State) : Host.Outcome State Fault Refusal :=
  .next (s.granted p (.find p tag))

/-- SCAN (R12). -/
def execScan (p : Port) (stage start : Nat) (s : State) : Host.Outcome State Fault Refusal :=
  .next (s.granted p (.scan p stage start))

/-- AMEND (R16). -/
def execAmend (p : Port) (kind selector field value : Nat) (s : State) : Host.Outcome State Fault Refusal :=
  .next (s.granted p (.amend p kind selector field value))

/-- RETIRE (R17). -/
def execRetire (p : Port) (tag : Nat) (s : State) : Host.Outcome State Fault Refusal :=
  .next (s.granted p (.retire p tag))

/-- QUARANTINE (R18). -/
def execQuarantine (p : Port) (tag : Nat) (s : State) : Host.Outcome State Fault Refusal :=
  .next (s.granted p (.quarantine p tag))

/-- LIFT_QUARANTINE (R19). -/
def execLiftQuarantine (p : Port) (tag : Nat) (s : State) : Host.Outcome State Fault Refusal :=
  .next (s.granted p (.liftQuarantine p tag))

/-- CONFIRM_SHRED (R21). -/
def execConfirmShred (p : Port) (tag outcome : Nat) (s : State) : Host.Outcome State Fault Refusal :=
  .next (s.granted p (.confirmShred p tag outcome))

/-- READ_TALLIES (R26). -/
def execReadTallies (p : Port) (s : State) : Host.Outcome State Fault Refusal :=
  .next (s.granted p (.readTallies p))

/-- RESET_TALLIES (R27). -/
def execResetTallies (p : Port) (s : State) : Host.Outcome State Fault Refusal :=
  .next (s.granted p (.resetTallies p))

/-- ASSIGN_BAY (R65). -/
def execAssignBay (p : Port) (tag bay : Nat) (s : State) : Host.Outcome State Fault Refusal :=
  .next (s.granted p (.assignBay p tag bay))

/-- ABORT_BAY (R67). -/
def execAbortBay (p : Port) (bay : Nat) (s : State) : Host.Outcome State Fault Refusal :=
  .next (s.granted p (.abortBay p bay))

/-- SET_SOFT_STOP (R68). -/
def execSetSoftStop (p : Port) (bay value : Nat) (s : State) : Host.Outcome State Fault Refusal :=
  .next (s.served p (.setSoftStop p bay value) (fun t => t.serveSoftStop bay value))

/-- SET_LEVEL_CAP (R69). -/
def execSetLevelCap (p : Port) (bay cap : Nat) (s : State) : Host.Outcome State Fault Refusal :=
  .next (s.served p (.setLevelCap p bay cap) (fun t => t.serveLevelCap bay cap))

/-- CLEAR_FAULT (R113). -/
def execClearFault (p : Port) (bay : Nat) (s : State) : Host.Outcome State Fault Refusal :=
  .next (s.served p (.clearFault p bay) (fun t => t.serveClearFault bay))

/-- READ_BAY (R70). -/
def execReadBay (p : Port) (bay : Nat) (s : State) : Host.Outcome State Fault Refusal :=
  .next (s.served p (.readBay p bay) (fun t => t.serveReadBay bay))

/-- PURGE (R121). -/
def execPurge (p : Port) (s : State) : Host.Outcome State Fault Refusal :=
  .next (s.served p (.purge p) (fun t => t.servePurge))

/-- STOP_CHAMBER (R126). -/
def execStopChamber (p : Port) (s : State) : Host.Outcome State Fault Refusal :=
  .next (s.served p (.stopChamber p) (fun t => t.serveStopChamber))

/-- READ_CHAMBER (R133). -/
def execReadChamber (p : Port) (s : State) : Host.Outcome State Fault Refusal :=
  .next (s.served p (.readChamber p) (fun t => t.serveReadChamber))

/-- ENQUEUE (R137). -/
def execEnqueue (p : Port) (tag : Nat) (s : State) : Host.Outcome State Fault Refusal :=
  .next (s.granted p (.enqueue p tag))

/-- WITHDRAW (R138). -/
def execWithdraw (p : Port) (tag : Nat) (s : State) : Host.Outcome State Fault Refusal :=
  .next (s.granted p (.withdraw p tag))

/-- RESUME_FEED (R150). -/
def execResumeFeed (p : Port) (s : State) : Host.Outcome State Fault Refusal :=
  .next (s.served p (.resumeFeed p) (fun t => t.serveResumeFeed))

/-- READ_QUEUE (R152). -/
def execReadQueue (p : Port) (s : State) : Host.Outcome State Fault Refusal :=
  .next (s.served p (.readQueue p) (fun t => t.serveReadQueue))

/-- CLEAR_ALARM (R168). -/
def execClearAlarm (p : Port) (zone : Nat) (s : State) : Host.Outcome State Fault Refusal :=
  .next (s.served p (.clearAlarm p zone) (fun t => t.serveClearAlarm zone))

/-- READ_ZONE (R170). -/
def execReadZone (p : Port) (zone : Nat) (s : State) : Host.Outcome State Fault Refusal :=
  .next (s.served p (.readZone p zone) (fun t => t.serveReadZone zone))

/-- SET_CLASS (R174). -/
def execSetClass (p : Port) (cls cRate endV safeV permille warnT shutT restSec : Nat) (s : State) :
    Host.Outcome State Fault Refusal :=
  .next (s.served p (.setClass p cls cRate endV safeV permille warnT shutT restSec) (fun t =>
    t.serveSetClass cls { cRate, endV, safeV, permille, warnT, shutT, restSec }))

/-- SET_BAY_CONFIG (R175). -/
def execSetBayConfig (p : Port) (bay rating cap toff nOpen mode combine retrySec : Nat) (s : State) :
    Host.Outcome State Fault Refusal :=
  .next (s.served p (.setBayConfig p bay rating cap toff nOpen mode combine retrySec) (fun t =>
    match modeOf mode, combineOf combine with
    | some m, some c => t.serveBayConfig bay { rating := some rating, cap, toff, nOpen, mode := m, combine := c, retrySec }
    | _, _ => t.refuse .badField))

/-- SET_ZONE_CONFIG (R176). -/
def execSetZoneConfig (p : Port) (zone : Nat) (heatWarn heatAlarm : Int) (heatHyst gasWarn gasAlarm gasHyst w : Nat) (s : State) :
    Host.Outcome State Fault Refusal :=
  .next (s.served p (.setZoneConfig p zone heatWarn heatAlarm heatHyst gasWarn gasAlarm gasHyst w) (fun t =>
    t.serveZoneConfig zone { heatWarn, heatAlarm, heatHyst, gasWarn, gasAlarm, gasHyst, w }))

/-- SET_DETECTOR_MAP (R177). -/
def execSetDetectorMap (p : Port) (address used zone kind : Nat) (s : State) : Host.Outcome State Fault Refusal :=
  .next (s.served p (.setDetectorMap p address used zone kind) (fun t => t.serveDetectorMap address used zone kind))

/-- SET_CHAMBER_CONFIG (R178). -/
def execSetChamberConfig (p : Port) (admitLevel abort tolerance confirmSec purgeSec : Nat) (s : State) :
    Host.Outcome State Fault Refusal :=
  .next (s.served p (.setChamberConfig p admitLevel abort tolerance confirmSec purgeSec) (fun t =>
    t.serveChamberConfig { admitLevel, abort, tolerance, confirmSec, purgeSec }))

/-- SET_TIMING (R179). -/
def execSetTiming (p : Port) (link lockMs rebound gateSec shredSec : Option Nat) (s : State) :
    Host.Outcome State Fault Refusal :=
  .next (s.served p (.setTiming p link lockMs rebound gateSec shredSec) (fun t =>
    t.serveTiming link lockMs rebound gateSec shredSec))

/-- READ_SETTING (R180). -/
def execReadSetting (p : Port) (group : Nat) (index : MaybeSent) (s : State) : Host.Outcome State Fault Refusal :=
  .next (if group = 6 then s.granted p (.readSetting p group index)
    else s.served p (.readSetting p group index) (fun t => (t.readSetting group index.value, t)))

end Sys2Proof.Machine
end

