-- ==== Sys2Proof/Machine/Dispatch.lean ====
section
/-!
DEFINITION. One arm for each command: its meaning.
-/

namespace Sys2Proof.Machine

/-- The effect of a command on everything but the queue. -/
def exec (i : Instr) (s : State) : Host.Outcome State Fault Refusal :=
  match i with
  | .status p => Sys2Proof.Machine.execStatus p s
  | .getAttention p => Sys2Proof.Machine.execGetAttention p s
  | .setAttentionMask p mask => Sys2Proof.Machine.execSetAttentionMask p mask s
  | .lockTable p => Sys2Proof.Machine.execLockTable p s
  | .unlockTable p => Sys2Proof.Machine.execUnlockTable p s
  | .setAccess p base count linePerm plantPerm lineMask plantMask => Sys2Proof.Machine.execSetAccess p base count linePerm plantPerm lineMask plantMask s
  | .register p tag cls cells capacity declared mass damaged => Sys2Proof.Machine.execRegister p tag cls cells capacity declared mass damaged s
  | .readRecord p slot => Sys2Proof.Machine.execReadRecord p slot s
  | .find p tag => Sys2Proof.Machine.execFind p tag s
  | .scan p stage start => Sys2Proof.Machine.execScan p stage start s
  | .amend p kind selector field value => Sys2Proof.Machine.execAmend p kind selector field value s
  | .retire p tag => Sys2Proof.Machine.execRetire p tag s
  | .quarantine p tag => Sys2Proof.Machine.execQuarantine p tag s
  | .liftQuarantine p tag => Sys2Proof.Machine.execLiftQuarantine p tag s
  | .confirmShred p tag outcome => Sys2Proof.Machine.execConfirmShred p tag outcome s
  | .readTallies p => Sys2Proof.Machine.execReadTallies p s
  | .resetTallies p => Sys2Proof.Machine.execResetTallies p s
  | .assignBay p tag bay => Sys2Proof.Machine.execAssignBay p tag bay s
  | .abortBay p bay => Sys2Proof.Machine.execAbortBay p bay s
  | .setSoftStop p bay value => Sys2Proof.Machine.execSetSoftStop p bay value s
  | .setLevelCap p bay cap => Sys2Proof.Machine.execSetLevelCap p bay cap s
  | .clearFault p bay => Sys2Proof.Machine.execClearFault p bay s
  | .readBay p bay => Sys2Proof.Machine.execReadBay p bay s
  | .purge p => Sys2Proof.Machine.execPurge p s
  | .stopChamber p => Sys2Proof.Machine.execStopChamber p s
  | .readChamber p => Sys2Proof.Machine.execReadChamber p s
  | .enqueue p tag => Sys2Proof.Machine.execEnqueue p tag s
  | .withdraw p tag => Sys2Proof.Machine.execWithdraw p tag s
  | .resumeFeed p => Sys2Proof.Machine.execResumeFeed p s
  | .readQueue p => Sys2Proof.Machine.execReadQueue p s
  | .clearAlarm p zone => Sys2Proof.Machine.execClearAlarm p zone s
  | .readZone p zone => Sys2Proof.Machine.execReadZone p zone s
  | .setClass p cls cRate endV safeV permille warnT shutT restSec => Sys2Proof.Machine.execSetClass p cls cRate endV safeV permille warnT shutT restSec s
  | .setBayConfig p bay rating cap toff nOpen mode combine retrySec => Sys2Proof.Machine.execSetBayConfig p bay rating cap toff nOpen mode combine retrySec s
  | .setZoneConfig p zone heatWarn heatAlarm heatHyst gasWarn gasAlarm gasHyst w => Sys2Proof.Machine.execSetZoneConfig p zone heatWarn heatAlarm heatHyst gasWarn gasAlarm gasHyst w s
  | .setDetectorMap p address used zone kind => Sys2Proof.Machine.execSetDetectorMap p address used zone kind s
  | .setChamberConfig p admitLevel abort tolerance confirmSec purgeSec => Sys2Proof.Machine.execSetChamberConfig p admitLevel abort tolerance confirmSec purgeSec s
  | .setTiming p link lockMs rebound gateSec shredSec => Sys2Proof.Machine.execSetTiming p link lockMs rebound gateSec shredSec s
  | .readSetting p group index => Sys2Proof.Machine.execReadSetting p group index s
  | .frameError p bytes => Sys2Proof.Machine.execFrameError p bytes s
  | .unknownRequest p bytes => Sys2Proof.Machine.execUnknownRequest p bytes s
  | .overrun p => Sys2Proof.Machine.execOverrun p s
  | .chipSelectRise cut answerBegun => Sys2Proof.Machine.execChipSelectRise cut answerBegun s
  | .plantByteGapTimeout bytes => Sys2Proof.Machine.execPlantByteGapTimeout bytes s
  | .answerSent p => Sys2Proof.Machine.execAnswerSent p s
  | .lockHoldExpiry => Sys2Proof.Machine.execLockHoldExpiry s
  | .energyCarry b => Sys2Proof.Machine.execEnergyCarry b s
  | .hazardFlagWrite b => Sys2Proof.Machine.execHazardFlagWrite b s
  | .stageChangeWrite b => Sys2Proof.Machine.execStageChangeWrite b s
  | .unbindingGrant b => Sys2Proof.Machine.execUnbindingGrant b s
  | .admissionWrite => Sys2Proof.Machine.execAdmissionWrite s
  | .passWrite => Sys2Proof.Machine.execPassWrite s
  | .unexpectedPassWrite => Sys2Proof.Machine.execUnexpectedPassWrite s
  | .returnWrite => Sys2Proof.Machine.execReturnWrite s
  | .retirementWrite => Sys2Proof.Machine.execRetirementWrite s
  | .shredUnconfirmedWrite => Sys2Proof.Machine.execShredUnconfirmedWrite s
  | .quarantineSweep => Sys2Proof.Machine.execQuarantineSweep s
  | .sampleFrame b bytes => Sys2Proof.Machine.execSampleFrame b bytes s
  | .linkTimeout b => Sys2Proof.Machine.execLinkTimeout b s
  | .holdOffExpiry b => Sys2Proof.Machine.execHoldOffExpiry b s
  | .restEnd b => Sys2Proof.Machine.execRestEnd b s
  | .retryWaitElapsed b => Sys2Proof.Machine.execRetryWaitElapsed b s
  | .stopLineChange b high => Sys2Proof.Machine.execStopLineChange b high s
  | .sensorFrame bytes => Sys2Proof.Machine.execSensorFrame bytes s
  | .analyserFreshnessLapse which => Sys2Proof.Machine.execAnalyserFreshnessLapse which s
  | .detectorFreshnessLapse d => Sys2Proof.Machine.execDetectorFreshnessLapse d s
  | .flameScan levels => Sys2Proof.Machine.execFlameScan levels s
  | .confirmTimeElapsed => Sys2Proof.Machine.execConfirmTimeElapsed s
  | .purgeTimeout => Sys2Proof.Machine.execPurgeTimeout s
  | .doorClosedChange closed => Sys2Proof.Machine.execDoorClosedChange closed s
  | .gatePass => Sys2Proof.Machine.execGatePass s
  | .throatEmpty => Sys2Proof.Machine.execThroatEmpty s
  | .throatEmptyDeassert => Sys2Proof.Machine.execThroatEmptyDeassert s
  | .gateTimeout => Sys2Proof.Machine.execGateTimeout s
  | .shredTimeout => Sys2Proof.Machine.execShredTimeout s
  | .returnWindowEnd => Sys2Proof.Machine.execReturnWindowEnd s
  | .plantPermitChange asserted => Sys2Proof.Machine.execPlantPermitChange asserted s
  | .vddLoss => Sys2Proof.Machine.execVddLoss s
  | .retentionLoss => Sys2Proof.Machine.execRetentionLoss s
  | .powerUp => Sys2Proof.Machine.execPowerUp s
  | .resetAssert => Sys2Proof.Machine.execResetAssert s
  | .resetRelease => Sys2Proof.Machine.execResetRelease s
  | .startEnd => Sys2Proof.Machine.execStartEnd s

end Sys2Proof.Machine
end

