-- ==== Sys2Proof/Machine/Frames.lean ====
section
/-!
DEFINITION. The bytes of the frames that the part sends: answer frames (R181, R186, Table 10-1, Table 10-3, Table 10-5)
and bay answer frames (Table 10-2). What the conventions of R181 leave open is fixed as log entry 16 says.
-/

namespace Sys2Proof.Machine

/-! ### The conventions of R181 -/

/-- An indication that is set or clear. -/
def flagByte (b : Bool) : List Byte := numBytes 1 b.toNat

/-- The soft stop as an answer carries it: asserted 0, released 1, in the order of Table 3-1 and R68 (R181). -/
def softStopByte (asserted : Bool) : List Byte := numBytes 1 (if asserted then 0 else 1)

/-- A set as one bit for each value, the first value in bit 0. -/
def setCode (members : List Bool) : Nat := members.foldr (fun b n => b.toNat + 2 * n) 0

/-- An item that may be absent: a presence byte, then its field, sent as 0 when absent. -/
def optBytes {α : Type} (width : Nat) (f : α → List Byte) : Option α → List Byte
  | some a => numBytes 1 1 ++ f a
  | none => numBytes 1 0 ++ numBytes width 0

/-- A number that may be absent. -/
def optNum (width : Nat) (n : Option Nat) : List Byte := optBytes width (numBytes width) n

/-- A list of varying length: a count byte, then the entries. -/
def listBytes {α : Type} (f : α → List Byte) (l : List α) : List Byte := numBytes 1 l.length ++ l.flatMap f

/-- A signed number in two's complement. -/
def intBytes (width : Nat) (v : Int) : List Byte := numBytes width (intCode width v)

/-! ### Enumerated values, numbered as their table or rule lists them -/

/-- The status code (Table 10-5). -/
def Status.code : Status → Nat
  | .ok => 0x00
  | .frameError => 0x01
  | .unknownRequest => 0x02
  | .badField => 0x03
  | .notFound => 0x04
  | .duplicateTag => 0x05
  | .tableFull => 0x06
  | .classUnset => 0x07
  | .wrongStage => 0x08
  | .notPermitted => 0x09
  | .isProtected => 0x0A
  | .locked => 0x0B
  | .quarantined => 0x0C
  | .notEligible => 0x0D
  | .queueFull => 0x0E
  | .bayBusy => 0x0F
  | .bayUnavailable => 0x10
  | .notBound => 0x11
  | .notFaulted => 0x12
  | .zoneAlarm => 0x13
  | .zoneFull => 0x14
  | .inUse => 0x15
  | .notClear => 0x16
  | .chamberState => 0x17

/-- A stage (Table 1-3). -/
def Stage.code : Stage → Nat
  | .waiting => 0
  | .probing => 1
  | .discharging => 2
  | .resting => 3
  | .discharged => 4
  | .queued => 5
  | .atGate => 6
  | .inShredder => 7
  | .shredUnconfirmed => 8

/-- A bay state (Table 3-2). -/
def BayState.code : BayState → Nat
  | .unconfigured => 0
  | .stopped => 1
  | .idle => 2
  | .probing => 3
  | .active => 4
  | .resting => 5
  | .held => 6
  | .faulted => 7
  | .retrying => 8

/-- A held-from state (Table 3-1). -/
def RunState.code : RunState → Nat
  | .probing => 0
  | .active => 1
  | .resting => 2
  | .retrying => 3

/-- A probe outcome (Table 3-5). -/
def ProbeOutcome.code : ProbeOutcome → Nat
  | .normal => 0
  | .opened => 1
  | .leakNeg => 2
  | .leakPos => 3
  | .inconsistent => 4

/-- A fault cause (the list of chapter 5). -/
def FaultCause.code : FaultCause → Nat
  | .overcurrent => 0
  | .overtemp => 1
  | .openConnection => 2
  | .sensor => 3
  | .moduleFault => 4
  | .linkLost => 5
  | .probeOpen => 6
  | .probeInconsistent => 7

/-- A chamber state (Table 6-2). -/
def ChamberState.code : ChamberState → Nat
  | .doorOpen => 0
  | .sealed => 1
  | .purging => 2
  | .inert => 3
  | .shredding => 4
  | .hold => 5
  | .fire => 6

/-- A zone state (R154). -/
def ZoneState.code : ZoneState → Nat
  | .normal => 0
  | .preAlarm => 1
  | .alarm => 2

/-- A channel state (R154). -/
def ChanState.code : ChanState → Nat
  | .normal => 0
  | .warn => 1
  | .alarmLevel => 2
  | .fault => 3

/-- A channel kind (R154). -/
def ChanKind.code : ChanKind → Nat
  | .heat => 0
  | .gas => 1
  | .flame => 2
  | .packTemp => 3

/-- A port: LINE 0, PLANT 1 (Table 10-3). -/
def portCode : Port → Nat
  | .line => 0
  | .plant => 1

/-- The kind of a start: COLD 0, WARM 1 (R191). -/
def StartKind.code : StartKind → Nat
  | .cold => 0
  | .warm => 1

/-- An analyser, A 0 and B 1. -/
def analyserCode : Analyser → Nat
  | .a => 0
  | .b => 1

/-- The analyser condition (Table 6-2), and the analyser that SINGLE names. -/
def Condition.bytes : Condition → List Byte
  | .agreed => numBytes 1 0 ++ optNum 1 none
  | .disagree => numBytes 1 1 ++ optNum 1 none
  | .single w => numBytes 1 2 ++ optNum 1 (some (analyserCode w))
  | .noReading => numBytes 1 3 ++ optNum 1 none

/-! ### The record layout (Table 10-3) -/

/-- The flags of a record, bits 0 to 8 in the order of Table 1-2. -/
def RecFlags.code (f : RecFlags) : Nat :=
  setCode [f.damaged, f.isolationFault, f.overtemp, f.openConnection, f.interrupted, f.reboundLimit, f.quarantine,
    f.gateReturned, f.recovered]

/-- A record in an answer: 36 bytes (Table 10-3). -/
def RecView.bytes (v : RecView) : List Byte :=
  numBytes 1 v.slot.1 ++ numBytes 6 v.record.tag ++ numBytes 1 (portCode v.record.origin)
    ++ numBytes 1 v.record.cls.1 ++ numBytes 1 v.record.cells ++ numBytes 2 v.record.capacity
    ++ numBytes 3 v.record.declared ++ numBytes 2 v.record.mass ++ numBytes 3 v.record.energy
    ++ numBytes 1 v.record.stage.code ++ numBytes 2 v.record.flags.code
    ++ numBytes 1 (setCode [v.record.bay.isSome, v.record.rest.isSome, v.perCell.isSome, v.position.isSome])
    ++ numBytes 1 ((v.record.bay.map Fin.val).getD 0) ++ numBytes 2 (v.record.rest.getD 0)
    ++ numBytes 1 v.record.rebounds ++ numBytes 3 v.residual ++ numBytes 3 (v.perCell.getD 0)
    ++ numBytes 1 v.zone.1 ++ numBytes 1 (v.position.getD 0)

/-! ### Results -/

/-- The pending set of a port (R190): twelve two-byte BAY fields, then by the order of R188 the zones with their sources
and the four conditions without detail. DESIGN CHOICE (log entry 16): a zone's sources are 32 bits behind a presence byte, and each
of the four conditions is an indication of its own. -/
def Attn.bytes (a : Attn) : List Byte :=
  a.bays.1.flatMap (fun d => numBytes 2 d.toNat) ++ a.zones.1.flatMap (optBytes 4 (fun d => numBytes 4 d.toNat))
    ++ flagByte a.chamber ++ flagByte a.feed ++ flagByte a.lockExpired ++ flagByte a.restart

/-- The six tallies in the order of Table 1-5. -/
def Tallies.bytes (t : Tallies) : List Byte :=
  numBytes 4 t.registered ++ numBytes 4 t.shredded ++ numBytes 4 t.intact ++ numBytes 4 t.energyTotal
    ++ numBytes 4 t.residualAdmitted ++ numBytes 4 t.massAdmitted

/-- A slot with its tag. -/
def Entry.bytes (e : Entry) : List Byte := numBytes 1 e.slot.1 ++ numBytes 6 e.tag

/-- A hold-cause set (R54). -/
def Holds.code (h : Holds) : Nat := setCode [h.stop, h.zoneAlarm, h.quarantine]

/-- The latest fresh sample (R70). -/
def Sample.bytes (p : Sample) : List Byte :=
  numBytes 2 p.v ++ numBytes 2 p.i ++ intBytes 2 p.t ++ flagByte p.comparator ++ flagByte p.loadFault

/-- What READ_BAY reports (R70). DESIGN CHOICE (log entry 16): the state a fault was entered from is numbered as the bay states
of Table 3-2. -/
def BayView.bytes (v : BayView) : List Byte :=
  numBytes 1 v.mode.code ++ optNum 1 (v.heldFrom.map RunState.code) ++ optBytes 7 Entry.bytes v.binding
    ++ flagByte v.releasePending ++ numBytes 1 v.level ++ numBytes 1 v.cap ++ numBytes 1 v.holds.code
    ++ flagByte v.stopLine ++ softStopByte v.softStop ++ flagByte v.effectiveStop
    ++ flagByte (decide (v.link = .lost)) ++ numBytes 1 v.periods
    ++ numBytes 1 v.step ++ numBytes 1 v.attempt ++ numBytes 1 v.round ++ optNum 1 (v.last.map ProbeOutcome.code)
    ++ optNum 1 (v.cause.map FaultCause.code) ++ optNum 1 (v.entered.map BayState.code)
    ++ optBytes 8 Sample.bytes v.sample ++ optNum 2 v.limit
    ++ numBytes 2 v.repeats ++ numBytes 2 v.discards ++ numBytes 2 v.extensions ++ numBytes 2 v.faultCount

/-- An analyser as READ_CHAMBER reports it (R133): value, fresh 0 or stale 1, time. -/
def AnalyserState.bytes (x : AnalyserState) : List Byte :=
  optNum 2 x.value ++ flagByte (!x.fresh) ++ numBytes 1 x.age

/-- What READ_CHAMBER reports (R133): the door CLOSED 0 or OPEN 1, the throat EMPTY 0 or LOADED 1. DESIGN CHOICE (log entry 16):
the levels, the valves, the flood output and the two permits are indications, 1 when asserted or on. -/
def ChamberView.bytes (v : ChamberView) : List Byte :=
  numBytes 1 v.state.code ++ optNum 1 (if v.purgeFault then some 0 else none)
    ++ flagByte (!v.doorClosed) ++ flagByte v.loaded ++ flagByte v.throatEmptyLine
    ++ v.a.bytes ++ v.b.bytes ++ v.condition.bytes ++ optNum 2 v.eff
    ++ numBytes 1 v.excess ++ optNum 2 v.confirm ++ optNum 3 v.purgeTimer
    ++ flagByte v.nitrogen ++ flagByte v.flood ++ flagByte v.permit ++ flagByte v.plantPermit ++ flagByte v.shredPermit

/-- The feed fault set (R150). -/
def FeedFaults.code (f : FeedFaults) : Nat := setCode [f.gateTimeout, f.unexpectedPass, f.shredTimeout]

/-- An entry of the shredder path list (R152). DESIGN CHOICE (log entry 16): its stage is numbered as in Table 1-3. -/
def PathEntry.bytes (x : PathEntry) : List Byte :=
  numBytes 1 x.slot.1 ++ numBytes 6 x.tag
    ++ numBytes 1 (if x.unconfirmed then Stage.shredUnconfirmed.code else Stage.inShredder.code) ++ numBytes 3 x.residual

/-- A queue entry with its record's stage (R152). DESIGN CHOICE (log entry 16): the stage is numbered as in Table 1-3. -/
def QueueItem.bytes (x : QueueItem) : List Byte :=
  numBytes 1 x.slot.1 ++ numBytes 6 x.tag ++ numBytes 1 ((x.stage.map Stage.code).getD 0)

/-- The last-returned memory (R152). -/
def Memory.bytes (m : Memory) : List Byte := numBytes 1 m.slot.1 ++ numBytes 6 m.tag ++ numBytes 2 m.remaining

/-- What READ_QUEUE reports (R152). DESIGN CHOICE (log entry 16): GATE_OPEN is an indication, 1 when asserted. -/
def QueueView.bytes (v : QueueView) : List Byte :=
  listBytes QueueItem.bytes v.queue ++ optBytes 7 Entry.bytes v.gate ++ flagByte v.gateOpen ++ optNum 2 v.gateTimer
    ++ optBytes 7 Entry.bytes v.shred ++ flagByte v.passPending ++ optNum 2 v.shredTimer
    ++ listBytes PathEntry.bytes v.path ++ numBytes 1 v.faults.code ++ optBytes 9 Memory.bytes v.memory
    ++ numBytes 1 (setCode [v.block.z4, v.block.z5, v.block.z6]) ++ numBytes 1 (setCode v.failing)

/-- A channel of a zone (R170): 15 bytes. The time of a detector and each of the last two scans of a flame line are items that
may be absent (R181): the channels of the other kinds have none, and neither has a scan not yet taken. DESIGN CHOICE (log entry
16): the two scans are two such items, and the source of a flame line is its zone. -/
def ChanView.bytes (c : ChanView) : List Byte :=
  numBytes 1 c.kind.code ++ numBytes 1 c.source ++ numBytes 1 c.state.code ++ optBytes 2 (intBytes 2) c.reading
    ++ numBytes 1 c.alarmRun ++ numBytes 1 c.warnRun ++ numBytes 1 c.quietRun
    ++ optNum 1 c.age ++ optBytes 1 flagByte (c.scans.bind Prod.fst) ++ optBytes 1 flagByte (c.scans.bind Prod.snd)

/-- The settings of a class in the order of Table 9-1. -/
def ClassCfg.bytes (c : ClassCfg) : List Byte :=
  numBytes 1 c.cRate ++ numBytes 2 c.endV ++ numBytes 2 c.safeV ++ numBytes 1 c.permille ++ numBytes 1 c.warnT
    ++ numBytes 1 c.shutT ++ numBytes 2 c.restSec

/-- The settings of a bay in the order of Table 9-2. The rating of an UNCONFIGURED bay is none (R180). DESIGN CHOICE (log entry
16): the rating has its presence byte wherever the settings are sent, also in the answer of SET_BAY_CONFIG, where it is never
none. -/
def BayCfg.bytes (c : BayCfg) : List Byte :=
  optNum 2 c.rating ++ numBytes 1 c.cap ++ numBytes 1 c.toff ++ numBytes 2 c.nOpen
    ++ flagByte (decide (c.mode = .retry)) ++ flagByte (decide (c.combine = .and)) ++ numBytes 1 c.retrySec

/-- The settings of a zone in the order of Table 9-3. -/
def ZoneCfg.bytes (c : ZoneCfg) : List Byte :=
  intBytes 2 c.heatWarn ++ intBytes 2 c.heatAlarm ++ numBytes 1 c.heatHyst ++ numBytes 2 c.gasWarn
    ++ numBytes 2 c.gasAlarm ++ numBytes 2 c.gasHyst ++ numBytes 1 c.w

/-- The chamber settings in the order of Table 6-1. -/
def ChamberCfg.bytes (c : ChamberCfg) : List Byte :=
  numBytes 2 c.admitLevel ++ numBytes 2 c.abort ++ numBytes 2 c.tolerance ++ numBytes 1 c.confirmSec ++ numBytes 2 c.purgeSec

/-- The timing settings in the order of Table 9-4. -/
def Timing.bytes (t : Timing) : List Byte :=
  numBytes 1 t.link ++ numBytes 2 t.lockMs ++ numBytes 1 t.rebound ++ numBytes 1 t.gateSec ++ numBytes 2 t.shredSec

/-- The detector map (R177, R180). -/
def mapBytes (entries : List (Option MapEntry)) : List Byte :=
  entries.flatMap (optBytes 2 (fun m => numBytes 1 m.zone.1 ++ flagByte (decide (m.kind = .gas))))

/-- The access settings in the order of Table 2-2. -/
def AccessSettings.bytes (a : AccessSettings) : List Byte :=
  numBytes 1 a.base ++ numBytes 1 a.count ++ numBytes 1 a.linePerm.toNat ++ numBytes 1 a.plantPerm.toNat
    ++ numBytes 1 a.lineMask.toNat ++ numBytes 1 a.plantMask.toNat

/-- The results of an answer with status OK, in the order its request's rule names them (R181, R186). -/
def Results.bytes : Results → List Byte
  | .empty => []
  | .status kind lock overruns live line mask =>
    numBytes 1 kind.code ++ optBytes 2 (fun l => numBytes 1 (portCode l.1) ++ numBytes 1 l.2) lock
      ++ numBytes 2 overruns ++ numBytes 2 live ++ flagByte line ++ numBytes 1 mask.toNat
  | .attention pending => pending.bytes
  | .attnMask mask line => numBytes 1 mask.toNat ++ flagByte line
  | .lockTime ms => numBytes 2 ms
  | .access settings => settings.bytes
  | .slot n => numBytes 1 n.1
  | .record view => view.bytes
  | .slots list more => listBytes (fun i => numBytes 1 i.1) list ++ flagByte more
  | .tallies t live => t.bytes ++ numBytes 2 live
  | .talliesReset t => t.bytes
  | .stops soft line effective => softStopByte soft ++ flagByte line ++ flagByte effective
  | .levels cap level => numBytes 1 cap ++ numBytes 1 level
  | .bayState mode => numBytes 1 mode.code
  | .bay view => view.bytes
  | .chamberState state => numBytes 1 state.code
  | .chamber view => view.bytes
  | .feedFaults faults => numBytes 1 faults.code
  | .queue view => view.bytes
  | .zoneState state degraded => numBytes 1 state.code ++ flagByte degraded
  | .zone v =>
    numBytes 1 v.state.code ++ flagByte v.degraded ++ flagByte v.sweepWaiting ++ listBytes ChanView.bytes v.channels
  | .classCfg cfg => cfg.bytes
  | .classReport cfg useCount => optBytes 10 ClassCfg.bytes cfg ++ numBytes 2 useCount
  | .bayCfg cfg mode => cfg.bytes ++ numBytes 1 mode.code
  | .bayReport cfg oc => flagByte cfg.rating.isSome ++ cfg.bytes ++ optNum 2 oc
  | .zoneCfg cfg => cfg.bytes
  | .chamberCfg cfg => cfg.bytes
  | .detectorMap entries => mapBytes entries
  | .detectorReport entries counts => mapBytes entries ++ counts.flatMap (numBytes 1)
  | .timing cfg => cfg.bytes

/-! ### Frames -/

/-- What the length byte of an answer counts: echo, status, answer flags, results (R186). -/
def Answer.body (a : Answer) : List Byte :=
  numBytes 1 a.echo ++ numBytes 1 a.status.code ++ numBytes 1 (setCode [a.lockExpired, a.restart]) ++ a.results.bytes

/-- The answer frame (Table 10-1): sync byte, length, body and the CRC over length and body (R193). -/
def Answer.bytes (a : Answer) : List Byte :=
  0xA5 :: numBytes 1 a.body.length ++ a.body ++ crcBytes (numBytes 1 a.body.length ++ a.body)

/-- The bytes of the answer that is ready on a port; none while no answer is ready or after its last byte (R183, R184). The
Plant Port transmits them one after another. -/
def PortState.answerBytes (x : PortState) : List Byte :=
  match x.inFlight with
  | some (.answered a _) => if x.answerDone then [] else a.bytes
  | some (.waiting _) | none => []

/-- What the Line Port returns for the next `n` bytes that the host clocks in a transaction in which `k` bytes of the
ready answer have been clocked out: the rest of the answer byte by byte, and 0x00 otherwise (R183). -/
def State.lineReturns (s : State) (k n : Nat) : List Byte := ((s.line.answerBytes.drop k) ++ List.replicate n 0).take n

/-- The kind byte of a bay answer frame (Table 10-2). -/
def AnswerKind.code : AnswerKind → Nat
  | .ack => 1
  | .nak => 2
  | .stall => 3

/-- The bay answer frame of a link (Table 10-2, R192): level in bits 0 to 3, probe step in bits 4 and 5. -/
def BayAnswer.bytes (x : BayAnswer) (b : BayId) : List Byte :=
  let data := numBytes 1 b.1 ++ numBytes 1 x.kind.code ++ numBytes 1 (x.level + 16 * x.step)
  0xC3 :: data ++ crcBytes data

end Sys2Proof.Machine
end

