-- ==== Sys2Proof/Safety.lean ====
section
/-!
DEFINITION. The terms in which the claims are stated: when a port takes a request and the table is free for it, and the
laws that every step keeps.
-/

namespace Sys2Proof.Machine

/-! ### When a request is carried out at once -/

/-- The port takes a request frame, and it is no overrun (R183, R185, R196). -/
abbrev State.Takes (s : State) (p : Port) : Prop := s.takesFrame p = true ∧ s.inFlight p = false

/-- No engine write waits (R34). -/
abbrev State.NoWrites (s : State) : Prop :=
  s.arb.sweeps = [] ∧ s.arb.feedWrites = [] ∧ ∀ b : BayId, (s.bay b).writes = []

/-- The arbiter is PARKED and nothing waits for a grant (R32). -/
abbrev State.Quiet (s : State) : Prop :=
  s.arb.access = .parked ∧ s.NoWrites ∧ s.line.waitingRequest = none ∧ s.plant.waitingRequest = none

/-- A request of the port is taken and, when it needs a grant, granted at once. -/
abbrev State.Free (s : State) (p : Port) : Prop := s.Takes p ∧ s.Quiet

/-- A record-changing request of the port on the record in a slot passes checks 3, 4 and 5 of R13. -/
abbrev State.MayAct (s : State) (p : Port) (i : Slot) (r : Rec) : Prop :=
  s.lockedOut p = false ∧ s.record i = some r ∧ s.sees p i = true ∧ s.mayChange p i = true

/-- What a change of bay `b`'s effective stop from `was` to `now` makes of a state whose input is recorded already (R52,
R53, R55, R57): `t` is the state after it. -/
def StopActs (b : BayId) (s : State) (was now : Bool) (t : State) : Prop :=
  let x := s.bay b
  (was = now → t = s)
  ∧ (was = false → now = true →
      (x.mode = .idle → t = s.setBay b { x with mode := .stopped })
      ∧ (x.binding = none → x.mode ≠ .idle → t = s)
      ∧ (x.binding ≠ none → ∀ r, x.mode.run = some r →
          t = (s.setBay b { x with
            holds := { x.holds with stop := true }, mode := .held, heldFrom := some r, level := 0, holdOff := none
            blanking := 0, fault := none }).raiseBay b .hold)
      ∧ (x.binding ≠ none → x.mode = .held ∨ x.mode = .faulted →
          t = s.setBay b { x with holds := { x.holds with stop := true } }))
  ∧ (was = true → now = false →
      (x.mode = .stopped → t = s.setBay b { x with mode := .idle })
      ∧ (x.binding = none → x.mode ≠ .stopped → t = s)
      ∧ (x.binding ≠ none → x.mode = .faulted ∨ (x.mode = .held ∧ (x.holds.zoneAlarm || x.holds.quarantine) = true) →
          t = s.setBay b { x with holds := { x.holds with stop := false } })
      ∧ (x.binding ≠ none → x.mode = .held → x.holds.zoneAlarm = false → x.holds.quarantine = false →
          t = (s.setBay b { x with holds := {} }).resume b))

/-- The requests that take a grant (R30). -/
def takesGrant : Instr → Bool
  | .readRecord .. | .find .. | .scan .. | .readTallies _ | .register .. | .amend .. | .retire .. | .quarantine ..
  | .assignBay .. | .abortBay .. | .enqueue .. | .withdraw .. | .liftQuarantine .. | .confirmShred ..
  | .resetTallies _ | .lockTable _ | .unlockTable _ | .setAccess .. => true
  | .readSetting _ group _ => decide (group = 6)
  | _ => false

/-- The record-changing requests (R37). -/
def changesRecords : Instr → Bool
  | .register .. | .amend .. | .retire .. | .quarantine .. | .assignBay .. | .abortBay .. | .enqueue ..
  | .withdraw .. => true
  | _ => false

/-- The tag by which a record-changing request names its record (R3). -/
def namedTag : Instr → Option Nat
  | .amend _ 0 tag _ _ | .retire _ tag | .quarantine _ tag | .assignBay _ tag _ | .enqueue _ tag | .withdraw _ tag => some tag
  | _ => none

/-- The zone's state and DEGRADED are those its vote gives on its channels as they stand (R162). -/
abbrev State.Voted (s : State) (z : ZoneId) : Prop :=
  (s.zone z).state = voteOf (s.zone z).state (s.channelStates z) ∧ (s.zone z).degraded = degradedOf (s.channelStates z)

/-! ### Laws that every step keeps -/

/-- No two live records hold the same tag (R3). -/
def State.TagsUnique (s : State) : Prop :=
  ∀ i j r q, s.record i = some r → s.record j = some q → r.tag = q.tag → i = j

/-- The first law of R25: registered equals live plus retired shredded plus retired intact, for as long as the registered
tally has not saturated. The tally lies in its range (section 1.7). -/
def State.TallyLaw (s : State) : Prop :=
  s.tallies.registered ≤ tallyMax
    ∧ (s.tallies.registered = tallyMax ∨ s.tallies.registered = s.liveCount + s.tallies.shredded + s.tallies.intact)

/-- The mass of the records of the shredder path of `s` whose slots are FREE in `t`: what is retired shredded between the two
when no record is registered between them (R21, R25, R147). -/
def State.shreddedMass (s t : State) : Nat :=
  ((List.finRange 256).map (fun i => match s.record i, t.record i with
    | some r, none => if r.stage = .inShredder ∨ r.stage = .shredUnconfirmed then r.mass else 0
    | _, _ => 0)).sum

/-- The front command of the queue is RESET_TALLIES or chooses a cold start: what begins a counting period anew (R25, R27,
R28, R195). -/
def State.countsAnew (s : State) : Prop :=
  ∃ i rest, s.pending = i :: rest ∧ ((∃ p, i = .resetTallies p) ∨ ((i = .powerUp ∨ i = .resetRelease) ∧ s.retention = false))

/-- The number of live records of a class. -/
def State.classUsers (s : State) (c : ClassId) : Nat :=
  s.slots.count (fun o => match o with | some r => decide (r.cls = c) | none => false)

/-- The use count of each class is the number of live records whose class field holds it (R174). -/
def State.UseLaw (s : State) : Prop := ∀ c, s.settings.useCount.get c = s.classUsers c

/-- A load level that R50 allows: 0 in every bay state except ACTIVE and RETRYING, at most 1 in RETRYING, at most the
level cap in ACTIVE, and 0 while a release is pending; the cap is 1 to 15. -/
def Bay.LevelLegal (x : Bay) (cap : Nat) : Prop :=
  (x.mode ≠ .active → x.mode ≠ .retrying → x.level = 0) ∧ (x.mode = .retrying → x.level ≤ 1)
    ∧ (x.mode = .active → x.level ≤ cap) ∧ (x.releasePending = true → x.level = 0) ∧ 1 ≤ cap ∧ cap ≤ 15

/-- Every bay's load level is legal (R50). -/
def State.LevelsLegal (s : State) : Prop := ∀ b, (s.bay b).LevelLegal (s.bayCfg b).cap

/-- A bay's fractional accumulator stays below 36,000,000 units and is 0 whenever the bay is unbound (R80). -/
def State.EnergyLaw (s : State) : Prop :=
  ∀ b, (s.bay b).frac < 36000000 ∧ ((s.bay b).binding = none → (s.bay b).frac = 0)

/-- While the part runs, the nitrogen valve, the flood output, the internal shred permit and the SHRED_PERMIT pin are as
R130 and R131 give them, and GATE_OPEN is asserted exactly while there is a gate record, which there is only with the
chamber INERT (R135, R140); otherwise all of them are inactive (R196). -/
def State.OutputsLaw (s : State) : Prop :=
  (s.running = true →
    s.chamber.nitrogen = s.chamber.state.nitrogen ∧ s.chamber.flood = decide (s.chamber.state = .fire)
    ∧ s.chamber.permit = permitOf s.chamber.state s.chamber.eff s.settings.chamber.abort
    ∧ s.chamber.shredPermit = (s.chamber.permit && s.lines.plantPermit)
    ∧ s.feed.gateOpen = s.feed.gate.isSome ∧ (s.feed.gateOpen = true → s.chamber.state = .inert))
  ∧ (s.running = false →
    s.chamber.nitrogen = false ∧ s.chamber.flood = false ∧ s.chamber.shredPermit = false ∧ s.feed.gateOpen = false)

/-- The attention line of a port: asserted while a pending condition is of an enabled kind (R189), and deasserted while
the part does not run (R196). -/
def PortState.LineFollows (x : PortState) (running : Bool) : Prop :=
  (running = true → x.attnLine = x.attn.asserts x.mask) ∧ (running = false → x.attnLine = false)

/-- Both attention lines follow their pending sets and masks (R189, R196). -/
def State.AttentionLaw (s : State) : Prop := s.line.LineFollows s.running ∧ s.plant.LineFollows s.running

/-- Every zone's state and DEGRADED follow the vote on its channels (R162). -/
def State.ZonesVoted (s : State) : Prop := ∀ z, s.Voted z

/-- A waiting stage change of a bay channel keeps the record bound; one that ends the binding takes it to WAITING or
DISCHARGED (1.3.1, R64). -/
def BayWrite.Shaped : BayWrite → Prop
  | .carry _ | .flag _ _ => True
  | .stage w => w.expected.bound = true ∧ w.new.bound = true
  | .unbind w => w.new = .waiting ∨ w.new = .discharged

/-- A bay is bound to a record exactly when that record's stage is PROBING, DISCHARGING or RESTING and its bay field names
that bay (R5, R64). -/
structure State.BindingLaw (s : State) : Prop where
  /-- A binding names a live record in a bound stage whose bay field is that bay. -/
  bound : ∀ b e, (s.bay b).binding = some e →
    ∃ r, s.record e.slot = some r ∧ r.tag = e.tag ∧ r.stage.bound = true ∧ r.bay = some b
  /-- The bay that a record's bay field names is bound to that record. -/
  named : ∀ i r b, s.record i = some r → r.bay = some b → (s.bay b).binding = some { slot := i, tag := r.tag }
  /-- The bay field is present in the bound stages and absent in every other (R5). -/
  stages : ∀ i r, s.record i = some r → r.bay.isSome = r.stage.bound
  /-- A bay UNCONFIGURED, STOPPED or IDLE is unbound (Table 3-2). -/
  unbound : s.running = true → ∀ b, (s.bay b).mode = .unconfigured ∨ (s.bay b).mode = .stopped ∨ (s.bay b).mode = .idle →
    (s.bay b).binding = none
  /-- A bay FAULTED has a fault state (R100). -/
  faulted : s.running = true → ∀ b, (s.bay b).mode = .faulted → (s.bay b).fault ≠ none
  /-- No bay is bound while a start is in progress (R29, R76). -/
  starting : ∀ k, s.phase = .starting k → ∀ b, (s.bay b).binding = none
  /-- The waiting writes keep the law. -/
  writes : ∀ b w, w ∈ (s.bay b).writes → w.Shaped

/-- No record carrying QUARANTINE is QUEUED, AT_GATE or IN_SHREDDER (R7). -/
def State.QuarantineLaw (s : State) : Prop :=
  ∀ i r, s.record i = some r → r.flags.quarantine = true →
    r.stage ≠ .queued ∧ r.stage ≠ .atGate ∧ r.stage ≠ .inShredder

/-- The feed queue holds at most 8 slots without duplicates; a slot is in it exactly while its record is QUEUED or AT_GATE,
and a record AT_GATE is the head (R136). -/
structure State.QueueLaw (s : State) : Prop where
  room : s.feed.queue.length ≤ 8
  once : (s.feed.queue.map Entry.slot).Nodup
  entry : ∀ e ∈ s.feed.queue, ∃ r, s.record e.slot = some r ∧ r.tag = e.tag ∧ (r.stage = .queued ∨ r.stage = .atGate)
  queued : ∀ i r, s.record i = some r → r.stage = .queued ∨ r.stage = .atGate → { slot := i, tag := r.tag } ∈ s.feed.queue
  gateHead : ∀ i r, s.record i = some r → r.stage = .atGate → s.feed.queue.head? = some { slot := i, tag := r.tag }

/-- The shredder path list holds one entry, with the same stage, for each record IN_SHREDDER or SHRED_UNCONFIRMED, and no
more than the 8 for which there is room (R135, R149, Table 7-1). -/
structure State.PathLaw (s : State) : Prop where
  room : s.feed.path.length ≤ 8
  once : (s.feed.path.map PathEntry.slot).Nodup
  entry : ∀ x ∈ s.feed.path, ∃ r, s.record x.slot = some r ∧ r.tag = x.tag
    ∧ r.stage = if x.unconfirmed then .shredUnconfirmed else .inShredder
  listed : ∀ i r, s.record i = some r → r.stage = .inShredder ∨ r.stage = .shredUnconfirmed →
    ∃ x ∈ s.feed.path, x.slot = i

/-- A write of the Feed Controller that takes a record to the gate. -/
def FeedWrite.admits : FeedWrite → Bool
  | .admission _ => true
  | .pass _ | .unexpected _ | .giveBack _ | .retirement _ | .unconfirmed _ => false

/-- A write of the Feed Controller that takes a record from the gate. -/
def FeedWrite.leavesGate : FeedWrite → Bool
  | .pass _ | .giveBack _ => true
  | .admission _ | .unexpected _ | .retirement _ | .unconfirmed _ => false

/-- The last-returned memory, or a waiting unexpected-pass write, names an entry (R144, R145). -/
def State.recalls (s : State) (e : Entry) : Prop :=
  s.feed.memory.map (fun m => (m.slot, m.tag)) = some (e.slot, e.tag) ∨ .unexpected (some e) ∈ s.arb.feedWrites

/-- How the gate and the waiting writes of the Feed Controller stand to the records: what keeps the queue and the path
list as R136 and R149 give them. -/
structure State.GateLaw (s : State) : Prop where
  /-- The gate record is AT_GATE (R140). -/
  record : ∀ e, s.feed.gate = some e → ∃ r, s.record e.slot = some r ∧ r.tag = e.tag ∧ r.stage = .atGate
  /-- While a record is AT_GATE none is in the shredder path (conditions 5 and 8 of R139). -/
  alone : ∀ i r, s.record i = some r → r.stage = .atGate → s.feed.path = []
  /-- With a gate record no admission, pass or return waits. -/
  quiet : s.feed.gate ≠ none → ∀ w ∈ s.arb.feedWrites, w.admits = false ∧ w.leavesGate = false
  /-- At most one admission write waits, and only while admission write waiting is set (R139). -/
  single : s.arb.feedWrites.countP FeedWrite.admits ≤ s.feed.admissionWaiting.toNat
  /-- No pass or return waits behind an admission. -/
  order : s.arb.feedWrites.Pairwise (fun v w => v.admits = true → w.leavesGate = false)
  /-- A record QUEUED that an unexpected pass may still take is the head, and nothing is in the shredder path (R144). -/
  recalled : ∀ e r, s.recalls e → s.record e.slot = some r → r.tag = e.tag → r.stage = .queued →
    s.feed.queue.head? = some e ∧ s.feed.path = []
  /-- No write of the Feed Controller waits at a PARKED arbiter (R32). -/
  parked : s.arb.access = .parked → s.arb.feedWrites = []

/-- The feed follows the records: the queue, the shredder path list and the gate. -/
def State.FeedLaw (s : State) : Prop := s.QueueLaw ∧ s.PathLaw ∧ s.GateLaw

/-- A law that every step keeps: from every state that meets it, a step gives a state that meets it. -/
def KeptByEveryStep (law : State → Prop) : Prop := ∀ s t, law s → step s = .next t → law t

/-- A law that every step from a state with another law keeps. -/
def KeptUnder (premise law : State → Prop) : Prop := ∀ s t, premise s → law s → step s = .next t → law t

end Sys2Proof.Machine
end

