-- ==== Sys2Proof/Certificates/Slice0/Obligations.lean ====
section
/-!
DEFINITION. The statements for the provers, one definition each, in the order of OBLIGATIONS.json.

A statement about a port request that takes a grant is made for a free table (`State.Free`: the port takes the frame, the
arbiter is PARKED and nothing waits); how it is checked first, waits and is refused by the lock is said once for all of
them. The conclusion `exec i s = .next t` names the whole next state: what `t` does not name is unchanged. Where a statement
rests on a choice of the model its docstring names the log entry. Two entries underlie many: a grant is one step (log entry 4),
and a row that names the end of a time takes that one timer to its end at once (log entry 2).
-/

open Sys2Proof Sys2Proof.Machine

/-! ### The machine -/

/-- A step takes the command at the front of the queue and runs it with the queue's rest. -/
def Obligations.StepRunsTheFrontCommand : Prop :=
  ∀ (c : Instr) (rest : List Instr) (s : State),
    step { s with pending := c :: rest } = exec c { s with pending := rest }

/-- On an empty queue a part that does not run stays as it is (R194, R196: no timer runs), and a running part takes the
end of one 10 ms period of every timer, one after the other (the model's choices, log entries 1 and 9): the lock's hold timer
(R39), the period count of each link (R60, R61), the hold-off (R91), rest (R95, R96) and retry wait (R110) of each bay, the
freshness of the detectors (R157) and the analysers (R118), the confirm and purge timers (R122, R123), the return window (R145),
the gate and the shred timer (R146, R148). A timer that runs moves by one; one that reaches its end acts as the row that names
its end. The time of a detector stays 100 after its lapse (log entry 34). -/
def Obligations.AnEmptyQueueTakesOnePeriod : Prop :=
  (∀ s : State, s.pending = [] →
    (s.running = false → step s = .next s)
    ∧ (s.running = true →
      (let s1 := (List.finRange 12).foldl State.tickBay s.tickLock
       let s2 := (List.finRange 28).foldl State.tickDetector s1
       step s = .next ((s2.tickAnalyser .a).tickAnalyser .b).tickConfirm.tickPurge.tickWindow.tickGate.tickShred)
      ∧ ∃ t, step s = .next t ∧ t.pending = []
        ∧ (s.arb.lock = none → t.arb.lock = none)
        ∧ ∀ l, s.arb.lock = some l →
            t.arb.lock = if l.elapsed + 1 < l.duration then some { l with elapsed := l.elapsed + 1 } else none))
  ∧ ∀ s : State, s.running = true →
    (s.arb.lock = none → s.tickLock = s)
    ∧ (∀ l, s.arb.lock = some l →
      (l.elapsed + 1 < l.duration → s.tickLock = s.setArb { s.arb with lock := some { l with elapsed := l.elapsed + 1 } })
      ∧ (l.duration ≤ l.elapsed + 1 → exec .lockHoldExpiry s = .next s.tickLock))
    ∧ (∀ b : BayId,
      let x := s.bay b
      let u := s.tickLink b
      let y := u.bay b
      (x.mode = .unconfigured ∨ x.link = .lost → u = s)
      ∧ (x.mode ≠ .unconfigured → x.link = .receiving →
        (x.periods < s.settings.timing.link → u = s.setBay b { x with periods := x.periods + 1 })
        ∧ (s.settings.timing.link ≤ x.periods → exec (.linkTimeout b) s = .next u))
      ∧ (y.mode ≠ .active → y.mode ≠ .resting → y.mode ≠ .retrying → s.tickBay b = u)
      ∧ (y.mode = .active → y.holdOff = none → s.tickBay b = u)
      ∧ (∀ n, y.mode = .active → y.holdOff = some n →
        (1 < n → s.tickBay b = u.setBay b { y with holdOff := some (n - 1) })
        ∧ (n ≤ 1 → exec (.holdOffExpiry b) u = .next (s.tickBay b)))
      ∧ (y.mode = .resting → y.releasePending = true → s.tickBay b = u)
      ∧ (∀ c k, y.mode = .resting → y.releasePending = false → y.copies = some c → u.settings.classes.get c.cls = some k →
        (y.restElapsed + 1 < k.restSec * 100 → s.tickBay b = u.setBay b { y with restElapsed := y.restElapsed + 1 })
        ∧ (k.restSec * 100 ≤ y.restElapsed + 1 → exec (.restEnd b) u = .next (s.tickBay b)))
      ∧ (y.mode = .retrying → y.retry ≠ some .overcurrent ∨ y.releasePending = true → s.tickBay b = u)
      ∧ (y.mode = .retrying → y.retry = some .overcurrent → y.releasePending = false →
        (y.retryWait + 1 < (u.bayCfg b).retrySec * 100 → s.tickBay b = u.setBay b { y with retryWait := y.retryWait + 1 })
        ∧ ((u.bayCfg b).retrySec * 100 ≤ y.retryWait + 1 → exec (.retryWaitElapsed b) u = .next (s.tickBay b))))
    ∧ (∀ d : DetId,
      let x := s.detector d
      (s.settings.detectors.get d = none ∨ 100 ≤ x.age → s.tickDetector d = s)
      ∧ (s.settings.detectors.get d ≠ none →
        (x.age < 99 → s.tickDetector d = s.setDetector d { x with age := x.age + 1 })
        ∧ (x.age = 99 → exec (.detectorFreshnessLapse d) s = .next (s.tickDetector d))))
    ∧ (∀ w : Analyser,
      let x := s.chamber.analyser w
      (x.fresh = false → s.tickAnalyser w = s)
      ∧ (x.fresh = true →
        (x.age < 99 → s.tickAnalyser w = s.setChamber (s.chamber.setAnalyser w { x with age := x.age + 1 }))
        ∧ (99 ≤ x.age → exec (.analyserFreshnessLapse w) s = .next (s.tickAnalyser w))))
    ∧ (s.chamber.confirm = none → s.tickConfirm = s)
    ∧ (∀ n, s.chamber.confirm = some n →
      (n + 1 < s.settings.chamber.confirmSec * 100 → s.tickConfirm = s.setChamber { s.chamber with confirm := some (n + 1) })
      ∧ (s.settings.chamber.confirmSec * 100 ≤ n + 1 → exec .confirmTimeElapsed s = .next s.tickConfirm))
    ∧ (s.chamber.purgeTimer = none → s.tickPurge = s)
    ∧ (∀ n, s.chamber.purgeTimer = some n →
      (n + 1 < s.settings.chamber.purgeSec * 100 → s.tickPurge = s.setChamber { s.chamber with purgeTimer := some (n + 1) })
      ∧ (s.settings.chamber.purgeSec * 100 ≤ n + 1 → exec .purgeTimeout s = .next s.tickPurge))
    ∧ (s.feed.memory = none → s.tickWindow = s)
    ∧ (∀ m, s.feed.memory = some m →
      (1 < m.remaining → s.tickWindow = s.setFeed { s.feed with memory := some { m with remaining := m.remaining - 1 } })
      ∧ (m.remaining ≤ 1 → exec .returnWindowEnd s = .next s.tickWindow))
    ∧ (s.feed.gateTimer = none → s.tickGate = s)
    ∧ (∀ x, s.feed.gateTimer = some x →
      (x.elapsed + 1 < x.duration → s.tickGate = s.setFeed { s.feed with gateTimer := some { x with elapsed := x.elapsed + 1 } })
      ∧ (x.duration ≤ x.elapsed + 1 → exec .gateTimeout s = .next s.tickGate))
    ∧ (s.feed.shredTimer = none → s.tickShred = s)
    ∧ (∀ x, s.feed.shredTimer = some x →
      (x.elapsed + 1 < x.duration → s.tickShred = s.setFeed { s.feed with shredTimer := some { x with elapsed := x.elapsed + 1 } })
      ∧ (x.duration ≤ x.elapsed + 1 → exec .shredTimeout s = .next s.tickShred))

/-- Every command answers a next state in every state, and leaves the queue of waiting commands alone (the model's choice
that an event which cannot occur leaves the state: log entry 3). -/
def Obligations.EveryCommandAnswersAndKeepsTheQueue : Prop :=
  ∀ (i : Instr) (s : State), ∃ t, exec i s = .next t ∧ t.pending = s.pending

/-- What reset leaves: the values the spec gives the end of a cold start (R28, R47, R48, R75, R134, R153, R171, R189,
R197). That every input line is deasserted is the model's choice (log entry 5): the chamber is OPEN, the throat LOADED. -/
def Obligations.ResetLeavesTheColdStartValues : Prop :=
  let s := State.reset
  s.phase = .running ∧ s.retention = true ∧ s.lastStart = .cold ∧ s.pending = []
  ∧ (∀ i, s.record i = none) ∧ s.liveCount = 0
  ∧ s.tallies = { registered := 0, shredded := 0, intact := 0, energyTotal := 0, residualAdmitted := 0, massAdmitted := 0 }
  ∧ s.access = { base := 0, count := 8, linePerm := 0xFF, plantPerm := 0xFF, lineMask := 0x3F, plantMask := 0 }
  ∧ s.arb.access = .parked ∧ s.arb.lock = none ∧ s.NoWrites
  ∧ (∀ b, (s.bay b).mode = .unconfigured ∧ (s.bay b).binding = none ∧ (s.bay b).frac = 0 ∧ (s.bay b).softStop = true
      ∧ (s.bay b).level = 0 ∧ (s.bay b).holds.empty = true ∧ (s.bay b).releasePending = false ∧ (s.bay b).fault = none
      ∧ (s.bay b).link = .lost ∧ (s.bay b).toggle = none ∧ (s.bay b).periods = 5 ∧ (s.bay b).sample = none
      ∧ (s.bay b).repeats = 0 ∧ (s.bay b).discards = 0 ∧ (s.bay b).extensions = 0 ∧ (s.bay b).faultCount = 0)
  ∧ s.chamber.state = .doorOpen ∧ s.chamber.loaded = true ∧ s.chamber.condition = .noReading ∧ s.chamber.eff = none
  ∧ s.chamber.nitrogen = false ∧ s.chamber.flood = false ∧ s.chamber.shredPermit = false
  ∧ s.feed.queue = [] ∧ s.feed.path = [] ∧ s.feed.gate = none ∧ s.feed.shred = none ∧ s.feed.gateOpen = false
  ∧ s.feed.faults.present = false ∧ s.feed.memory = none ∧ s.feed.block.empty = true
  ∧ (∀ z, (s.zone z).state = .normal ∧ (s.zone z).degraded = false ∧ (s.zone z).sweepWaiting = false)
  ∧ (∀ d, s.settings.detectors.get d = none) ∧ (∀ c, s.settings.classes.get c = none ∧ s.settings.useCount.get c = 0)
  ∧ (∀ b, (s.bayCfg b).rating = none)
  ∧ s.settings.timing = { link := 5, lockMs := 500, rebound := 3, gateSec := 20, shredSec := 90 }
  ∧ s.line.mask = 0x3D ∧ s.plant.mask = 0x3F ∧ s.line.attn = { restart := true } ∧ s.plant.attn = { restart := true }
  ∧ s.line.attnLine = true ∧ s.plant.attnLine = true ∧ s.line.restartMark = true ∧ s.plant.restartMark = true
  ∧ s.line.lockMark = false ∧ s.plant.lockMark = false ∧ s.line.overruns = 0 ∧ s.plant.overruns = 0

/-- Reading the frame of a well-formed request gives the request back (R181, R182, R193), with the layout choices of log
entry 6. -/
def Obligations.RequestFramesReadBack : Prop :=
  ∀ (i : Instr) (p : Port) (bytes : List Byte),
    i.wf = true → i.port = some p → encodeRequest i = some bytes → readFrame p bytes = .request i

/-! ### Laws that every step keeps -/

/-- No two live records hold the same tag, after every step (R3). -/
def Obligations.TagsStayUnique : Prop := KeptByEveryStep State.TagsUnique

/-- The two laws of R25. The first holds after every step, while the registered tally has not saturated. The second: from a
state that keeps the bindings, with every mass in its range, the mass admitted stays at least the mass in the shredder path; and
in a step that begins no counting period, with no port request waiting and the tally short of saturation, the mass admitted less
the mass in the path rises by exactly the mass retired shredded. -/
def Obligations.TalliesAccountForEveryRecord : Prop :=
  KeptByEveryStep State.TallyLaw
  ∧ ∀ s t : State, s.BindingLaw → (∀ i r, s.record i = some r → r.mass ≤ 10000) →
    s.pathMass ≤ s.tallies.massAdmitted → step s = .next t →
    t.pathMass ≤ t.tallies.massAdmitted
    ∧ (s.tallies.massAdmitted + 2560000 ≤ 4294967295 → s.line.waitingRequest = none → s.plant.waitingRequest = none →
      ¬ s.countsAnew → t.tallies.massAdmitted + s.pathMass = s.tallies.massAdmitted + t.pathMass + s.shreddedMass t)

/-- The use count of each class is the number of live records of that class, after every step (R174). -/
def Obligations.UseCountsFollowTheRecords : Prop := KeptByEveryStep State.UseLaw

/-- Every bay's load level stays one that R50 allows. -/
def Obligations.LoadLevelsStayLegal : Prop := KeptByEveryStep State.LevelsLegal

/-- Every accumulator stays below 36,000,000 units, and is 0 while its bay is unbound (R80). -/
def Obligations.AccumulatorsStayBelowOneWattHour : Prop := KeptByEveryStep State.EnergyLaw

/-- The chamber outputs, the permits and GATE_OPEN are as R130, R131, R135, R140 and R196 give them, after every step: while the
part runs GATE_OPEN is asserted exactly while there is a gate record, and only with the chamber INERT. -/
def Obligations.OutputsFollowTheChamberState : Prop :=
KeptByEveryStep State.OutputsLaw

/-- The attention lines follow the pending sets and the masks, after every step (R189, R196). -/
def Obligations.AttentionLinesFollowThePendingSets : Prop := KeptByEveryStep State.AttentionLaw

/-- Every zone's state and DEGRADED are those its vote gives on its channels, after every step (R162). A zone in ALARM stays in
ALARM through every step but a CLEAR_ALARM of it from the Plant Port and the choice of a cold start (R163). -/
def Obligations.ZonesFollowTheirVote : Prop :=
  KeptByEveryStep State.ZonesVoted
  ∧ ∀ (s t : State) (z : ZoneId), (s.zone z).state = .alarm → step s = .next t → (t.zone z).state = .alarm
    ∨ ∃ i rest, s.pending = i :: rest
      ∧ (i = .clearAlarm .plant z.1 ∨ ((i = .powerUp ∨ i = .resetRelease) ∧ s.retention = false))

/-- A bay is bound to a record exactly when that record's stage is PROBING, DISCHARGING or RESTING and its bay field names that
bay, after every step (R5, R64); with it, an UNCONFIGURED, STOPPED or IDLE bay is unbound, a FAULTED bay has a fault state, and
the waiting stage changes keep or end a binding as R64 has them. -/
def Obligations.BindingsFollowTheRecords : Prop := KeptByEveryStep State.BindingLaw

/-- From every state that keeps the bindings, no step leaves a record carrying QUARANTINE QUEUED, AT_GATE or IN_SHREDDER
(R7). -/
def Obligations.QuarantinedRecordsStayOutOfTheFeed : Prop := KeptUnder State.BindingLaw State.QuarantineLaw

/-- The feed queue never holds more than 8 entries. From every state that keeps the bindings, every step keeps the feed law:
the queue holds, once each and the gate's at its head, exactly the records QUEUED or AT_GATE (R136); the shredder path list holds,
once each and with its stage, exactly the records IN_SHREDDER or SHRED_UNCONFIRMED, within its room for 8 (R135, R149); and the
gate record and the waiting writes stand to the records so that this stays so (R139, R140, R144). -/
def Obligations.TheFeedFollowsTheRecords : Prop :=
  KeptByEveryStep (fun s => s.feed.queue.length ≤ 8) ∧ KeptUnder State.BindingLaw State.FeedLaw

/-- The laws above hold right after reset. -/
def Obligations.TheLawsHoldAtReset : Prop :=
  State.reset.TagsUnique ∧ State.reset.TallyLaw ∧ State.reset.UseLaw ∧ State.reset.LevelsLegal ∧ State.reset.EnergyLaw
  ∧ State.reset.OutputsLaw ∧ State.reset.AttentionLaw ∧ State.reset.ZonesVoted ∧ State.reset.FeedLaw
  ∧ State.reset.BindingLaw ∧ State.reset.QuarantineLaw ∧ State.reset.pathMass ≤ State.reset.tallies.massAdmitted

/-! ### What every request is checked for -/

/-- A request taken from its frame is refused for its port, then for its operands, before anything else (checks 1 and 2 of
R13, R31); with a request in flight on the port it is an overrun (R185). The port check is the one of Table 10-4, and the operand
check is the range of every operand: of a record (Table 1-1, R3, R10, R12, R14, R16, R21), of a bay (R65 to R70, R113), of a zone
(R168, R170) and of the settings (R44, R174 to R180, R189). What stands in an operand for which the spec names no meaning is the
model's choice (log entries 6, 22), and that the request's own row counts its overrun (log entry 35). -/
def Obligations.RequestsAreCheckedBeforeAnythingElse : Prop :=
  (∀ (i : Instr) (p : Port) (s : State), i.isRequest = true → i.port = some p →
    (s.Takes p → portAccepts i = false → exec i s = .next (s.answer p i.code (.refuse .notPermitted)))
    ∧ (s.Takes p → portAccepts i = true → operandsOk i = false → exec i s = .next (s.answer p i.code (.refuse .badField)))
    ∧ (s.takesFrame p = true → s.inFlight p = true →
        exec i s = .next (s.setPort p { s.port p with overruns := min 65535 ((s.port p).overruns + 1) }))
    ∧ (portAccepts i = true ↔
        (i.code = 0x06 ∨ i.code = 0x1A ∨ (0x50 ≤ i.code ∧ i.code ≤ 0x55) → p = .line)
        ∧ (i.code = 0x17 ∨ i.code = 0x18 ∨ i.code = 0x40 → p = .plant)))
  ∧ ∀ p : Port,
    let accepts := fun (i : Instr) (q : Prop) => operandsOk i = true ↔ q
    let tagged := fun n : Nat => 1 ≤ n ∧ n ≤ 281474976710655
    accepts (.status p) True ∧ accepts (.getAttention p) True ∧ accepts (.lockTable p) True ∧ accepts (.unlockTable p) True
    ∧ accepts (.readTallies p) True ∧ accepts (.resetTallies p) True ∧ accepts (.purge p) True
    ∧ accepts (.stopChamber p) True ∧ accepts (.readChamber p) True ∧ accepts (.resumeFeed p) True ∧ accepts (.readQueue p) True
    ∧ (∀ mask, accepts (.setAttentionMask p mask) (mask ≤ 63))
    ∧ (∀ base count lp pp lm pm, accepts (.setAccess p base count lp pp lm pm)
        (base ≤ 7 ∧ 1 ≤ count ∧ base + count ≤ 8 ∧ lp ≤ 255 ∧ pp ≤ 255 ∧ lm ≤ 63 ∧ pm ≤ 63))
    ∧ (∀ tag cls cells capacity declared mass damaged, accepts (.register p tag cls cells capacity declared mass damaged)
        (tagged tag ∧ cls ≤ 7 ∧ 1 ≤ cells ∧ cells ≤ 240 ∧ 1 ≤ capacity ∧ capacity ≤ 5000 ∧ declared ≤ 150000 ∧ 1 ≤ mass
          ∧ mass ≤ 10000 ∧ damaged ≤ 1))
    ∧ (∀ n, accepts (.readRecord p n) (n ≤ 255))
    ∧ (∀ stage start, accepts (.scan p stage start) (stage ≤ 8 ∧ start ≤ 255))
    ∧ (∀ kind n field v, accepts (.amend p kind n field v)
        (((kind = 0 ∧ tagged n) ∨ (kind = 1 ∧ n ≤ 255))
          ∧ ((field = 0 ∧ v ≤ 7) ∨ (field = 1 ∧ 1 ≤ v ∧ v ≤ 240) ∨ (field = 2 ∧ 1 ≤ v ∧ v ≤ 5000)
            ∨ (field = 3 ∧ v ≤ 150000) ∨ (field = 4 ∧ 1 ≤ v ∧ v ≤ 10000) ∨ (field = 5 ∧ v ≤ 1))))
    ∧ (∀ n, accepts (.find p n) (tagged n) ∧ accepts (.retire p n) (tagged n) ∧ accepts (.quarantine p n) (tagged n)
        ∧ accepts (.liftQuarantine p n) (tagged n) ∧ accepts (.enqueue p n) (tagged n) ∧ accepts (.withdraw p n) (tagged n)
        ∧ accepts (.abortBay p n) (n ≤ 11) ∧ accepts (.clearFault p n) (n ≤ 11) ∧ accepts (.readBay p n) (n ≤ 11)
        ∧ accepts (.clearAlarm p n) (n ≤ 6) ∧ accepts (.readZone p n) (n ≤ 6))
    ∧ (∀ n m, accepts (.confirmShred p n m) (tagged n ∧ m ≤ 1) ∧ accepts (.assignBay p n m) (tagged n ∧ m ≤ 11)
        ∧ accepts (.setSoftStop p n m) (n ≤ 11 ∧ m ≤ 1) ∧ accepts (.setLevelCap p n m) (n ≤ 11 ∧ 1 ≤ m ∧ m ≤ 15))
    ∧ (∀ cls rate ev sv pm wt st rest, accepts (.setClass p cls rate ev sv pm wt st rest)
        (cls ≤ 7 ∧ 1 ≤ rate ∧ rate ≤ 50 ∧ 1000 ≤ ev ∧ ev < sv ∧ sv ≤ 4500 ∧ pm ≤ 200 ∧ wt ≤ 140 ∧ wt < st ∧ 5 ≤ st ∧ st ≤ 150
          ∧ 10 ≤ rest ∧ rest ≤ 600))
    ∧ (∀ bay rating cap toff n mode combine retry, accepts (.setBayConfig p bay rating cap toff n mode combine retry)
        (bay ≤ 11 ∧ 10 ≤ rating ∧ rating ≤ 2500 ∧ 1 ≤ cap ∧ cap ≤ 15 ∧ 1 ≤ toff ∧ toff ≤ 8 ∧ (n = 32 ∨ n = 256) ∧ mode ≤ 1
          ∧ combine ≤ 1 ∧ 1 ≤ retry ∧ retry ≤ 60))
    ∧ (∀ zone hw ha hh gw ga gh w, accepts (.setZoneConfig p zone hw ha hh gw ga gh w)
        (zone ≤ 6 ∧ -40 ≤ hw ∧ hw < ha ∧ ha ≤ 400 ∧ 1 ≤ hh ∧ hh ≤ 50 ∧ gw < ga ∧ ga ≤ 10000 ∧ 1 ≤ gh ∧ gh ≤ 1000 ∧ 1 ≤ w ∧ w ≤ 15))
    ∧ (∀ address used zone kind, accepts (.setDetectorMap p address used zone kind)
        (address ≤ 27 ∧ (used = 0 ∨ (used = 1 ∧ zone ≤ 6 ∧ kind ≤ 1))))
    ∧ (∀ level abort tol confirm purge, accepts (.setChamberConfig p level abort tol confirm purge)
        (50 ≤ level ∧ level ≤ 1000 ∧ level < abort ∧ abort ≤ 1500 ∧ 10 ≤ tol ∧ tol ≤ 500 ∧ 5 ≤ confirm ∧ confirm ≤ 120
          ∧ 60 ≤ purge ∧ purge ≤ 1800))
    ∧ (∀ link lockMs rebound gate shred, accepts (.setTiming p link lockMs rebound gate shred)
        ((∀ n, link = some n → 3 ≤ n ∧ n ≤ 15) ∧ (∀ n, lockMs = some n → 10 ≤ n ∧ n ≤ 2550 ∧ n % 10 = 0)
          ∧ (∀ n, rebound = some n → 1 ≤ n ∧ n ≤ 7) ∧ (∀ n, gate = some n → 5 ≤ n ∧ n ≤ 60)
          ∧ (∀ n, shred = some n → 10 ≤ n ∧ n ≤ 300)))
    ∧ (∀ group given index, accepts (.readSetting p group ⟨given, index⟩)
        (group ≤ 6 ∧ given ≤ 1 ∧ (group ≤ 2 → given = 1) ∧ (group = 0 → index ≤ 7) ∧ (group = 1 → index ≤ 11)
          ∧ (group = 2 → index ≤ 6)))

/-- A request that takes a grant and passes its first two checks waits while the arbiter is not PARKED (R30, R31, R32);
one that takes none is answered at once, whatever the arbiter does (R35). -/
def Obligations.RequestsWaitForTheTable : Prop :=
  ∀ (i : Instr) (p : Port) (s : State), i.isRequest = true → i.port = some p → s.Takes p → portAccepts i = true →
    operandsOk i = true → s.arb.access ≠ .parked →
    (takesGrant i = true → exec i s = .next (s.setPort p { s.port p with inFlight := some (.waiting i) }))
    ∧ (takesGrant i = false → ∃ (rep : Reply) (t : State), exec i s = .next (t.answer p i.code rep) ∧ t.arb.access = s.arb.access)

/-- The checks 3 to 5 of R13 at the grant. While the other port holds the table lock, each of the eight record-changing requests
is refused with LOCKED (R37). Otherwise one that names its record by a tag that no record the port sees holds, and an AMEND of a
slot that is FREE or not seen, are refused with NOT_FOUND (R41), and one on a record in a READ_ONLY segment with PROTECTED (R42).
The two safety requests are refused with NOT_FOUND only when no live record holds the tag (R46). None of them changes anything. -/
def Obligations.RecordRequestsAreCheckedInOrder : Prop :=
  ∀ (p : Port) (s : State), s.Free p →
    (∀ (i : Instr) (l : Lock), changesRecords i = true → i.port = some p → operandsOk i = true → s.arb.lock = some l →
      l.holder ≠ p → exec i s = .next (s.answer p i.code (.refuse .locked)))
    ∧ (s.lockedOut p = false →
      (∀ (i : Instr) (tag : Nat), namedTag i = some tag → i.port = some p → operandsOk i = true →
        ((∀ k r, s.record k = some r → s.sees p k = true → r.tag ≠ tag) →
          exec i s = .next (s.answer p i.code (.refuse .notFound)))
        ∧ (s.TagsUnique → ∀ k r, s.record k = some r → s.sees p k = true → r.tag = tag → s.mayChange p k = false →
          exec i s = .next (s.answer p i.code (.refuse .isProtected))))
      ∧ ∀ (k : Slot) (field value : Nat), operandsOk (.amend p 1 k.1 field value) = true →
        (s.record k = none ∨ s.sees p k = false →
          exec (.amend p 1 k.1 field value) s = .next (s.answer p 0x14 (.refuse .notFound)))
        ∧ (s.record k ≠ none → s.sees p k = true → s.mayChange p k = false →
          exec (.amend p 1 k.1 field value) s = .next (s.answer p 0x14 (.refuse .isProtected))))
    ∧ (p = .plant → ∀ tag, tagOk tag = true → (∀ k r, s.record k = some r → r.tag ≠ tag) →
      exec (.liftQuarantine .plant tag) s = .next (s.answer .plant 0x17 (.refuse .notFound))
      ∧ ∀ outcome, outcome ≤ 1 →
        exec (.confirmShred .plant tag outcome) s = .next (s.answer .plant 0x18 (.refuse .notFound)))

/-! ### Custody records (chapter 1) -/

/-- READ_RECORD and FIND report a record that the port sees with its stored fields and the four derived values of R9, and
change nothing; a FREE slot, a slot outside the Plant window and a tag that no visible record holds are answered
NOT_FOUND (R2, R10, R11). SCAN answers the first 32 slots, from the start slot upward, whose record is in the stage and is
seen by the port, and whether there are more (R12). An operand out of its range is answered BAD_FIELD, whatever the arbiter
does (R10, R11, R12). -/
def Obligations.ReadsReportTheRecords : Prop :=
  ∀ (p : Port) (s : State),
    (s.Takes p →
      (∀ n, 255 < n → exec (.readRecord p n) s = .next (s.answer p 0x11 (.refuse .badField)))
      ∧ exec (.find p 0) s = .next (s.answer p 0x12 (.refuse .badField))
      ∧ (∀ code start, 8 < code ∨ 255 < start →
          exec (.scan p code start) s = .next (s.answer p 0x13 (.refuse .badField))))
    ∧ (s.Free p →
        (∀ i r, s.record i = some r → s.sees p i = true →
          let view : RecView :=
            { slot := i, record := r, residual := if r.energy < r.declared then r.declared - r.energy else 0
              perCell := r.rest.map (fun v => v * 100 / r.cells), zone := r.zone
              position := if r.stage = .queued ∨ r.stage = .atGate then
                (s.feed.queue.findIdx? (fun e => decide (e.slot = i))).map (· + 1) else none }
          exec (.readRecord p i.1) s = .next (s.answer p 0x11 (.ok (.record view)))
          ∧ (s.TagsUnique → tagOk r.tag = true → exec (.find p r.tag) s = .next (s.answer p 0x12 (.ok (.record view)))))
        ∧ (∀ i : Slot, s.record i = none ∨ s.sees p i = false →
            exec (.readRecord p i.1) s = .next (s.answer p 0x11 (.refuse .notFound)))
        ∧ (∀ tag, tagOk tag = true → (∀ i r, s.record i = some r → s.sees p i = true → r.tag ≠ tag) →
            exec (.find p tag) s = .next (s.answer p 0x12 (.refuse .notFound)))
        ∧ (∀ code start g, stageOf code = some g → start ≤ 255 →
            let found := (List.finRange 256).filter (fun i =>
              decide (start ≤ i.1) && s.sees p i && decide ((s.record i).map Rec.stage = some g))
            exec (.scan p code start) s = .next (s.answer p 0x13 (.ok (.slots (found.take 32) (decide (32 < found.length)))))))

/-- READ_TALLIES, accepted from either port and under any lock, takes one grant and answers the six tallies and the number
of LIVE slots of the whole table as they stand at the grant (R26). -/
def Obligations.ReadTalliesReportsTheCounts : Prop :=
  ∀ (p : Port) (s : State),
    (s.Free p → exec (.readTallies p) s = .next (s.answer p 0x19
      (.ok (.tallies s.tallies ((List.finRange 256).filter (fun i => (s.record i).isSome)).length))))
    ∧ (s.Takes p → s.arb.access ≠ .parked →
        exec (.readTallies p) s = .next (s.setPort p { s.port p with inFlight := some (.waiting (.readTallies p)) }))
    ∧ serveGrant (.readTallies p) s = some (.ok (.tallies s.tallies s.liveCount), s)

/-- RESET_TALLIES from the Line Port, under any lock: registered becomes the live count, the retired tallies and the energy
total 0, and the admitted tallies the sums over the shredder path (R27, R149). That the sums run over the shredder path list and
saturate is the model's inference (log entry 27). -/
def Obligations.ResetTalliesStartsANewPeriod : Prop :=
  ∀ s : State, s.Free .line →
    let path := s.slots.1.filterMap (fun o => o.bind (fun r =>
      if r.stage = .inShredder ∨ r.stage = .shredUnconfirmed then some r.mass else none))
    let t : Tallies :=
      { registered := s.liveCount, shredded := 0, intact := 0, energyTotal := 0
        residualAdmitted := min 4294967295 (s.feed.path.map PathEntry.residual).sum
        massAdmitted := min 4294967295 path.sum }
    exec (.resetTallies .line) s = .next ((s.setTallies t).answer .line 0x1A (.ok (.talliesReset t)))

/-- An accepted REGISTER takes the lowest FREE slot of the permitted segments and sets its record as R15 gives it; the
registered tally and the use count of the class rise by one. Otherwise, for operands in range and no lock of the other port,
DUPLICATE_TAG, CLASS_UNSET and TABLE_FULL answer in that order (R14, R174). RETIRE of a record WAITING or DISCHARGED frees its
slot; the retired intact tally rises by one and the class is used once less. Another stage, and a quarantined record from the
Line Port, are refused in that order (R2, R17, R174). -/
def Obligations.RecordsAreRegisteredAndRetired : Prop :=
  (∀ (p : Port) (s : State) (tag cls cells capacity declared mass damaged : Nat) (c : ClassId), s.Free p →
     operandsOk (.register p tag cls cells capacity declared mass damaged) = true → c.1 = cls → s.lockedOut p = false →
     let permitted := fun i : Slot => s.record i = none ∧ s.sees p i = true ∧ s.mayChange p i = true
     let taken := ∃ i r, s.record i = some r ∧ r.tag = tag
     let answers := fun rep (t : State) =>
       exec (.register p tag cls cells capacity declared mass damaged) s = .next (t.answer p 0x10 rep)
     (taken → answers (.refuse .duplicateTag) s)
     ∧ (¬ taken → s.settings.classes.get c = none → answers (.refuse .classUnset) s)
     ∧ (¬ taken → s.settings.classes.get c ≠ none → (∀ i, ¬ permitted i) → answers (.refuse .tableFull) s)
     ∧ (¬ taken → s.settings.classes.get c ≠ none → ∀ i, permitted i → (∀ j, j < i → ¬ permitted j) →
         answers (.ok (.slot i))
           (((s.setRecord i (some
               { tag, origin := p, cls := c, cells, capacity, declared, mass, energy := 0, stage := .waiting
                 flags := { damaged := decide (damaged = 1) }, bay := none, rest := none, rebounds := 0 })).setSettings
             { s.settings with useCount := s.settings.useCount.set c (s.settings.useCount.get c + 1) }).setTallies
             { s.tallies with registered := min 4294967295 (s.tallies.registered + 1) })))
  ∧ (∀ (p : Port) (s : State) (i : Slot) (r : Rec), s.Free p → s.TagsUnique → s.MayAct p i r → tagOk r.tag = true →
       let movable := r.stage = .waiting ∨ r.stage = .discharged
       let answers := fun rep (t : State) => exec (.retire p r.tag) s = .next (t.answer p 0x15 rep)
       (¬ movable → answers (.refuse .wrongStage) s)
       ∧ (movable → r.flags.quarantine = true → p = .line → answers (.refuse .notPermitted) s)
       ∧ (movable → (r.flags.quarantine = true → p = .plant) → answers (.ok (.slot i))
           (((s.setRecord i none).setSettings
             { s.settings with useCount := s.settings.useCount.set r.cls (s.settings.useCount.get r.cls - 1) }).setTallies
             { s.tallies with intact := min 4294967295 (s.tallies.intact + 1) })))

/-- AMEND of a record, named by tag or slot, that the port may change: a field outside the port's mask, a stage other than
WAITING and a class that is not configured are refused in that order; otherwise the field takes the value, and a class moves
the record from one use count to the other (R16, R43, R174). -/
def Obligations.AmendGivesTheFieldItsValue : Prop :=
  ∀ (p : Port) (s : State) (kind selector field value : Nat) (i : Slot) (r : Rec), s.Free p → s.MayAct p i r →
    operandsOk (.amend p kind selector field value) = true →
    (kind = 0 → s.TagsUnique ∧ selector = r.tag) → (kind = 1 → selector = i.1) →
    let inMask := (s.fieldMask p).getLsbD field
    let answers := fun rep (t : State) => exec (.amend p kind selector field value) s = .next (t.answer p 0x14 rep)
    let sets := fun r' : Rec =>
      answers (.ok (.record ((s.setRecord i (some r')).view i r'))) (s.setRecord i (some r'))
    (inMask = false → answers (.refuse .notPermitted) s)
    ∧ (inMask = true → r.stage ≠ .waiting → answers (.refuse .wrongStage) s)
    ∧ (inMask = true → r.stage = .waiting →
        (field = 1 → sets { r with cells := value }) ∧ (field = 2 → sets { r with capacity := value })
        ∧ (field = 3 → sets { r with declared := value }) ∧ (field = 4 → sets { r with mass := value })
        ∧ (field = 5 → sets { r with flags := { r.flags with damaged := decide (value = 1) } })
        ∧ (field = 0 → ∀ c : ClassId, c.1 = value →
            (s.settings.classes.get c = none → answers (.refuse .classUnset) s)
            ∧ (s.settings.classes.get c ≠ none →
                let t := ((s.setRecord i (some { r with cls := c })).unuseClass r.cls).useClass c
                answers (.ok (.record (t.view i { r with cls := c }))) t)))

/-- QUARANTINE by the stage of the record: it sets the flag; a bound record also holds its bay; a record QUEUED or AT_GATE
leaves the queue for DISCHARGED, and from the gate the gate closes, GATE_RETURNED is set and the last-returned memory
names it; a record in the shredder path is refused (R18, R145). LIFT_QUARANTINE from the Plant Port, under any lock, window
and permission: refused while the record's zone is in ALARM; otherwise the flag goes, and a bound bay loses that hold cause
(R19, R46). -/
def Obligations.QuarantineIsSetAndLifted : Prop :=
  (∀ (p : Port) (s : State) (i : Slot) (r : Rec), s.Free p → s.TagsUnique → s.MayAct p i r → tagOk r.tag = true →
     let answers := fun rep (t : State) => exec (.quarantine p r.tag) s = .next (t.answer p 0x16 rep)
     let flagged := { r with flags := { r.flags with quarantine := true } }
     let queue := s.feed.queue.filter (fun e => decide (e.slot ≠ i))
     (r.stage = .inShredder ∨ r.stage = .shredUnconfirmed → answers (.refuse .wrongStage) s)
     ∧ (r.stage = .waiting ∨ r.stage = .discharged → answers (.ok .empty) (s.setRecord i (some flagged)))
     ∧ (r.stage.bound = true → ∀ b, r.bay = some b →
         answers (.ok .empty) ((s.setRecord i (some flagged)).addHold b .quarantine))
     ∧ (r.stage = .queued → answers (.ok .empty)
         ((s.setRecord i (some { flagged with stage := .discharged })).setFeed { s.feed with queue := queue }).evalAdmission)
     ∧ (r.stage = .atGate → answers (.ok .empty)
         ((s.setRecord i (some { flagged with
             stage := .discharged, flags := { flagged.flags with gateReturned := true } })).setFeed
           { s.feed with
             queue := queue, gate := none, gateOpen := false, gateTimer := none
             memory := some { slot := i, tag := r.tag, remaining := s.settings.timing.gateSec * 100 } }).evalAdmission))
  ∧ (∀ (s : State) (i : Slot) (r : Rec), s.Free .plant → s.TagsUnique → s.record i = some r → tagOk r.tag = true →
       let answers := fun rep (t : State) => exec (.liftQuarantine .plant r.tag) s = .next (t.answer .plant 0x17 rep)
       let lifted := s.setRecord i (some { r with flags := { r.flags with quarantine := false } })
       ((s.zone r.zone).state = .alarm → answers (.refuse .notClear) s)
       ∧ ((s.zone r.zone).state ≠ .alarm →
           (r.flags.quarantine = false → answers (.ok .empty) s)
           ∧ (r.flags.quarantine = true → r.bay = none → answers (.ok .empty) lifted)
           ∧ (r.flags.quarantine = true → ∀ b, r.bay = some b → answers (.ok .empty) (lifted.dropHold b .quarantine))))

/-- CONFIRM_SHRED from the Plant Port, under any lock, window and permission, settles a record SHRED_UNCONFIRMED: SHREDDED
retires it as shredded, RECOVERED returns it to DISCHARGED and takes its mass and its kept residual out of the admitted
tallies; either removes its entry from the shredder path list (R21, R22, R149). -/
def Obligations.ConfirmShredSettlesTheRecord : Prop :=
  ∀ (s : State) (i : Slot) (r : Rec), s.Free .plant → s.TagsUnique → s.record i = some r → tagOk r.tag = true →
    let answers := fun outcome rep (t : State) =>
      exec (.confirmShred .plant r.tag outcome) s = .next (t.answer .plant 0x18 rep)
    let feed := { s.feed with path := s.feed.path.filter (fun x => decide (x.slot ≠ i)) }
    (r.stage ≠ .shredUnconfirmed → answers 0 (.refuse .wrongStage) s ∧ answers 1 (.refuse .wrongStage) s)
    ∧ (r.stage = .shredUnconfirmed →
        answers 0 (.ok .empty) ((((s.setRecord i none).unuseClass r.cls).setTallies
          { s.tallies with shredded := min 4294967295 (s.tallies.shredded + 1) }).setFeed feed).evalAdmission
        ∧ answers 1 (.ok .empty) (((s.setRecord i (some { r with
            stage := .discharged, flags := { r.flags with recovered := true } })).setTallies
          { s.tallies with
            massAdmitted := s.tallies.massAdmitted - r.mass
            residualAdmitted := s.tallies.residualAdmitted - s.feed.admitted i }).setFeed feed).evalAdmission)

/-! ### The lock and the access settings (chapter 2) -/

/-- LOCK_TABLE at its grant, from either port (R36): a free lock is taken and the requesting port's own lock renewed, with
the full lock hold time; the other port's lock is left. It takes one grant, and STATUS reports the holder. UNLOCK_TABLE at
its grant, from either port (R38): the holder's lock ends without expiry; otherwise it is refused with NOT_PERMITTED, and
that answer carries the lock-expired indication while the port's mark stands. It takes one grant. -/
def Obligations.TheTableLockIsTakenRenewedAndEnded : Prop :=
  (∀ (p : Port) (s : State),
     (s.Free p → (∀ l, s.arb.lock = some l → l.holder = p) → exec (.lockTable p) s = .next
       ((s.setArb { s.arb with lock := some { holder := p, duration := s.settings.timing.lockMs / 10, elapsed := 0 } }).answer
         p 0x04 (.ok (.lockTime s.settings.timing.lockMs))))
     ∧ (∀ l, s.Free p → s.arb.lock = some l → l.holder ≠ p →
         exec (.lockTable p) s = .next (s.answer p 0x04 (.refuse .locked)))
     ∧ (s.Takes p → s.arb.access ≠ .parked →
         exec (.lockTable p) s = .next (s.setPort p { s.port p with inFlight := some (.waiting (.lockTable p)) }))
     ∧ (s.Takes p → exec (.status p) s = .next (s.answer p 0x01 (.ok (.status s.lastStart
         (s.arb.lock.map (fun l => (l.holder, l.duration - l.elapsed))) (s.port p).overruns s.liveCount
         (s.port p).attnLine (s.port p).mask)))))
  ∧ (∀ (p : Port) (s : State),
       (∀ l, s.Free p → s.arb.lock = some l → l.holder = p →
         exec (.unlockTable p) s = .next ((s.setArb { s.arb with lock := none }).answer p 0x05 (.ok .empty)))
       ∧ (s.Free p → (∀ l, s.arb.lock = some l → l.holder ≠ p) → exec (.unlockTable p) s = .next
           (s.setPort p { s.port p with
             inFlight := some (.answered
               { echo := 0x05, status := .notPermitted, lockExpired := (s.port p).lockMark
                 restart := (s.port p).restartMark, results := .empty } false) }))
       ∧ (s.Takes p → s.arb.access ≠ .parked →
           exec (.unlockTable p) s = .next (s.setPort p { s.port p with inFlight := some (.waiting (.unlockTable p)) })))

/-- The hold timer's expiry ends the lock, adds LOCK_EXPIRED to the holder's pending set and sets its mark; the other port
is left as it is (R39). That the row ends the timer at once is the model's choice (log entry 2). -/
def Obligations.LockExpiryTellsTheHolder : Prop :=
  ∀ (s : State) (l : Lock), s.running = true → s.arb.lock = some l →
    let x := s.port l.holder
    let attn := { x.attn with lockExpired := true }
    exec .lockHoldExpiry s = .next ((s.setArb { s.arb with lock := none }).setPort l.holder
      { x with attn := attn, attnLine := attn.asserts x.mask, lockMark := true })

/-- SET_ACCESS from the Line Port sets all the access settings together (R44), and READ_SETTING of the access group reports them
to either port, whoever holds the lock, in one grant (R45). That an index sent with this group, which has none, is not looked at
is the model's choice (log entry 22). -/
def Obligations.AccessSettingsAreSetAndRead : Prop :=
  ∀ (s : State),
    (∀ base count linePerm plantPerm lineMask plantMask, s.Free .line → base ≤ 7 → 1 ≤ count → base + count ≤ 8 →
      linePerm < 256 → plantPerm < 256 → lineMask < 64 → plantMask < 64 →
      let a : AccessSettings :=
        { base, count, linePerm := BitVec.ofNat 8 linePerm, plantPerm := BitVec.ofNat 8 plantPerm
          lineMask := BitVec.ofNat 6 lineMask, plantMask := BitVec.ofNat 6 plantMask }
      exec (.setAccess .line base count linePerm plantPerm lineMask plantMask) s
        = .next ({ s with access := a }.answer .line 0x06 (.ok (.access a))))
    ∧ (∀ p (index : MaybeSent), index.given ≤ 1 →
        (s.Free p → exec (.readSetting p 6 index) s = .next (s.answer p 0x56 (.ok (.access s.access))))
        ∧ (s.Takes p → s.arb.access ≠ .parked → exec (.readSetting p 6 index) s
            = .next (s.setPort p { s.port p with inFlight := some (.waiting (.readSetting p 6 index)) })))

/-- The end of a grant passes the table on in the order of R33: the Fire Zone Monitor, the Feed Controller, the
lowest-numbered bay channel with a write, the Plant Port, the Line Port; with nothing waiting the arbiter is PARKED (R32).
A waiting port request so chosen is carried out in the same step (the model's choice, log entry 4). -/
def Obligations.GrantsPassOnInOrder : Prop :=
  ∀ (s : State) (n : Nat),
    (s.arb.sweeps ≠ [] → s.endGrant (n + 1) = s.setAccess (.engine .fire))
    ∧ (s.arb.sweeps = [] → s.arb.feedWrites ≠ [] → s.endGrant (n + 1) = s.setAccess (.engine .feed))
    ∧ (s.arb.sweeps = [] → s.arb.feedWrites = [] → ∀ b, (s.bay b).writes ≠ [] → (∀ c, c < b → (s.bay c).writes = []) →
        s.endGrant (n + 1) = s.setAccess (.engine (.bay b)))
    ∧ (s.NoWrites → ∀ i, s.plant.waitingRequest = some i →
        s.endGrant (n + 1) = ((s.setAccess (.port .plant)).grantPort .plant i).endGrant n)
    ∧ (s.NoWrites → s.plant.waitingRequest = none → ∀ i, s.line.waitingRequest = some i →
        s.endGrant (n + 1) = ((s.setAccess (.port .line)).grantPort .line i).endGrant n)
    ∧ (s.NoWrites → s.plant.waitingRequest = none → s.line.waitingRequest = none →
        s.endGrant (n + 1) = s.setAccess .parked)

/-! ### Bays (chapters 3 to 5) -/

/-- ASSIGN_BAY binds a WAITING record to an IDLE bay whose link is RECEIVING: the record, the channel with its current
limit, and the pack-temperature channel, all in one grant; otherwise, for a record the port may change, WRONG_STAGE,
QUARANTINED, CLASS_UNSET, BAY_BUSY, BAY_UNAVAILABLE and ZONE_ALARM answer in that order (R65, R66, R85, R86, R155). That the
probe's kept results and outcome are cleared is the model's inference (log entry 11). -/
def Obligations.AssignBayBindsTheRecord : Prop :=
  ∀ (p : Port) (s : State) (i : Slot) (r : Rec) (b : BayId), s.Free p → s.TagsUnique → s.MayAct p i r →
    tagOk r.tag = true →
    let x := s.bay b
    let answers := fun rep (t : State) => exec (.assignBay p r.tag b.1) s = .next (t.answer p 0x20 rep)
    let busy := x.mode = .probing ∨ x.mode = .active ∨ x.mode = .resting ∨ x.mode = .held ∨ x.mode = .retrying
      ∨ x.mode = .faulted
    (r.stage ≠ .waiting → answers (.refuse .wrongStage) s)
    ∧ (r.stage = .waiting → r.flags.quarantine = true → answers (.refuse .quarantined) s)
    ∧ (r.stage = .waiting → r.flags.quarantine = false →
      (s.settings.classes.get r.cls = none → answers (.refuse .classUnset) s)
      ∧ ∀ k, s.settings.classes.get r.cls = some k →
        (busy → answers (.refuse .bayBusy) s)
        ∧ (x.mode = .unconfigured ∨ x.mode = .stopped ∨ (x.mode = .idle ∧ x.link = .lost) →
            answers (.refuse .bayUnavailable) s)
        ∧ (x.mode = .idle → x.link = .receiving → (s.zone (bayZone b)).state = .alarm → answers (.refuse .zoneAlarm) s)
        ∧ (x.mode = .idle → x.link = .receiving → (s.zone (bayZone b)).state ≠ .alarm → s.Voted (bayZone b) →
            x.pack = none → ∀ rating, (s.bayCfg b).rating = some rating →
            let half := fun (on : Bool) (n : Nat) => if on then n / 2 else n
            let limit := max 10 (half r.flags.isolationFault (half r.flags.damaged (min rating (k.cRate * r.capacity / 10))))
            let bound := { r with stage := .probing, bay := some b, rebounds := 0 }
            let t := (s.setRecord i (some bound)).setBay b { x with
              mode := .probing, binding := some { slot := i, tag := r.tag }
              copies := some { cls := r.cls, cells := r.cells, capacity := r.capacity, damaged := r.flags.damaged }
              level := 0, holds := {}, heldFrom := none, releasePending := false
              probe := { step := 1, count := 0, attempt := 1, round := 1, results := [], last := none }
              fault := none, faultCount := 0, frac := 0, repeats := 0, discards := 0, extensions := 0
              blanking := 0, holdOff := none, endCount := 0, restElapsed := 0, rebounds := 0
              isoDerate := r.flags.isolationFault, limit := some limit, warning := false, shutdown := false, openCount := 0
              retry := none, retryWait := 0, recovery := 0, lastStage := .probing, stageOwed := false
              pack := some { state := .normal, reading := none, alarmRun := 0, warnRun := 0, quietRun := 0, good := 0 } }
            answers (.ok (.record (t.view i bound))) t))

/-- ABORT_BAY ends a binding at once: the rounding of R82 (with a free table no carry waits), the record WAITING, the
channel unbound with its fault and probe cleared, its pack-temperature channel out of the zone's vote. The unbound state
is FAULTED with LINK_LOST on a LOST link (entered from a state that stays a free value, log entry 7), else by the effective
stop. An unbound bay, a record the port does not see and one it may not change are refused (R67). That the probe's last
outcome is cleared is the model's inference (log entry 11). -/
def Obligations.AbortBayEndsTheBinding : Prop :=
  ∀ (p : Port) (s : State) (b : BayId), s.Free p → s.lockedOut p = false →
    let x := s.bay b
    let answers := fun rep (t : State) => exec (.abortBay p b.1) s = .next (t.answer p 0x21 rep)
    (x.binding = none → answers (.refuse .notBound) s)
    ∧ ∀ e, x.binding = some e →
      (s.sees p e.slot = false → answers (.refuse .notFound) s)
      ∧ (s.sees p e.slot = true → s.mayChange p e.slot = false → answers (.refuse .isProtected) s)
      ∧ (s.sees p e.slot = true → s.mayChange p e.slot = true → ∀ r, s.record e.slot = some r → r.tag = e.tag →
          s.Voted (bayZone b) →
          let n := if 18000000 ≤ x.frac then 1 else 0
          let freed := { r with stage := .waiting, bay := none, energy := min 999999 (r.energy + n) }
          let y := { x with
            mode := if x.link = .lost then .faulted else if s.effectiveStop b then .stopped else .idle
            fault := if x.link = .lost then
                some { cause := .linkLost, entered := if Config.abortedFromStopped s.freeCount then .stopped else .idle }
              else none
            binding := none, copies := none, level := 0, holds := {}, heldFrom := none, releasePending := false
            probe := {}, faultCount := 0, frac := 0, blanking := 0, holdOff := none, endCount := 0, restElapsed := 0
            rebounds := 0, isoDerate := false, limit := none, warning := false, shutdown := false, openCount := 0
            retry := none, retryWait := 0, recovery := 0, lastStage := .probing, stageOwed := false, pack := none }
          let t := ((((s.setRecord e.slot (some freed)).setTallies
            { s.tallies with energyTotal := min 4294967295 (s.tallies.energyTotal + n) }).setBay b y).vote
              (bayZone b)).raiseBay b .release
          let t := if x.link = .lost then { t with freeCount := s.freeCount + 1 } else t
          answers (.ok (.record (t.view e.slot freed))) t)

/-- SET_SOFT_STOP sets the soft stop, ends a hold-off and acts by the change of the effective stop; STOP_LINE_CHANGE takes
the line's level and acts in the same way. The effective stop is asserted by either source under OR and by both under AND
(R52, R53, R68). A HELD bay whose last hold cause, the STOP line, leaves returns to its held-from state: PROBING from step 1,
ACTIVE at level 1 with blanking and with a stage change still owed asked for, RESTING with its time from 0, RETRYING begun again
at the retry's level; with a release pending it returns with nothing resumed (R56, R57, R89, R95, R112). The fault state of a
resumed retry is the model's inference (log entry 21). -/
def Obligations.StopsHoldABayAndLetItResume : Prop :=
  (∀ (s : State) (b : BayId),
     let x := s.bay b
     let stop := fun (line soft : Bool) => match (s.bayCfg b).combine with
       | .or => line || soft
       | .and => line && soft
     (∀ p value, s.Takes p → value = 0 ∨ value = 1 →
       let soft := decide (value = 0)
       ∃ t, StopActs b (s.setBay b { x with softStop := soft, holdOff := none }) (stop (s.lines.stop.get b) x.softStop)
           (stop (s.lines.stop.get b) soft) t
         ∧ exec (.setSoftStop p b.1 value) s = .next (t.answer p 0x22
           (.ok (.stops soft (s.lines.stop.get b) (stop (s.lines.stop.get b) soft)))))
     ∧ (∀ high, s.running = true →
       ∃ t, StopActs b (s.setLines { s.lines with stop := s.lines.stop.set b high })
           (stop (s.lines.stop.get b) x.softStop) (stop high x.softStop) t
         ∧ exec (.stopLineChange b high) s = .next t))
  ∧ (∀ (s : State) (b : BayId) (from_ : RunState),
       let x := s.bay b
       let free := { x with holds := {}, heldFrom := none }
       let resumes := fun y => exec (.stopLineChange b false) s = .next
         (((s.setLines { s.lines with stop := s.lines.stop.set b false }).setBay b y).raiseBay b .hold)
       s.running = true → (s.bayCfg b).combine = .or → s.lines.stop.get b = true → x.softStop = false → x.mode = .held →
       x.heldFrom = some from_ → x.holds.zoneAlarm = false → x.holds.quarantine = false → ∀ e, x.binding = some e →
         (x.releasePending = false →
           (from_ = .probing → resumes { free with
             mode := .probing, probe := { x.probe with step := 1, count := 0, results := [] } })
           ∧ (from_ = .active → x.stageOwed = false → resumes { free with
             mode := .active, level := 1, blanking := 2, endCount := 0, openCount := 0, holdOff := none })
           ∧ (from_ = .active → x.stageOwed = true → exec (.stopLineChange b false) s = .next
             ((((s.setLines { s.lines with stop := s.lines.stop.set b false }).setBay b { free with
                 mode := .active, level := 1, blanking := 2, endCount := 0, openCount := 0, holdOff := none, stageOwed := false
                 lastStage := .discharging }).askBay b
               (.stage { entry := e, expected := .resting, new := .discharging })).raiseBay b .hold))
           ∧ (from_ = .resting → resumes { free with mode := .resting, restElapsed := 0 })
           ∧ (from_ = .retrying → ∀ k, x.retry = some k → resumes { free with
             mode := .retrying, retryWait := 0, recovery := 0, level := if k = .openConnection then 1 else 0
             fault := some { cause := k.cause, entered := .active } }))
         ∧ (x.releasePending = true → from_ ≠ .retrying → resumes { free with mode := from_.mode, fault := none }))

/-- SET_LEVEL_CAP replaces the cap of a configured bay; in ACTIVE the level falls to the cap, with blanking when it falls,
and a hold-off ends; in the other states the level stands (R69, R89, R92). -/
def Obligations.SetLevelCapLimitsTheLevel : Prop :=
  ∀ (p : Port) (s : State) (b : BayId) (cap : Nat), s.Takes p → 1 ≤ cap → cap ≤ 15 →
    let x := s.bay b
    let s1 := s.setSettings { s.settings with bays := s.settings.bays.set b { s.bayCfg b with cap := cap } }
    let answers := fun rep (t : State) => exec (.setLevelCap p b.1 cap) s = .next (t.answer p 0x23 rep)
    (x.mode = .unconfigured → answers (.refuse .bayUnavailable) s)
    ∧ (x.mode ≠ .unconfigured → x.mode ≠ .active → answers (.ok (.levels cap x.level)) s1)
    ∧ (x.mode = .active → x.level ≤ cap → answers (.ok (.levels cap x.level)) (s1.setBay b { x with holdOff := none }))
    ∧ (x.mode = .active → cap < x.level →
        answers (.ok (.levels cap cap)) (s1.setBay b { x with level := cap, blanking := 2, holdOff := none }))

/-- CLEAR_FAULT is refused for a bay that is not FAULTED, for a FAULTED bay while one of the five checks of R113 fails, and for
an unbound bay with cause LINK_LOST, on a RECEIVING link too (log entry 30); otherwise the fault goes, BAY attention is raised
with detail FAULT and the bay takes the state of R114, asking for the stage change that a fault taken at rest owes (R95). A bay
that goes to HELD by it raises detail FAULT alone (log entry 33). -/
def Obligations.ClearFaultChecksAndClears : Prop :=
  ∀ (p : Port) (s : State) (b : BayId), s.Takes p →
    let x := s.bay b
    let answers := fun rep (t : State) => exec (.clearFault p b.1) s = .next (t.answer p 0x24 rep)
    (x.mode ≠ .faulted → answers (.refuse .notFaulted) s)
    ∧ ∀ (f : FaultRec) (w : Sample) (rating : Nat), x.mode = .faulted → x.fault = some f → x.sample = some w →
      (s.bayCfg b).rating = some rating →
      let overcurrent := 2500 < w.i ∨ rating + rating / 4 ≤ w.i
      let hot := ∃ d, f.shutdown = some d ∧ (w.t < -40 ∨ 150 < w.t ∨ d - 5 ≤ w.t)
      let stands := x.releasePending = true ∨ x.link = .lost ∨ overcurrent ∨ hot
        ∨ (f.cause = .moduleFault ∧ w.loadFault = true) ∨ (f.cause = .linkLost ∧ x.binding = none)
      (stands → answers (.refuse .notClear) s)
      ∧ (¬ stands →
        let cleared := fun y => answers (.ok (.bayState y.mode)) ((s.setBay b y).raiseBay b .fault)
        let probe := if f.cause = .probeOpen ∨ f.cause = .probeInconsistent then
            { x.probe with step := 1, count := 0, results := [], attempt := 1, round := 2 }
          else { x.probe with step := 1, count := 0, results := [], attempt := 1 }
        (x.binding = none → cleared { x with fault := none, mode := if s.effectiveStop b then .stopped else .idle })
        ∧ (x.binding ≠ none → x.holds.empty = false →
            (f.entered = .probing → cleared { x with fault := none, mode := .held, heldFrom := some .probing, probe := probe })
            ∧ (f.entered ≠ .probing → cleared { x with fault := none, mode := .held, heldFrom := some .active }))
        ∧ (x.binding ≠ none → x.holds.empty = true →
            (f.entered = .probing → cleared { x with fault := none, mode := .probing, probe := probe })
            ∧ (f.entered ≠ .probing → x.stageOwed = false → cleared { x with
                fault := none, mode := .active, level := 1, blanking := 2, endCount := 0, openCount := 0, holdOff := none
                heldFrom := none })
            ∧ (f.entered ≠ .probing → x.stageOwed = true → ∀ e, x.binding = some e → answers (.ok (.bayState .active))
                (((s.setBay b { x with
                  fault := none, mode := .active, level := 1, blanking := 2, endCount := 0, openCount := 0, holdOff := none
                  heldFrom := none, stageOwed := false, lastStage := .discharging }).askBay b
                  (.stage { entry := e, expected := .resting, new := .discharging })).raiseBay b .fault))))

/-- The reports that take no grant answer the state as it stands and change nothing: STATUS (R191), READ_BAY (R70),
READ_CHAMBER (R133), READ_QUEUE (R152) with the admission conditions that fail (R139), READ_ZONE (R170) with every channel of the
zone (R155), and READ_SETTING of the six groups the Settings Store serves (R180). The order of the fields in an answer, where the
spec leaves it, and that an index sent with a group that has none is not looked at, are the model's (log entries 16, 22). -/
def Obligations.ReportsChangeNothing : Prop :=
  ∀ (p : Port) (s : State), s.Takes p →
    exec (.status p) s = .next (s.answer p 0x01 (.ok (.status s.lastStart
      (s.arb.lock.map (fun l => (l.holder, l.duration - l.elapsed))) (s.port p).overruns s.liveCount (s.port p).attnLine
      (s.port p).mask)))
    ∧ (∀ b : BayId,
        let x := s.bay b
        exec (.readBay p b.1) s = .next (s.answer p 0x25 (.ok (.bay
          { mode := x.mode, heldFrom := x.heldFrom, binding := x.binding, releasePending := x.releasePending, level := x.level
            cap := (s.bayCfg b).cap, holds := x.holds, stopLine := s.lines.stop.get b, softStop := x.softStop
            effectiveStop := match (s.bayCfg b).combine with
              | .or => s.lines.stop.get b || x.softStop
              | .and => s.lines.stop.get b && x.softStop
            link := x.link, periods := x.periods, step := x.probe.step, attempt := x.probe.attempt, round := x.probe.round
            last := x.probe.last, cause := x.fault.map (fun f => f.cause), entered := x.fault.map (fun f => f.entered)
            sample := x.sample, limit := x.limit, repeats := x.repeats, discards := x.discards, extensions := x.extensions
            faultCount := x.faultCount }))))
    ∧ (let c := s.chamber
       exec (.readChamber p) s = .next (s.answer p 0x32 (.ok (.chamber
          { state := c.state, purgeFault := c.purgeFault, doorClosed := s.lines.doorClosed, loaded := c.loaded
            throatEmptyLine := s.lines.throatEmpty, a := c.a, b := c.b, condition := c.condition, eff := c.eff, excess := c.excess
            confirm := c.confirm, purgeTimer := c.purgeTimer, nitrogen := c.nitrogen, flood := c.flood, permit := c.permit
            plantPermit := s.lines.plantPermit, shredPermit := c.shredPermit }))))
    ∧ (let f := s.feed
       let some_ := fun g => (List.finRange 256).any (fun i => (s.record i).any (fun r => decide (r.stage = g)))
       exec (.readQueue p) s = .next (s.answer p 0x3B (.ok (.queue
          { queue := f.queue.map (fun e =>
              { slot := e.slot, tag := e.tag
                stage := (s.record e.slot).bind (fun r => if r.tag = e.tag then some r.stage else none) })
            gate := f.gate, gateOpen := f.gateOpen, gateTimer := f.gateTimer.map (fun x => x.elapsed), shred := f.shred
            passPending := f.passPending, shredTimer := f.shredTimer.map (fun x => x.elapsed), path := f.path
            faults := f.faults, memory := f.memory, block := f.block
            failing :=
              [ !f.queue.head?.any (fun e =>
                  (s.record e.slot).any (fun r => decide (r.tag = e.tag) && decide (r.stage = .queued))),
                decide (s.chamber.state ≠ .inert), !s.lines.throatEmpty,
                f.faults.gateTimeout || f.faults.unexpectedPass || f.faults.shredTimeout, some_ .shredUnconfirmed,
                f.block.z4 || f.block.z5 || f.block.z6, f.gate.isSome || f.gateOpen,
                f.shred.isSome || some_ .inShredder ] }))))
    ∧ (∀ z : ZoneId,
        let f := (s.zone z).flame
        let chan := fun (c : Chan) (kind : ChanKind) (source : Nat) (age : Option Nat) =>
          ({ kind := kind, source := source, state := c.state, reading := c.reading, alarmRun := c.alarmRun
             warnRun := c.warnRun, quietRun := c.quietRun, age := age, scans := none } : ChanView)
        exec (.readZone p z.1) s = .next (s.answer p 0x41 (.ok (.zone
          { state := (s.zone z).state, degraded := (s.zone z).degraded, sweepWaiting := (s.zone z).sweepWaiting
            channels :=
              { kind := .flame, source := z.1, state := if f.alarmLevel then .alarmLevel else .normal, reading := none
                alarmRun := 0, warnRun := 0, quietRun := 0, age := none, scans := some (f.last, f.previous) }
              :: ((List.finRange 28).filterMap (fun d => (s.settings.detectors.get d).bind (fun m =>
                    if m.zone = z then
                      some (chan (s.detector d).chan (match m.kind with | .heat => .heat | .gas => .gas) d.1
                        (some (s.detector d).age))
                    else none))
                ++ (List.finRange 12).filterMap (fun b =>
                    if b.1 / 3 = z.1 then (s.bay b).pack.map (fun c => chan c .packTemp b.1 none) else none)) }))))
    ∧ (∀ c : ClassId, exec (.readSetting p 0 ⟨1, c.1⟩) s = .next (s.answer p 0x56
        (.ok (.classReport (s.settings.classes.get c) (s.settings.useCount.get c)))))
    ∧ (∀ b : BayId, exec (.readSetting p 1 ⟨1, b.1⟩) s = .next (s.answer p 0x56
        (.ok (.bayReport (s.bayCfg b) ((s.bayCfg b).rating.map (fun n => n + n / 4))))))
    ∧ (∀ z : ZoneId, exec (.readSetting p 2 ⟨1, z.1⟩) s = .next (s.answer p 0x56 (.ok (.zoneCfg (s.zoneCfg z)))))
    ∧ (∀ given n, given ≤ 1 → exec (.readSetting p 3 ⟨given, n⟩) s = .next (s.answer p 0x56 (.ok (.chamberCfg s.settings.chamber)))
        ∧ exec (.readSetting p 4 ⟨given, n⟩) s = .next (s.answer p 0x56 (.ok (.detectorReport s.settings.detectors.1
            ((List.finRange 7).map (fun z => (s.mappedTo z).length)))))
        ∧ exec (.readSetting p 5 ⟨given, n⟩) s = .next (s.answer p 0x56 (.ok (.timing s.settings.timing))))

/-! ### The bays' writes (chapters 1, 3 and 4) -/

/-- A waiting write of a bay channel at its grant leaves the channel's list, is made when its slot still holds the live
record it names (and, for a stage change, in the expected stage), and otherwise changes nothing; then the table passes on,
in the same step by the model's choice (log entry 4) (R8, R23, R33, R34, R81, R96). -/
def Obligations.BayWritesAreMadeAtTheirGrants : Prop :=
  ∀ (s : State) (b : BayId) (rest : List BayWrite), s.running = true → s.arb.access = .engine (.bay b) →
    let popped := s.setBay b { s.bay b with writes := rest }
    (∀ e, (s.bay b).writes = .carry e :: rest →
      (∀ r, s.record e.slot = some r → r.tag = e.tag → exec (.energyCarry b) s = .next
        (((popped.setRecord e.slot (some { r with energy := min 999999 (r.energy + 1) })).setTallies
          { s.tallies with energyTotal := min 4294967295 (s.tallies.energyTotal + 1) }).endGrant 2))
      ∧ ((∀ r, s.record e.slot = some r → r.tag ≠ e.tag) → exec (.energyCarry b) s = .next (popped.endGrant 2)))
    ∧ (∀ e f, (s.bay b).writes = .flag e f :: rest →
      (∀ r, s.record e.slot = some r → r.tag = e.tag →
        let flags := match f with
          | .isolationFault => { r.flags with isolationFault := true }
          | .overtemp => { r.flags with overtemp := true }
          | .openConnection => { r.flags with openConnection := true }
        exec (.hazardFlagWrite b) s = .next ((popped.setRecord e.slot (some { r with flags := flags })).endGrant 2))
      ∧ ((∀ r, s.record e.slot = some r → r.tag ≠ e.tag) → exec (.hazardFlagWrite b) s = .next (popped.endGrant 2)))
    ∧ (∀ w, (s.bay b).writes = .stage w :: rest →
      (∀ r, s.record w.entry.slot = some r → r.tag = w.entry.tag → r.stage = w.expected → w.reboundLimit = false →
        let r1 := { r with
          stage := w.new, rest := (w.rest.map Prod.fst).orElse (fun _ => r.rest)
          rebounds := (w.rest.map Prod.snd).getD r.rebounds }
        exec (.stageChangeWrite b) s = .next ((popped.setRecord w.entry.slot (some r1)).endGrant 2))
      ∧ ((∀ r, s.record w.entry.slot = some r → r.tag = w.entry.tag → r.stage ≠ w.expected) →
        exec (.stageChangeWrite b) s = .next (popped.endGrant 2)))

/-- The unbinding grant, in the order of R64: the waiting carries of the binding and the rounding reach the record, which
takes its new stage and loses its bay field; the channel is unbound, FAULTED when it was FAULTED and else by its effective
stop; its pack-temperature channel leaves the zone's vote. A write that matches no more changes nothing (R8, R23, R64, R82,
R97, R98, R155). The table passes on in the same step (log entry 4). -/
def Obligations.UnbindingEndsTheBinding : Prop :=
  ∀ (s : State) (b : BayId) (w : StageWrite) (rest : List BayWrite), s.running = true →
    s.arb.access = .engine (.bay b) → (s.bay b).writes = .unbind w :: rest →
    let x := s.bay b
    let e := w.entry
    let popped := s.setBay b { x with writes := rest }
    ((x.binding ≠ some e ∨ ∀ r, s.record e.slot = some r → r.tag = e.tag → r.stage ≠ w.expected) →
      exec (.unbindingGrant b) s = .next (popped.endGrant 2))
    ∧ (x.binding = some e → ∀ r, s.record e.slot = some r → r.tag = e.tag → r.stage = w.expected →
      let n := rest.count (.carry e) + if 18000000 ≤ x.frac then 1 else 0
      let freed := { r with
        stage := w.new, bay := none, energy := min 999999 (r.energy + n)
        rest := (w.rest.map Prod.fst).orElse (fun _ => r.rest), rebounds := (w.rest.map Prod.snd).getD r.rebounds
        flags := if w.reboundLimit then { r.flags with reboundLimit := true } else r.flags }
      let y := { x with
        mode := if x.mode = .faulted then .faulted else if s.effectiveStop b then .stopped else .idle
        writes := rest.filter (fun v => decide (v ≠ .carry e))
        binding := none, copies := none, level := 0, holds := {}, heldFrom := none, releasePending := false
        faultCount := 0, frac := 0, blanking := 0, holdOff := none, endCount := 0, restElapsed := 0
        rebounds := 0, isoDerate := false, limit := none, warning := false, shutdown := false, openCount := 0
        retry := none, retryWait := 0, recovery := 0, lastStage := .probing, stageOwed := false, pack := none }
      exec (.unbindingGrant b) s = .next
        ((((((s.setRecord e.slot (some freed)).setTallies
          { s.tallies with energyTotal := min 4294967295 (s.tallies.energyTotal + n) }).setBay b y).vote
            (bayZone b)).raiseBay b .release).endGrant 2))

/-! ### Frames on the bay links (chapters 3 to 5) -/

/-- A frame on a bay link of a running part that brings no sample: a frame that fails the checks of R58 is counted and
answered NAK with the command held; in UNCONFIGURED every accepted frame is answered STALL; a repeat is counted and
answered as its state answers. Nothing else of the channel changes (R51, R58, R59, R63). That a frame
which fails its checks is answered NAK in UNCONFIGURED too (log entry 31), and that bytes before the sync byte are ignored (log
entry 14), are the model's choices. -/
def Obligations.FramesWithoutASampleAreAnswered : Prop :=
  ∀ (s : State) (b : BayId) (bytes : List Byte), s.running = true → (0xC3 : Byte) ∈ bytes →
    let x := s.bay b
    let level := if x.mode = .active ∨ x.mode = .retrying then x.level else 0
    let step := if x.mode = .probing then x.probe.step else 0
    let stalls := x.mode = .unconfigured ∨ x.mode = .stopped ∨ x.mode = .held ∨ x.mode = .faulted
    (readSample b (fromSync bytes) = none → exec (.sampleFrame b bytes) s = .next
      (s.setBay b { x with
        discards := min 65535 (x.discards + 1), sent := some { kind := .nak, level := level, step := step } }))
    ∧ (∀ f, readSample b (fromSync bytes) = some f →
      (x.mode = .unconfigured → exec (.sampleFrame b bytes) s = .next
        (s.setBay b { x with sent := some { kind := .stall, level := 0, step := 0 } }))
      ∧ (x.mode ≠ .unconfigured → x.toggle = some f.toggle → exec (.sampleFrame b bytes) s = .next
        (s.setBay b { x with
          repeats := min 65535 (x.repeats + 1)
          sent := some { kind := if stalls then .stall else .ack, level := level, step := step } })))

/-- A fresh frame becomes the latest sample, V clamped to 9000 (that the sample holds the clamped V is log entry 23). For a bound
bay its energy over the gap is added to F; each whole watt-hour is asked for as a carry, ahead of the other writes of the frame, up
to 65,535 waiting carries; an unbound bay integrates nothing (R59, R60, R77 to R80). A frame on a LOST link restores it with LINK
attention, and an unbound bay FAULTED with LINK_LOST leaves FAULTED at its fresh frame (R62, R109), also where its link was
restored before it was unbound (log entry 30). Bytes before the sync byte are ignored (log entry 14). -/
def Obligations.FreshFramesCountEnergy : Prop :=
  ∀ (s : State) (b : BayId) (bytes : List Byte) (f : SampleFrame), s.running = true →
    readSample b (fromSync bytes) = some f →
    let x := s.bay b
    x.mode ≠ .unconfigured → x.toggle ≠ some f.toggle →
    let v := min 9000 f.v
    let g := if x.link = .lost then 1 else max 1 x.periods
    let taken := fun t : State => exec (.sampleFrame b bytes) s = .next t
      ∧ (t.bay b).sample = some { v := v, i := f.i, t := f.t, comparator := f.comparator, loadFault := f.loadFault }
      ∧ (t.bay b).toggle = some f.toggle ∧ (t.bay b).periods = 0 ∧ (t.bay b).link = .receiving
      ∧ t.slots = s.slots ∧ t.tallies = s.tallies
      ∧ (x.link = .lost → ∀ p, ((t.port p).attn.bays.get b).getLsbD 1 = true)
    (∀ e, x.binding = some e →
      let total := x.frac + if 2500 < f.i then 0 else v * f.i * g
      let n := min (total / 36000000) (65535 - x.writes.countP BayWrite.isCarry)
      ∃ t more, taken t ∧ (t.bay b).frac = total % 36000000
        ∧ (t.bay b).writes = x.writes ++ List.replicate n (.carry e) ++ more ∧ (∀ w ∈ more, w.isCarry = false))
    ∧ (x.binding = none →
      ∃ t, taken t ∧ (t.bay b).frac = x.frac ∧ (t.bay b).writes = x.writes ∧ (t.bay b).binding = none
        ∧ ∀ d rating, x.mode = .faulted → x.fault = some d → d.cause = .linkLost →
          (s.bayCfg b).rating = some rating → f.loadFault = false → f.i ≤ 2500 → f.i < rating + rating / 4 →
          let stop := match (s.bayCfg b).combine with
            | .or => s.lines.stop.get b || x.softStop
            | .and => s.lines.stop.get b && x.softStop
          (t.bay b).mode = (if stop then .stopped else .idle) ∧ (t.bay b).fault = none
            ∧ (t.bay b).sent = some { kind := if stop then .stall else .ack, level := 0, step := 0 })

/-- A fresh sample that no protection acts on. In ACTIVE outside blanking and hold-off it moves the level by one step of R90, and
the answer of the same frame carries it; a change of the level sets blanking, a reduction starts a hold-off and resets the
open-connection count (R89, R91, R105); a blanked sample and a hold-off let no step be taken (R89, R91); the 64th low sample ends
the discharge (R93, R94). In PROBING it settles the step or gives its result (R71), and the answer names the step then in progress;
the third result gives the outcome of Table 3-5: ACTIVE, with ISOLATION_FAULT and the derated limit for a leak (R72, R86), the next
attempt, the fault of round 1, or the give-up in round 2 (R73). The pack-temperature channel takes the temperature after the answer
(R63, R78, R88). Bytes before the sync byte (log entry 14) and the probe left by a third failed attempt (log entry 11) are as the
model has them. -/
def Obligations.FreshFramesRegulateAndProbe : Prop :=
  ∀ (s : State) (b : BayId) (bytes : List Byte) (f : SampleFrame) (e : Entry) (c : Copies) (k : ClassCfg) (rating : Nat),
    s.running = true → readSample b (fromSync bytes) = some f →
    let x := s.bay b
    x.toggle ≠ some f.toggle → x.binding = some e → x.copies = some c → s.settings.classes.get c.cls = some k →
    (s.bayCfg b).rating = some rating → x.releasePending = false → x.warning = false →
    -40 ≤ f.t → f.t < k.warnT → f.t < k.shutT → f.t ≤ 150 → f.loadFault = false → f.i ≤ 2500 → f.i < rating + rating / 4 →
    let cell := min 9000 f.v * 100 / c.cells
    let stepped := fun limit : Nat => if limit < f.i then x.level - 1
      else if f.i < limit * 7 / 8 ∧ k.endV < cell ∧ x.level < (s.bayCfg b).cap then x.level + 1 else x.level
    (∀ limit, x.mode = .active → x.limit = some limit → x.blanking = 0 → x.holdOff = none → 5 ≤ f.i → 1 ≤ (s.bayCfg b).nOpen →
      (cell ≤ k.endV → x.endCount + 1 < 64) →
      let level := stepped limit
      ∃ t, exec (.sampleFrame b bytes) s = .next t
        ∧ (t.bay b).sent = some { kind := .ack, level := level, step := 0 }
        ∧ (t.bay b).endCount = if cell ≤ k.endV then x.endCount + 1 else 0)
    ∧ (x.mode = .probing → x.probe.count < 2 →
      ∃ t, exec (.sampleFrame b bytes) s = .next t
        ∧ (t.bay b).probe = { x.probe with count := x.probe.count + 1 }
        ∧ (t.bay b).sent = some { kind := .ack, level := 0, step := x.probe.step })
    ∧ (x.mode = .probing → x.probe.count = 2 → x.probe.step < 3 →
      ∃ t, exec (.sampleFrame b bytes) s = .next t
        ∧ (t.bay b).probe = { x.probe with
            step := x.probe.step + 1, count := 0, results := x.probe.results ++ [f.comparator] }
        ∧ (t.bay b).sent = some { kind := .ack, level := 0, step := x.probe.step + 1 })
    ∧ (let asks := fun (u : State) (l : List BayWrite) =>
        (u.bay b).writes.filter (fun w => !w.isCarry) = x.writes.filter (fun w => !w.isCarry) ++ l
      let gives := fun (detail : Nat) (kind : AnswerKind) (level step : Nat) (holds : State → Prop) =>
        ∃ u, exec (.sampleFrame b bytes) s = .next (u.packReading b f.t) ∧ holds u
          ∧ (u.bay b).sent = some { kind := kind, level := level, step := step }
          ∧ (detail < 9 → ∀ p, ((u.port p).attn.bays.get b).getLsbD detail = true)
      let count := if cell ≤ k.endV then x.endCount + 1 else 0
      let stage := fun new => BayWrite.stage { entry := e, expected := .probing, new := new }
      (x.mode = .active → 1 ≤ (s.bayCfg b).nOpen →
        (count < 64 →
          (0 < x.blanking → gives 9 .ack x.level 0 (fun u => u.bay b = { (u.bay b) with
            mode := .active, level := x.level, blanking := x.blanking - 1, endCount := count, holdOff := x.holdOff }))
          ∧ (∀ n, x.blanking = 0 → x.holdOff = some n → 5 ≤ f.i → gives 9 .ack x.level 0 (fun u => u.bay b = { (u.bay b) with
              mode := .active, level := x.level, blanking := 0, endCount := count, holdOff := some n }))
          ∧ (∀ limit, x.limit = some limit → x.blanking = 0 → x.holdOff = none → 5 ≤ f.i →
              let level := stepped limit
              gives 9 .ack level 0 (fun u => u.bay b = { (u.bay b) with
                mode := .active, level := level, blanking := if level = x.level then 0 else 2, endCount := count
                holdOff := if limit < f.i then some (s.bayCfg b).toff else none
                openCount := if limit < f.i ∨ 1 ≤ x.level then 0 else x.openCount })))
        ∧ (64 ≤ count → (0 < x.blanking ∨ x.level = 0 ∨ 5 ≤ f.i) → gives 4 .ack 0 0 (fun u => u.bay b = { (u.bay b) with
            mode := .resting, level := 0, holdOff := none, blanking := 0, restElapsed := 0, endCount := 0, lastStage := .resting }
            ∧ asks u [.stage { entry := e, expected := .discharging, new := .resting }])))
      ∧ (∀ r1 r2, x.mode = .probing → x.probe.count = 2 → x.probe.step = 3 → x.probe.results = [r1, r2] →
        let outcome : ProbeOutcome := match r1, r2, f.comparator with
          | false, true, true => .normal
          | true, true, true => .opened
          | false, false, _ => .leakNeg
          | false, true, false => .leakPos
          | true, false, _ | true, true, false => .inconsistent
        let enters := fun (u : State) => u.bay b = { (u.bay b) with
          mode := .active, level := 1, blanking := 2, endCount := 0, openCount := 0, holdOff := none, lastStage := .discharging }
          ∧ (u.bay b).probe.last = some outcome
        let base := min rating (k.cRate * c.capacity / 10)
        let faults := fun (u : State) => u.bay b = { (u.bay b) with
          mode := .faulted, level := 0, binding := some e, releasePending := decide (x.probe.round ≠ 1)
          probe := { x.probe with step := 1, count := 0, results := [], last := some outcome }
          fault := some { cause := if outcome = .opened then .probeOpen else .probeInconsistent, entered := .probing
                          shutdown := none } }
        (outcome = .normal → gives 3 .ack 1 0 (fun u => enters u ∧ asks u [stage .discharging]))
        ∧ (outcome = .leakNeg ∨ outcome = .leakPos → gives 3 .ack 1 0 (fun u => enters u
            ∧ (u.bay b).isoDerate = true ∧ (u.bay b).limit = some (max 10 ((if c.damaged then base / 2 else base) / 2))
            ∧ asks u [.flag e .isolationFault, stage .discharging]))
        ∧ (outcome = .opened ∨ outcome = .inconsistent →
            (x.probe.attempt < 3 → gives 3 .ack 0 1 (fun u => (u.bay b).mode = .probing ∧ asks u []
              ∧ (u.bay b).probe = { x.probe with
                  step := 1, count := 0, results := [], attempt := x.probe.attempt + 1, last := some outcome }))
            ∧ (3 ≤ x.probe.attempt → x.probe.round = 1 → gives 3 .stall 0 0 (fun u => faults u ∧ asks u []))
            ∧ (3 ≤ x.probe.attempt → x.probe.round ≠ 1 → gives 3 .stall 0 0 (fun u => faults u
                ∧ asks u [.unbind { entry := e, expected := .probing, new := .waiting }])))))

/-- The first test of R101 that a fresh sample meets gives the cause of the fault: SENSOR, MODULE, OVERCURRENT, OVERTEMP (but in an
overtemperature retry), and in ACTIVE the Nth low current, OPEN_CONNECTION, with its hazard flag write (R105). A bound bay goes to
FAULTED with it: level 0, the fault count one higher, the state it was entered from (the held-from state of a HELD bay) and the
class's shutdown temperature kept, the frame answered STALL; or, for a retry-capable cause in ACTIVE with fault mode RETRY and a
count of at most 3, to RETRYING. The fifth fault of the binding asks for its unbinding (R102, R104, R106 to R111). A bay IDLE or
STOPPED takes MODULE and OVERCURRENT, unbound and uncounted. Bytes before the sync byte are ignored (log entry 14). -/
def Obligations.FaultsAreTakenInTheirOrder : Prop :=
  ∀ (s : State) (b : BayId) (bytes : List Byte) (f : SampleFrame) (rating : Nat),
    s.running = true → readSample b (fromSync bytes) = some f →
    let x := s.bay b
    x.toggle ≠ some f.toggle → (s.bayCfg b).rating = some rating →
    let bad := f.t < -40 ∨ 150 < f.t
    let overI := 2500 < f.i ∨ rating + rating / 4 ≤ f.i
    let answered := fun (t : State) (kind : AnswerKind) (level : Nat) => exec (.sampleFrame b bytes) s = .next (t.packReading b f.t)
      ∧ (t.bay b).sent = some { kind := kind, level := level, step := 0 }
    let noticed := fun t : State => ∀ p, ((t.port p).attn.bays.get b).getLsbD 6 = true
    (∀ (e : Entry) (c : Copies) (k : ClassCfg), x.binding = some e → x.copies = some c → s.settings.classes.get c.cls = some k →
      x.mode = .probing ∨ x.mode = .active ∨ x.mode = .resting ∨ x.mode = .retrying ∨ (x.mode = .held ∧ x.heldFrom ≠ none) →
      let n := min 65535 (x.faultCount + 1)
      let entered := match x.mode, x.heldFrom with
        | .held, some r => r.mode
        | m, _ => m
      let latches := fun cause => ∃ t, answered t .stall 0 ∧ noticed t ∧ (t.bay b).mode = .faulted ∧ (t.bay b).level = 0
        ∧ (t.bay b).fault = some { cause := cause, entered := entered, shutdown := some (k.shutT : Int) }
        ∧ (t.bay b).faultCount = n ∧ (t.bay b).binding = some e ∧ (t.bay b).retry = none ∧ (t.bay b).holdOff = none
        ∧ (t.bay b).holds = x.holds
        ∧ (n = 5 → x.releasePending = false → (t.bay b).releasePending = true
            ∧ (t.bay b).writes.getLast? = some (.unbind { entry := e, expected := x.lastStage, new := .waiting }))
      let retries := fun cause (kind : RetryKind) (level : Nat) => ∃ t, answered t .ack level ∧ noticed t
        ∧ t.bay b = { (t.bay b) with
            mode := .retrying, retry := some kind, level := level, retryWait := 0, recovery := 0, holdOff := none, blanking := 0
            faultCount := n, binding := some e, fault := some { cause := cause, entered := .active, shutdown := none } }
      let may := (s.bayCfg b).mode = .retry ∧ x.mode = .active ∧ n ≤ 3
      (bad → latches .sensor)
      ∧ (¬ bad → f.loadFault = true → latches .moduleFault)
      ∧ (¬ bad → f.loadFault = false → overI → (¬ may → latches .overcurrent) ∧ (may → retries .overcurrent .overcurrent 0))
      ∧ (¬ bad → f.loadFault = false → ¬ overI → (k.shutT : Int) ≤ f.t → ¬ (x.mode = .retrying ∧ x.retry = some .overtemp) →
          (¬ may → latches .overtemp) ∧ (may → retries .overtemp .overtemp 0))
      ∧ (¬ bad → f.loadFault = false → ¬ overI → f.t < k.shutT → x.mode = .active → x.blanking = 0 → 1 ≤ x.level → f.i < 5 →
          (s.bayCfg b).nOpen ≤ x.openCount + 1 →
          (¬ may → latches .openConnection) ∧ (may → retries .openConnection .openConnection 1)
          ∧ ∃ t, exec (.sampleFrame b bytes) s = .next t ∧ (t.bay b).openCount = 0
            ∧ (t.bay b).writes.count (.flag e .openConnection) = x.writes.count (.flag e .openConnection) + 1))
    ∧ (x.binding = none → x.mode = .idle ∨ x.mode = .stopped →
      let unbound := fun cause => ∃ t, answered t .stall 0 ∧ noticed t ∧ (t.bay b).mode = .faulted ∧ (t.bay b).binding = none
        ∧ (t.bay b).fault = some { cause := cause, entered := x.mode, shutdown := none } ∧ (t.bay b).faultCount = x.faultCount
      (f.loadFault = true → unbound .moduleFault)
      ∧ (f.loadFault = false → overI → unbound .overcurrent)
      ∧ (f.loadFault = false → ¬ overI → ∃ t, answered t (if x.mode = .idle then .ack else .stall) 0 ∧ (t.bay b).mode = x.mode
          ∧ (t.bay b).fault = x.fault))

/-- What a fresh sample of a bound bay moves beside its faults: the overtemperature warning, with TEMP attention and the current
limit computed anew (R86, R103), and the shutdown condition, whose start asks for OVERTEMP on the record (R104), in every bound
state; the open-connection count in ACTIVE (R105); the retries that a sample completes, with RETRY attention (R110, R111); and,
after the answer, the pack-temperature channel, with the vote of its zone (R106, R156, R158, R159, R162; that a further invalid
temperature in FAULT zeroes the runs is log entry 10). Bytes before the sync byte are ignored (log entry 14). -/
def Obligations.SamplesAreTrackedAndRetriesEnd : Prop :=
  (∀ (s : State) (b : BayId) (bytes : List Byte) (f : SampleFrame) (e : Entry) (c : Copies) (k : ClassCfg) (rating : Nat),
    s.running = true → readSample b (fromSync bytes) = some f →
    let x := s.bay b
    x.mode ≠ .unconfigured → x.toggle ≠ some f.toggle → x.binding = some e → x.copies = some c →
    s.settings.classes.get c.cls = some k → (s.bayCfg b).rating = some rating →
    let good := -40 ≤ f.t ∧ f.t ≤ 150
    let after := fun (on : Bool) (level : Int) =>
      if good ∧ level ≤ f.t then true else if good ∧ f.t < level - 5 then false else on
    let half := fun (on : Bool) (n : Nat) => if on then n / 2 else n
    ∃ u : State, exec (.sampleFrame b bytes) s = .next (u.packReading b f.t)
      ∧ (let y := u.bay b
         y.warning = after x.warning k.warnT ∧ y.shutdown = after x.shutdown k.shutT
         ∧ (y.warning ≠ x.warning → (∀ p, ((u.port p).attn.bays.get b).getLsbD 5 = true)
            ∧ y.limit = some (max 10 (half y.warning (half y.isoDerate (half c.damaged (min rating (k.cRate * c.capacity / 10)))))))
         ∧ (y.warning = x.warning → y.isoDerate = x.isoDerate → x.mode ≠ .probing → y.limit = x.limit)
         ∧ y.writes.count (.flag e .overtemp) =
            x.writes.count (.flag e .overtemp) + (if y.shutdown = true ∧ x.shutdown = false then 1 else 0)
         ∧ (good → f.loadFault = false → f.i ≤ 2500 → f.i < rating + rating / 4 →
            (x.mode = .active → f.t < k.shutT → (∀ l, x.limit = some l → 5 ≤ l) →
              (0 < x.blanking → y.openCount = x.openCount)
              ∧ (x.blanking = 0 → 1 ≤ x.level → 5 ≤ f.i → 1 ≤ (s.bayCfg b).nOpen → y.openCount = 0)
              ∧ (x.blanking = 0 → 1 ≤ x.level → f.i < 5 → x.openCount + 1 < (s.bayCfg b).nOpen →
                  y.openCount = x.openCount + 1))
            ∧ (x.mode = .retrying → x.releasePending = false →
              let completes := y = { y with
                  mode := .active, level := 1, blanking := 2, endCount := 0, openCount := 0, holdOff := none, fault := none
                  retry := none, retryWait := 0, recovery := 0 }
                ∧ y.sent = some { kind := .ack, level := 1, step := 0 }
                ∧ ∀ p, ((u.port p).attn.bays.get b).getLsbD 7 = true
              let goesOn := fun n => y.mode = .retrying ∧ y.retry = x.retry ∧ y.recovery = n ∧ y.fault = x.fault
                ∧ y.sent = some { kind := .ack, level := x.level, step := 0 }
              (x.retry = some .overtemp → (f.t < (k.shutT : Int) - 5 → completes)
                ∧ ((k.shutT : Int) - 5 ≤ f.t → goesOn x.recovery))
              ∧ (x.retry = some .openConnection → f.t < k.shutT →
                let n := if 5 ≤ f.i then x.recovery + 1 else 0
                ((s.bayCfg b).nOpen ≤ n → completes) ∧ (n < (s.bayCfg b).nOpen → goesOn n))
              ∧ (x.retry = some .overcurrent → f.t < k.shutT → goesOn x.recovery)))))
  ∧ ∀ (s : State) (b : BayId) (v : Int),
    let x := s.bay b
    let z := bayZone b
    let w := (s.settings.zones.get z).w
    let alarm := (s.settings.zones.get z).heatAlarm
    (x.pack = none → s.packReading b v = s)
    ∧ ∀ (old : Chan) (c : Copies) (k : ClassCfg), x.pack = some old → x.copies = some c →
      s.settings.classes.get c.cls = some k →
      let run := fun (n : Nat) (hit : Bool) => if hit then min 15 (n + 1) else 0
      let counted := { old with
        reading := some v, alarmRun := run old.alarmRun (decide (alarm ≤ v))
        warnRun := run old.warnRun (decide ((k.shutT : Int) ≤ v))
        quietRun := run old.quietRun (decide (v < (k.shutT : Int) - 5 ∧ v < alarm)) }
      let judged := fun g : ChanState => match g with
        | .normal => if w ≤ counted.alarmRun then .alarmLevel else if w ≤ counted.warnRun then .warn else .normal
        | .warn => if w ≤ counted.alarmRun then .alarmLevel else if w ≤ counted.quietRun then .normal else .warn
        | .alarmLevel => if w ≤ counted.quietRun then .normal else .alarmLevel
        | .fault => .fault
      let gives := fun new : Chan =>
        (new.state = old.state → s.packReading b v = s.setBay b { x with pack := some new })
        ∧ (new.state ≠ old.state →
          let u := s.packReading b v
          (u.bay b).pack = some new ∧ u.Voted z ∧ u.slots = s.slots ∧ u.tallies = s.tallies
            ∧ ∀ y, y ≠ z → u.zone y = s.zone y)
      (v < -40 ∨ 150 < v → gives { old with state := .fault, alarmRun := 0, warnRun := 0, quietRun := 0, good := 0 })
      ∧ (-40 ≤ v → v ≤ 150 →
        (old.state ≠ .fault → gives { counted with state := judged old.state })
        ∧ (old.state = .fault → old.good = 0 → gives { counted with good := 1 })
        ∧ (old.state = .fault → 1 ≤ old.good → gives { counted with state := judged .normal, good := 0 }))

/-- The ends of a bay's times: the link timeout in every state, with the probe reset (R74), the fault count and the fault
unbinding of the fifth fault (R61, R107 to R109); the hold-off (R91), the rest with its three outcomes (R96 to R98) and the wait
of an overcurrent retry (R110). That each row takes its one timer to its end at once is the model's choice (log entry 2), as are
the stage change that a second loss at rest leaves owed (log entry 12) and the count 0 of a reset probe (log entry 11). -/
def Obligations.BayTimesEnd : Prop :=
  ∀ (s : State) (b : BayId), s.running = true →
    let x := s.bay b
    let lost := { x with link := .lost, periods := s.settings.timing.link, toggle := none }
    let faulted := { lost with
      mode := .faulted, level := 0, holdOff := none, blanking := 0, endCount := 0, restElapsed := 0, heldFrom := none
      retry := none, retryWait := 0, recovery := 0 }
    let active := { x with
      mode := .active, level := 1, blanking := 2, endCount := 0, openCount := 0, holdOff := none, heldFrom := none }
    (x.link = .receiving →
      (x.mode = .faulted → exec (.linkTimeout b) s = .next (((s.setBay b lost).raiseBay b .link).packLost b))
      ∧ (x.mode = .idle ∨ x.mode = .stopped → x.binding = none → exec (.linkTimeout b) s = .next
          ((((s.setBay b lost).raiseBay b .link).setBay b { faulted with
            fault := some { cause := .linkLost, entered := x.mode, shutdown := none }, stageOwed := false }).packLost b))
      ∧ (∀ (e : Entry) (c : Copies) (k : ClassCfg) (g : RunState), x.mode = g.mode ∨ (x.mode = .held ∧ x.heldFrom = some g) →
          x.binding = some e → x.copies = some c → s.settings.classes.get c.cls = some k →
          let latched := { faulted with
            fault := some { cause := .linkLost, entered := g.mode, shutdown := some (k.shutT : Int) }
            faultCount := min 65535 (x.faultCount + 1), stageOwed := x.stageOwed || decide (g = .resting)
            probe := if g = .probing then { x.probe with step := 1, count := 0, results := [], attempt := 1 } else x.probe }
          let linked := (s.setBay b lost).raiseBay b .link
          (x.faultCount ≠ 4 ∨ x.releasePending = true →
            exec (.linkTimeout b) s = .next ((linked.setBay b latched).packLost b))
          ∧ (x.faultCount = 4 → x.releasePending = false → exec (.linkTimeout b) s = .next
            (((linked.setBay b { latched with releasePending := true, lastStage := .waiting }).askBay b
              (.unbind { entry := e, expected := x.lastStage, new := .waiting })).packLost b))))
    ∧ (∀ n limit w, x.mode = .active → x.holdOff = some n → x.limit = some limit → x.sample = some w →
        (limit < w.i → exec (.holdOffExpiry b) s = .next (s.setBay b { x with
          level := x.level - 1, blanking := if x.level = 0 then x.blanking else 2
          holdOff := some (s.bayCfg b).toff, openCount := 0, extensions := min 65535 (x.extensions + 1) }))
        ∧ (w.i ≤ limit → exec (.holdOffExpiry b) s = .next (s.setBay b { x with holdOff := none })))
    ∧ (∀ e c k w, x.mode = .resting → x.releasePending = false → x.binding = some e → x.copies = some c →
        s.settings.classes.get c.cls = some k → x.sample = some w →
        let v := min 9000 w.v
        let cell := v * 100 / c.cells
        let limit := s.settings.timing.rebound
        let released := fun new => { x with
          restElapsed := k.restSec * 100, releasePending := true, level := 0, holdOff := none, lastStage := new }
        (cell ≤ k.safeV → exec (.restEnd b) s = .next (((s.setBay b (released .discharged)).askBay b
          (.unbind { entry := e, expected := .resting, new := .discharged, rest := some (v, x.rebounds) })).raiseBay
            b .stage))
        ∧ (k.safeV < cell → x.rebounds < limit → exec (.restEnd b) s = .next (((s.setBay b { active with
            restElapsed := k.restSec * 100, rebounds := x.rebounds + 1, lastStage := .discharging }).askBay b
          (.stage { entry := e, expected := .resting, new := .discharging, rest := some (v, x.rebounds + 1) })).raiseBay
            b .stage))
        ∧ (k.safeV < cell → limit ≤ x.rebounds → exec (.restEnd b) s = .next (((s.setBay b (released .waiting)).askBay b
          (.unbind { entry := e, expected := .resting, new := .waiting, rest := some (v, x.rebounds)
                     reboundLimit := true })).raiseBay b .stage)))
    ∧ (x.mode = .retrying → x.retry = some .overcurrent → x.releasePending = false →
        exec (.retryWaitElapsed b) s = .next
          ((s.setBay b { active with fault := none, retry := none, retryWait := 0, recovery := 0 }).raiseBay b .retry))

/-! ### Admission and the feed (chapter 7) -/

/-- ENQUEUE of a DISCHARGED record that passes the checks of R137 puts it QUEUED at the tail of the feed queue; WITHDRAW of
a QUEUED record takes it out again to DISCHARGED (R138). Either clears the last-returned memory when it names the record,
lets admission be evaluated, and answers the record as it then stands (R9, R99). -/
def Obligations.FeedRequestsMoveTheQueue : Prop :=
  ∀ (p : Port) (s : State) (i : Slot) (r : Rec) (k : ClassCfg), s.Free p → s.TagsUnique → s.MayAct p i r →
    tagOk r.tag = true → s.settings.classes.get r.cls = some k →
    let memory := if s.feed.memory.map (fun m => (m.slot, m.tag)) = some (i, r.tag) then none else s.feed.memory
    let enqueues := fun rep (t : State) => exec (.enqueue p r.tag) s = .next (t.answer p 0x38 rep)
    let withdraws := fun rep (t : State) => exec (.withdraw p r.tag) s = .next (t.answer p 0x39 rep)
    let empty := (∃ v, r.rest = some v ∧ v * 100 / r.cells ≤ k.safeV)
      ∧ (r.declared = 0 ∨ r.declared - r.energy ≤ r.declared * k.permille / 1000)
    (r.stage ≠ .discharged → enqueues (.refuse .wrongStage) s)
    ∧ (r.stage = .discharged → r.flags.quarantine = true → enqueues (.refuse .quarantined) s)
    ∧ (r.stage = .discharged → r.flags.quarantine = false →
        (¬ empty → enqueues (.refuse .notEligible) s)
        ∧ (empty → 8 ≤ s.feed.queue.length → enqueues (.refuse .queueFull) s)
        ∧ (empty → s.feed.queue.length < 8 →
            let queued := { r with stage := .queued }
            let t := ((s.setRecord i (some queued)).setFeed
              { s.feed with queue := s.feed.queue ++ [{ slot := i, tag := r.tag }], memory := memory }).evalAdmission
            enqueues (.ok (.record (t.view i queued))) t))
    ∧ (r.stage ≠ .queued → withdraws (.refuse .wrongStage) s)
    ∧ (r.stage = .queued →
        let back := { r with stage := .discharged }
        let t := ((s.setRecord i (some back)).setFeed
          { s.feed with queue := s.feed.queue.filter (fun e => decide (e.slot ≠ i)), memory := memory }).evalAdmission
        withdraws (.ok (.record (t.view i back))) t)

/-- RESUME_FEED, refused while a pack of the shredder path is unconfirmed, clears the feed fault and lets admission be
evaluated: an admission write naming the head is asked for when the conditions of R139 hold and none waits, and no write
otherwise (R139, R150). A throat that leaves EMPTY fails condition 3: the line alone changes. -/
def Obligations.AdmissionIsAskedForWhenItsConditionsHold : Prop :=
  ∀ s : State,
    (∀ p, s.Takes p →
      let answers := fun rep (t : State) => exec (.resumeFeed p) s = .next (t.answer p 0x3A rep)
      let admits := fun e : Entry => s.feed.queue.head? = some e
        ∧ (∃ r, s.record e.slot = some r ∧ r.tag = e.tag ∧ r.stage = .queued)
        ∧ s.chamber.state = .inert ∧ s.lines.throatEmpty = true
        ∧ (∀ i r, s.record i = some r → r.stage ≠ .shredUnconfirmed ∧ r.stage ≠ .inShredder)
        ∧ s.feed.block = { z4 := false, z5 := false, z6 := false } ∧ s.feed.gate = none ∧ s.feed.gateOpen = false
        ∧ s.feed.shred = none
      ((∃ x ∈ s.feed.path, x.unconfirmed = true) → answers (.refuse .notClear) s)
      ∧ ((∀ x ∈ s.feed.path, x.unconfirmed = false) →
          (∀ e, admits e → s.feed.admissionWaiting = false →
            answers (.ok (.feedFaults { gateTimeout := false, unexpectedPass := false, shredTimeout := false }))
              ((s.setFeed { s.feed with
                faults := { gateTimeout := false, unexpectedPass := false, shredTimeout := false }
                admissionWaiting := true }).askFeed (.admission e)))
          ∧ ((∀ e, ¬ admits e) ∨ s.feed.admissionWaiting = true →
            answers (.ok (.feedFaults { gateTimeout := false, unexpectedPass := false, shredTimeout := false }))
              (s.setFeed { s.feed with
                faults := { gateTimeout := false, unexpectedPass := false, shredTimeout := false } }))))
    ∧ exec .throatEmptyDeassert s = .next (s.setLines { s.lines with throatEmpty := false })

/-- The edges on GATE_PASS and THROAT_EMPTY and the ends of the feed's times. A pass takes the gate record into the
shredder, or is unexpected; a throat-empty event asks for the retirement of the shredder record; the chamber follows in
the same event; each timer acts on the record it runs for (R127, R142, R144, R145, R146, R147, R148, R150). The timer rows and
the edges are as the model reads them (log entries 2, 19). -/
def Obligations.FeedEventsActAtOnce : Prop :=
  ∀ s : State, s.running = true →
    let f := s.feed
    let c := s.chamber
    let passes := fun t : State =>
      (c.state = .inert → exec .gatePass s = .next ((t.setChamber { c with
        loaded := true, state := .shredding, nitrogen := true, flood := false, permit := true
        shredPermit := s.lines.plantPermit }).raiseChamber))
      ∧ (c.state ≠ .inert → exec .gatePass s = .next (t.setChamber { c with loaded := true }))
    let empties := fun t : State =>
      (c.state = .shredding → exec .throatEmpty s = .next ((t.setChamber { c with
        loaded := false, state := .inert, nitrogen := true, flood := false, permit := true
        shredPermit := s.lines.plantPermit }).raiseChamber.evalAdmission))
      ∧ (c.state ≠ .shredding → exec .throatEmpty s = .next ((t.setChamber { c with loaded := false }).evalAdmission))
    let s1 := s.setLines { s.lines with throatEmpty := true }
    (∀ e, f.gate = some e → passes ((s.setFeed { f with
        gate := none, gateOpen := false, gateTimer := none, shred := some e, passPending := true
        shredTimer := some { elapsed := 0, duration := s.settings.timing.shredSec * 100 } }).askFeed (.pass e)))
    ∧ (f.gate = none → passes (((s.setFeed { f with
        faults := { f.faults with unexpectedPass := true }, memory := none }).raiseFeed).askFeed
          (.unexpected (f.memory.map (fun m => { slot := m.slot, tag := m.tag })))))
    ∧ (∀ e, f.shred = some e → empties ((s1.setFeed { f with shred := none, shredTimer := none }).askFeed (.retirement e)))
    ∧ (f.shred = none → empties s1)
    ∧ (∀ e x, f.gate = some e → f.gateTimer = some x → exec .gateTimeout s = .next
        (((s.setFeed { f with
          gate := none, gateOpen := false, gateTimer := none, faults := { f.faults with gateTimeout := true }
          memory := some { slot := e.slot, tag := e.tag, remaining := s.settings.timing.gateSec * 100 } }).askFeed
            (.giveBack e)).raiseFeed))
    ∧ (∀ e x, f.shred = some e → f.shredTimer = some x → exec .shredTimeout s = .next
        (((s.setFeed { f with
          shred := none, shredTimer := none, faults := { f.faults with shredTimeout := true } }).askFeed
            (.unconfirmed e)).raiseFeed))
    ∧ exec .returnWindowEnd s = .next (s.setFeed { f with memory := none })

/-- A waiting write of the Feed Controller at its grant leaves its list and is made when its slot still holds the live
record it names in the stage it expects: the admission opens the gate, the pass counts the pack as admitted, a return puts
it back in the queue, the retirement counts it as shredded, and so on; a write that matches no more leaves the record.
Admission is then evaluated and the table passes on, in the same step (log entry 4; that a path list with no room takes no
entry: log entry 24) (R8, R24, R139, R140, R142, R144, R146 to
R149). -/
def Obligations.FeedWritesAreMadeAtTheirGrants : Prop :=
  ∀ (s : State) (w : FeedWrite) (rest : List FeedWrite), s.running = true → s.arb.access = .engine .feed →
    s.arb.feedWrites = w :: rest →
    let f := s.feed
    let popped := s.setArb { s.arb with feedWrites := rest }
    let ends := fun (i : Instr) (t : State) => exec i s = .next (t.evalAdmission.endGrant 2)
    let holds := fun (e : Entry) (g : Stage) (r : Rec) => s.record e.slot = some r ∧ r.tag = e.tag ∧ r.stage = g
    let others := fun e : Entry => f.queue.filter (fun x => decide (x.slot ≠ e.slot))
    let counted := fun (t : State) (r : Rec) => t.setTallies { s.tallies with
      residualAdmitted := min 4294967295 (s.tallies.residualAdmitted + (r.declared - r.energy))
      massAdmitted := min 4294967295 (s.tallies.massAdmitted + r.mass) }
    let entry := fun (e : Entry) (r : Rec) (u : Bool) =>
      ({ slot := e.slot, tag := e.tag, residual := r.declared - r.energy, unconfirmed := u } : PathEntry)
    let joined := fun x : PathEntry => if f.path.length < 8 then f.path ++ [x] else f.path
    (∀ e, w = .admission e →
      (∀ r, holds e .queued r → f.queue.head? = some e → s.admits = true → ends .admissionWrite
        ((popped.setRecord e.slot (some { r with stage := .atGate, flags := { r.flags with gateReturned := false } })).setFeed
          { f with
            admissionWaiting := false, gate := some e, gateOpen := true
            gateTimer := some { elapsed := 0, duration := s.settings.timing.gateSec * 100 }
            memory := if f.memory.map (fun m => (m.slot, m.tag)) = some (e.slot, e.tag) then none else f.memory }))
      ∧ ((∀ r, ¬ holds e .queued r) ∨ f.queue.head? ≠ some e ∨ s.admits = false →
        ends .admissionWrite (popped.setFeed { f with admissionWaiting := false })))
    ∧ (∀ e, w = .pass e →
      (∀ r, holds e .atGate r → ends .passWrite (counted
        ((popped.setRecord e.slot (some { r with stage := .inShredder })).setFeed
          { f with passPending := false, queue := others e, path := joined (entry e r false) }) r))
      ∧ ((∀ r, ¬ holds e .atGate r) → ends .passWrite (popped.setFeed { f with passPending := false })))
    ∧ (∀ o, w = .unexpected o →
      (∀ e r, o = some e → holds e .queued r → ends .unexpectedPassWrite (counted
        ((popped.setRecord e.slot (some { r with stage := .shredUnconfirmed })).setFeed
          { f with queue := others e, path := joined (entry e r true) }) r).raiseFeed)
      ∧ ((∀ e, o = some e → ∀ r, ¬ holds e .queued r) → ends .unexpectedPassWrite popped))
    ∧ (∀ e, w = .giveBack e →
      (∀ r, holds e .atGate r → ends .returnWrite (popped.setRecord e.slot
        (some { r with stage := .queued, flags := { r.flags with gateReturned := true } })))
      ∧ ((∀ r, ¬ holds e .atGate r) → ends .returnWrite popped))
    ∧ (∀ e, w = .retirement e →
      (∀ r, holds e .inShredder r → ends .retirementWrite
        ((((popped.setRecord e.slot none).setSettings { s.settings with
            useCount := s.settings.useCount.set r.cls (s.settings.useCount.get r.cls - 1) }).setTallies
          { s.tallies with shredded := min 4294967295 (s.tallies.shredded + 1) }).setFeed
          { f with path := f.path.filter (fun x => decide (x.slot ≠ e.slot)) }))
      ∧ ((∀ r, ¬ holds e .inShredder r) → ends .retirementWrite popped))
    ∧ (∀ e, w = .unconfirmed e →
      (∀ r, holds e .inShredder r → ends .shredUnconfirmedWrite
        (((popped.setRecord e.slot (some { r with stage := .shredUnconfirmed })).setFeed
          { f with path := f.path.map (fun x => if x.slot = e.slot then { x with unconfirmed := true } else x) }).raiseFeed))
      ∧ ((∀ r, ¬ holds e .inShredder r) → ends .shredUnconfirmedWrite popped))

/-! ### The chamber (chapter 6) -/

/-- The chamber's moves at a request, a timer, the door and PLANT_PERMIT: PURGE from SEALED (R121), STOP_CHAMBER (R126), the
confirm time (R122, R125), the purge timeout (R123), the door (R120, R148) and the shred permit (R131), each with the outputs
of the new state and CHAMBER attention (R130, R131, R132). The timer rows end their timers at once (log entry 2). -/
def Obligations.ChamberMovesBetweenItsStates : Prop :=
  ∀ s : State, s.running = true →
    let c := s.chamber
    let enters := fun y : Chamber => (s.setChamber y).raiseChamber
    let confirms := decide (c.condition = .agreed) && c.eff.any (fun e => decide (e ≤ s.settings.chamber.admitLevel))
    let open_ := { c with
      nitrogen := false, flood := false, permit := false, shredPermit := false, confirm := none, purgeTimer := none }
    let inert := { c with
      confirm := none, purgeTimer := none, excess := 0, nitrogen := true, flood := false, permit := true
      shredPermit := s.lines.plantPermit }
    let opened := fun t : State => t.setLines { s.lines with doorClosed := false }
    (∀ p, s.Takes p →
      (c.state = .sealed → exec (.purge p) s = .next ((enters { c with
        state := .purging, purgeTimer := some 0, purgeFault := false, confirm := if confirms then some 0 else none
        nitrogen := true, flood := false, permit := false, shredPermit := false }).answer p 0x30
          (.ok (.chamberState .purging))))
      ∧ (c.state ≠ .sealed → exec (.purge p) s = .next (s.answer p 0x30 (.refuse .chamberState)))
      ∧ (c.state = .purging ∨ (c.state = .hold ∧ c.loaded = false) → exec (.stopChamber p) s = .next
          ((enters { open_ with state := .sealed, excess := 0 }).answer p 0x31 (.ok (.chamberState .sealed))))
      ∧ (c.state = .inert → exec (.stopChamber p) s = .next
          ((enters { open_ with state := .sealed, excess := 0 }).startReturn.answer p 0x31 (.ok (.chamberState .sealed))))
      ∧ (c.state = .doorOpen ∨ c.state = .sealed ∨ c.state = .shredding ∨ c.state = .fire
          ∨ (c.state = .hold ∧ c.loaded = true) →
          exec (.stopChamber p) s = .next (s.answer p 0x31 (.refuse .chamberState))))
    ∧ (∀ n, c.confirm = some n →
      (c.state = .purging ∨ (c.state = .hold ∧ c.loaded = false) →
        exec .confirmTimeElapsed s = .next (enters { inert with state := .inert }).evalAdmission)
      ∧ (c.state = .hold → c.loaded = true →
        exec .confirmTimeElapsed s = .next (enters { inert with state := .shredding })))
    ∧ (∀ n, c.purgeTimer = some n → c.state = .purging →
        exec .purgeTimeout s = .next (enters { open_ with state := .sealed, purgeFault := true }))
    ∧ (s.lines.doorClosed = true →
      (c.state = .sealed ∨ c.state = .purging ∨ c.state = .shredding ∨ c.state = .hold → exec (.doorClosedChange false) s
        = .next (opened (enters { open_ with state := .doorOpen, excess := 0 })).loseShred)
      ∧ (c.state = .inert → exec (.doorClosedChange false) s
        = .next (opened (enters { open_ with state := .doorOpen, excess := 0 })).startReturn.loseShred)
      ∧ (c.state = .doorOpen ∨ c.state = .fire → exec (.doorClosedChange false) s = .next (opened s)))
    ∧ (s.lines.doorClosed = false →
      (c.state = .doorOpen → exec (.doorClosedChange true) s = .next
        ((enters { c with
          state := .sealed, nitrogen := false, flood := false, permit := false, shredPermit := false }).setLines
          { s.lines with doorClosed := true }))
      ∧ (c.state ≠ .doorOpen → exec (.doorClosedChange true) s = .next (s.setLines { s.lines with doorClosed := true })))
    ∧ (s.OutputsLaw → ∀ on, exec (.plantPermitChange on) s = .next
        ((s.setLines { s.lines with plantPermit := on }).setChamber { c with shredPermit := c.permit && on }))

/-- Analyser frames with a new toggle, and freshness lapses: an OK frame renews the analyser, a FAULT frame or a lapse makes
it stale; the effective oxygen and the condition follow (Table 6-3); INERT and SHREDDING are left for HOLD at a condition
that is not AGREED and at the third excess in a row. In PURGING and HOLD the confirm timer starts, runs on or stops by the confirm condition, at the
entry to HOLD from INERT or SHREDDING it is stopped, and in the other states it is left (R122). A repeat and a stale analyser's lapse change nothing
(R117, R118, R119, R124, R192). The lapse row ends the freshness time at once (log entry 2), and bytes before the sync byte are ignored (log
entry 14). -/
def Obligations.AnalysersGiveTheEffectiveOxygen : Prop :=
  ∀ (s : State) (w v : Analyser), s.running = true → v ≠ w →
    let c := s.chamber
    let o := c.analyser v
    let inerted := c.state = .inert ∨ c.state = .shredding
    let timed := c.state = .purging ∨ c.state = .hold
    let keeps := fun t : State => t.slots = s.slots ∧ t.tallies = s.tallies ∧ t.bays = s.bays ∧ t.settings = s.settings
      ∧ t.chamber.analyser v = o ∧ (¬ inerted → t.chamber.state = c.state)
    let stale := fun (t : State) (x : AnalyserState) => t.chamber.analyser w = { x with fresh := false } ∧ keeps t
      ∧ (o.fresh = false → t.chamber.eff = none ∧ t.chamber.condition = .noReading)
      ∧ (∀ y, o.fresh = true → o.value = some y → t.chamber.eff = some y ∧ t.chamber.condition = .single v)
      ∧ (inerted → (o.fresh = true → o.value ≠ none) → t.chamber.state = .hold)
      ∧ t.chamber.confirm = (if timed ∨ inerted then none else c.confirm)
    (∀ bytes x, readSensor (fromSync bytes) = some x → x.address.1 = (if w = .a then 30 else 31) →
      ((s.sensors.get x.address).toggle = some x.toggle → exec (.sensorFrame bytes) s = .next s)
      ∧ ((s.sensors.get x.address).toggle ≠ some x.toggle → ∃ t, exec (.sensorFrame bytes) s = .next t
        ∧ t.sensors = s.sensors.set x.address { toggle := some x.toggle, value := some x.value }
        ∧ (x.fault = true → stale t (c.analyser w))
        ∧ (x.fault = false →
          let n := min 2500 x.value.toNat
          t.chamber.analyser w = { value := some n, fresh := true, age := 0 } ∧ keeps t
          ∧ (o.fresh = false → t.chamber.eff = some n ∧ t.chamber.condition = .single w ∧ (inerted → t.chamber.state = .hold)
            ∧ t.chamber.confirm = (if timed ∨ inerted then none else c.confirm))
          ∧ (∀ y, o.fresh = true → o.value = some y →
            let agree := max n y - min n y ≤ s.settings.chamber.tolerance
            let excess := if s.settings.chamber.admitLevel < max n y then c.excess + 1 else 0
            t.chamber.eff = some (max n y)
            ∧ (agree → t.chamber.condition = .agreed) ∧ (¬ agree → t.chamber.condition = .disagree)
            ∧ (inerted → ¬ agree → t.chamber.state = .hold)
            ∧ (inerted → agree → 3 ≤ excess → t.chamber.state = .hold)
            ∧ (inerted → agree → excess < 3 →
                t.chamber.state = c.state ∧ t.chamber.excess = excess ∧ t.chamber.confirm = c.confirm)
            ∧ (inerted → (¬ agree ∨ 3 ≤ excess) → t.chamber.confirm = none)
            ∧ (timed → agree → max n y ≤ s.settings.chamber.admitLevel → t.chamber.confirm = some (c.confirm.getD 0))
            ∧ (timed → (¬ agree ∨ s.settings.chamber.admitLevel < max n y) → t.chamber.confirm = none)
            ∧ (¬ timed → ¬ inerted → t.chamber.confirm = c.confirm)))))
    ∧ ((c.analyser w).fresh = true →
        ∃ t, exec (.analyserFreshnessLapse w) s = .next t ∧ stale t { c.analyser w with age := 100 })
    ∧ ((c.analyser w).fresh = false → exec (.analyserFreshnessLapse w) s = .next s)

/-! ### Fire zones (chapter 8) -/

/-- A repeat from a mapped address or an analyser's changes nothing. A detector frame with a new toggle, and the freshness lapse,
at a mapped address: FAULT and an invalid value put the channel in FAULT; a valid reading counts the three runs against the zone's
levels and the channel is judged by them; the zone's vote follows. An address that is not mapped, and one above 27 that is no
analyser's, takes the toggle and the value of every frame, one with an unchanged toggle too, and nothing else changes (R156, R157,
R158, R162, R192). The lapse row ends the freshness time at once (log entry 2) and does nothing again before a fresh frame, the
time staying 100 (log entries 3, 34), a further invalid reading in FAULT zeroes the runs and the good count (log entry 10), and
bytes before the sync byte are ignored (log entry 14). -/
def Obligations.DetectorsFilterTheirReadings : Prop :=
  ∀ (s : State) (bytes : List Byte) (x : Reading), s.running = true → readSensor (fromSync bytes) = some x →
    let kept := { s with sensors := s.sensors.set x.address { toggle := some x.toggle, value := some x.value } }
    (30 ≤ x.address.1 ∨ (∃ d : DetId, d.1 = x.address.1 ∧ s.settings.detectors.get d ≠ none) →
      (s.sensors.get x.address).toggle = some x.toggle → exec (.sensorFrame bytes) s = .next s)
    ∧ (x.address.1 = 28 ∨ x.address.1 = 29 → exec (.sensorFrame bytes) s = .next kept)
    ∧ ∀ d : DetId, d.1 = x.address.1 →
      (s.settings.detectors.get d = none →
        exec (.sensorFrame bytes) s = .next kept ∧ exec (.detectorFreshnessLapse d) s = .next s)
      ∧ ∀ m, s.settings.detectors.get d = some m → (s.sensors.get x.address).toggle ≠ some x.toggle →
        let k := s.settings.zones.get m.zone
        let old := s.detector d
        let failed := { old.chan with state := .fault, alarmRun := 0, warnRun := 0, quietRun := 0, good := 0 }
        let valid := match m.kind with
          | .heat => -40 ≤ x.value ∧ x.value ≤ 400
          | .gas => 0 ≤ x.value ∧ x.value ≤ 10000
        let warn : Int := match m.kind with | .heat => k.heatWarn | .gas => k.gasWarn
        let alarm : Int := match m.kind with | .heat => k.heatAlarm | .gas => k.gasAlarm
        let quiet : Int := match m.kind with | .heat => k.heatWarn - k.heatHyst | .gas => k.gasWarn - k.gasHyst
        let run := fun (n : Nat) (b : Bool) => if b then min 15 (n + 1) else 0
        let alarmRun := run old.chan.alarmRun (decide (alarm ≤ x.value))
        let warnRun := run old.chan.warnRun (decide (warn ≤ x.value))
        let quietRun := run old.chan.quietRun (decide (x.value < quiet ∧ x.value < alarm))
        let judged := fun g : ChanState => match g with
          | .normal => if k.w ≤ alarmRun then .alarmLevel else if k.w ≤ warnRun then .warn else .normal
          | .warn => if k.w ≤ alarmRun then .alarmLevel else if k.w ≤ quietRun then .normal else .warn
          | .alarmLevel => if k.w ≤ quietRun then .normal else .alarmLevel
          | .fault => .fault
        let gives := fun (i : Instr) (base : State) (y : Detector) => ∃ t, exec i s = .next t ∧ t.detector d = y
          ∧ (y.chan.state = old.chan.state → t = base.setDetector d y)
          ∧ (y.chan.state ≠ old.chan.state → t.Voted m.zone ∧ t.slots = s.slots ∧ t.tallies = s.tallies
              ∧ t.sensors = base.sensors ∧ (∀ e, e ≠ d → t.detector e = s.detector e)
              ∧ (∀ z, z ≠ m.zone → t.zone z = s.zone z))
        (x.fault = true → gives (.sensorFrame bytes) kept { old with chan := failed })
        ∧ (x.fault = false → ¬ valid →
            gives (.sensorFrame bytes) kept { chan := { failed with reading := some x.value }, age := 0 })
        ∧ (x.fault = false → valid →
          let counted := { old.chan with
            reading := some x.value, alarmRun := alarmRun, warnRun := warnRun, quietRun := quietRun }
          (old.chan.state ≠ .fault →
            gives (.sensorFrame bytes) kept { chan := { counted with state := judged old.chan.state }, age := 0 })
          ∧ (old.chan.state = .fault → old.chan.good = 0 →
            gives (.sensorFrame bytes) kept { chan := { counted with good := 1 }, age := 0 })
          ∧ (old.chan.state = .fault → 1 ≤ old.chan.good →
            gives (.sensorFrame bytes) kept { chan := { counted with state := judged .normal, good := 0 }, age := 0 }))
        ∧ (old.age < 100 → gives (.detectorFreshnessLapse d) s { chan := failed, age := 100 })
        ∧ (100 ≤ old.age → exec (.detectorFreshnessLapse d) s = .next s)

/-- A flame scan keeps each line's level; two scans in a row at one level set the channel, and a zone whose flame channel
goes to ALARM_LEVEL enters ALARM: a sweep waits, the bound bays of the zone are held, and zone 6 sends the chamber to FIRE.
CLEAR_ALARM, from the Plant Port, is refused while a channel of the zone is WARN or ALARM_LEVEL; otherwise a zone in ALARM
goes to NORMAL and its holds, its block and FIRE end (R54, R128, R129, R151, R160, R162, R164, R168, R169). That the row carries
the seven levels and a period end takes no scan is the model's choice (log entry 18). -/
def Obligations.AlarmsAreEnteredAndCleared : Prop :=
  ∀ s : State,
    (∀ levels : BitVec 7, s.running = true → ∃ t, exec (.flameScan levels) s = .next t
      ∧ t.slots = s.slots ∧ t.tallies = s.tallies ∧ t.detectors = s.detectors
      ∧ ∀ z : ZoneId,
        let old := (s.zone z).flame
        let level := levels.getLsbD z.1
        (t.zone z).flame =
          { last := some level, previous := old.last, alarmLevel := if old.last = some level then level else old.alarmLevel }
        ∧ ((if old.last = some level then level else old.alarmLevel) = old.alarmLevel →
            (t.zone z).state = (s.zone z).state ∧ (t.zone z).degraded = (s.zone z).degraded)
        ∧ (old.alarmLevel = false → old.last = some true → level = true → (s.zone z).state ≠ .alarm →
            (t.zone z).state = .alarm ∧ (t.zone z).sweepWaiting = true
            ∧ (∀ b, bayZone b = z → (s.bay b).binding ≠ none → (t.bay b).holds.zoneAlarm = true)
            ∧ (z = 6 → t.chamber.state = .fire)))
    ∧ (s.Takes .plant → ∀ z : ZoneId,
      let answers := fun rep (t : State) => exec (.clearAlarm .plant z.1) s = .next (t.answer .plant 0x40 rep)
      let quiet := ∀ g ∈ s.channelStates z, g ≠ .warn ∧ g ≠ .alarmLevel
      let cleared := (s.setZone z { s.zone z with state := .normal }).raiseZone z 0
      (¬ quiet → answers (.refuse .notClear) s)
      ∧ (quiet → (s.zone z).state ≠ .alarm → answers (.ok (.zoneState (s.zone z).state (s.zone z).degraded)) s)
      ∧ (quiet → (s.zone z).state = .alarm →
        (z.1 ≤ 3 → ∃ t, answers (.ok (.zoneState .normal (s.zone z).degraded)) t ∧ t.zones = cleared.zones
          ∧ t.slots = s.slots ∧ t.feed = s.feed ∧ t.chamber = s.chamber
          ∧ (∀ b, bayZone b = z → (s.bay b).binding ≠ none → (t.bay b).holds.zoneAlarm = false)
          ∧ (∀ b, bayZone b ≠ z → t.bay b = s.bay b))
        ∧ (z = 4 → answers (.ok (.zoneState .normal (s.zone z).degraded))
            (cleared.setFeed { s.feed with block := { s.feed.block with z4 := false } }).evalAdmission)
        ∧ (z = 5 → answers (.ok (.zoneState .normal (s.zone z).degraded))
            (cleared.setFeed { s.feed with block := { s.feed.block with z5 := false } }).evalAdmission)
        ∧ (z = 6 → s.chamber.state = .fire → answers (.ok (.zoneState .normal (s.zone z).degraded))
            (((cleared.setChamber { s.chamber with
              state := if s.lines.doorClosed then .sealed else .doorOpen, confirm := none, purgeTimer := none, excess := 0
              nitrogen := false, flood := false, permit := false, shredPermit := false }).raiseChamber).setFeed
                { s.feed with block := { s.feed.block with z6 := false } }))))

/-- The quarantine sweep of a zone: one grant that quarantines every live record of the zone by its stage. A bound record's bay is
held; a record QUEUED or AT_GATE leaves the queue for DISCHARGED, and from the gate the gate closes (DEDUCED, log entry 26); a
record IN_SHREDDER becomes SHRED_UNCONFIRMED, in the path list too. No other record, bay or zone and no tally changes (R165, R166,
R167). A pass write that waits is made first by the sweeps of zones 5 and 6, which then find the record IN_SHREDDER (R143); that a
full path list does not take its entry is the model's choice (log entry 24). The next grant, a port request that waits among them,
follows in the same step (log entry 4). The last-returned memory and FEED attention of a sweep are not stated here. -/
def Obligations.SweepsQuarantineTheirZone : Prop :=
  ∀ (s : State) (z : ZoneId) (rest : List ZoneId), s.running = true → s.arb.access = .engine .fire →
    s.arb.sweeps = z :: rest →
    let swept := fun r : Rec =>
      let q := { r with flags := { r.flags with quarantine := true } }
      match r.stage with
      | .probing | .discharging | .resting => if r.bay.map bayZone = some z then q else r
      | .waiting | .discharged => if z = 4 then q else r
      | .queued => if z = 5 then { q with stage := .discharged } else r
      | .atGate =>
        if z = 5 ∨ z = 6 then { q with stage := .discharged, flags := { q.flags with gateReturned := true } } else r
      | .inShredder => if z = 6 then { q with stage := .shredUnconfirmed } else r
      | .shredUnconfirmed => if z = 6 then q else r
    let pulled := fun i : Slot => (s.record i).any (fun r =>
      (decide (r.stage = .queued) && decide (z = 5)) || (decide (r.stage = .atGate) && decide (z = 5 ∨ z = 6)))
    let lost := fun i : Slot => (s.record i).any (fun r => decide (r.stage = .inShredder) && decide (z = 6))
    ((z = 5 ∨ z = 6 → ∀ e, FeedWrite.pass e ∉ s.arb.feedWrites) →
      ∃ t : State, exec .quarantineSweep s = .next (t.endGrant 2) ∧ t.arb.sweeps = rest ∧ t.line.inFlight = s.line.inFlight
        ∧ t.plant.inFlight = s.plant.inFlight ∧ t.zones = s.zones.set z { s.zone z with sweepWaiting := false }
        ∧ (∀ i, t.record i = (s.record i).map swept) ∧ t.tallies = s.tallies ∧ t.settings = s.settings
        ∧ t.chamber = s.chamber
        ∧ t.feed.queue = s.feed.queue.filter (fun e => !pulled e.slot)
        ∧ t.feed.path = s.feed.path.map (fun x => if lost x.slot then { x with unconfirmed := true } else x)
        ∧ (∀ i r, s.record i = some r → r.stage = .atGate → z = 5 ∨ z = 6 → t.feed.gate = none ∧ t.feed.gateOpen = false)
        ∧ (∀ b, bayZone b ≠ z → t.bay b = s.bay b)
        ∧ (∀ i r b, s.record i = some r → r.stage.bound = true → r.bay = some b → bayZone b = z → (s.bay b).binding ≠ none →
            (t.bay b).holds.quarantine = true))
    ∧ ∀ e, (z = 5 ∨ z = 6) → FeedWrite.pass e ∈ s.arb.feedWrites → (∀ d, FeedWrite.pass d ∈ s.arb.feedWrites → d = e) →
      let f := s.feed
      let left := s.setArb { s.arb with feedWrites := s.arb.feedWrites.filter (fun w => decide (w ≠ .pass e)) }
      (∀ r, s.record e.slot = some r → r.tag = e.tag → r.stage = .atGate →
        let x : PathEntry := { slot := e.slot, tag := e.tag, residual := r.declared - r.energy, unconfirmed := false }
        let passed := ((left.setRecord e.slot (some { r with stage := .inShredder })).setFeed { f with
            passPending := false, queue := f.queue.filter (fun d => decide (d.slot ≠ e.slot))
            path := if f.path.length < 8 then f.path ++ [x] else f.path }).setTallies { s.tallies with
          residualAdmitted := min 4294967295 (s.tallies.residualAdmitted + (r.declared - r.energy))
          massAdmitted := min 4294967295 (s.tallies.massAdmitted + r.mass) }
        exec .quarantineSweep s = exec .quarantineSweep passed)
      ∧ ((∀ r, s.record e.slot = some r → r.tag = e.tag → r.stage ≠ .atGate) →
        exec .quarantineSweep s = exec .quarantineSweep (left.setFeed { f with passPending := false }))

/-! ### Settings (chapter 9) -/

/-- Each settings request with its operands in range stores its settings as a whole and answers them, or is refused for the
use they are in: SET_CLASS (R174), SET_BAY_CONFIG with the bay's new unbound state (R51, R175), SET_ZONE_CONFIG (R176),
SET_CHAMBER_CONFIG (R178), SET_TIMING (R179), and SET_DETECTOR_MAP, whose channel leaves one zone, joins the other afresh,
and lets both vote (R161, R177). The content of the answers is as log entry 16 has it. -/
def Obligations.SettingsAreSetAsAWhole : Prop :=
  ∀ s : State, s.Takes .line →
    let replies := fun (i : Instr) rep (t : State) => exec i s = .next (t.answer .line i.code rep)
    (∀ (c : ClassId) rate ev sv pm wt st rest, operandsOk (.setClass .line c.1 rate ev sv pm wt st rest) = true →
      let k : ClassCfg := { cRate := rate, endV := ev, safeV := sv, permille := pm, warnT := wt, shutT := st, restSec := rest }
      (s.settings.useCount.get c ≠ 0 → replies (.setClass .line c.1 rate ev sv pm wt st rest) (.refuse .inUse) s)
      ∧ (s.settings.useCount.get c = 0 → replies (.setClass .line c.1 rate ev sv pm wt st rest) (.ok (.classCfg k))
          (s.setSettings { s.settings with classes := s.settings.classes.set c (some k) })))
    ∧ (∀ (b : BayId) rating cap toff n mode combine retry m j,
      operandsOk (.setBayConfig .line b.1 rating cap toff n mode combine retry) = true →
      modeOf mode = some m → combineOf combine = some j →
      let x := s.bay b
      let k : BayCfg := { rating := some rating, cap := cap, toff := toff, nOpen := n, mode := m, combine := j, retrySec := retry }
      let stop := match j with
        | .or => s.lines.stop.get b || x.softStop
        | .and => s.lines.stop.get b && x.softStop
      let state : BayState := if stop then .stopped else .idle
      let s1 := s.setSettings { s.settings with bays := s.settings.bays.set b k }
      let sets := fun y => replies (.setBayConfig .line b.1 rating cap toff n mode combine retry) (.ok (.bayCfg k state))
        (s1.setBay b y)
      (x.mode = .unconfigured → sets { x with
        mode := state, link := .lost, toggle := none, periods := s.settings.timing.link })
      ∧ (x.mode = .stopped ∨ x.mode = .idle → sets { x with mode := state })
      ∧ (x.mode ≠ .unconfigured → x.mode ≠ .stopped → x.mode ≠ .idle →
          replies (.setBayConfig .line b.1 rating cap toff n mode combine retry) (.refuse .inUse) s))
    ∧ (∀ (z : ZoneId) hw ha hh gw ga gh w, operandsOk (.setZoneConfig .line z.1 hw ha hh gw ga gh w) = true →
      let k : ZoneCfg := { heatWarn := hw, heatAlarm := ha, heatHyst := hh, gasWarn := gw, gasAlarm := ga, gasHyst := gh, w := w }
      replies (.setZoneConfig .line z.1 hw ha hh gw ga gh w) (.ok (.zoneCfg k))
        (s.setSettings { s.settings with zones := s.settings.zones.set z k }))
    ∧ (∀ a b t c p, operandsOk (.setChamberConfig .line a b t c p) = true →
      let k : ChamberCfg := { admitLevel := a, abort := b, tolerance := t, confirmSec := c, purgeSec := p }
      (s.chamber.state = .doorOpen ∨ s.chamber.state = .sealed → replies (.setChamberConfig .line a b t c p)
        (.ok (.chamberCfg k)) (s.setSettings { s.settings with chamber := k }))
      ∧ (s.chamber.state ≠ .doorOpen → s.chamber.state ≠ .sealed →
          replies (.setChamberConfig .line a b t c p) (.refuse .chamberState) s))
    ∧ (∀ l k r g q, operandsOk (.setTiming .line l k r g q) = true →
      let old := s.settings.timing
      let new : Timing :=
        { link := l.getD old.link, lockMs := k.getD old.lockMs, rebound := r.getD old.rebound, gateSec := g.getD old.gateSec
          shredSec := q.getD old.shredSec }
      let used := ((l ≠ none ∨ r ≠ none) ∧ ∃ b, (s.bay b).binding ≠ none)
        ∨ ((g ≠ none ∨ q ≠ none) ∧ (s.feed.gate ≠ none ∨ s.feed.shred ≠ none))
      (used → replies (.setTiming .line l k r g q) (.refuse .inUse) s)
      ∧ (¬ used → ∃ t, replies (.setTiming .line l k r g q) (.ok (.timing new)) t
          ∧ t = { s with settings := { s.settings with timing := new }, bays := t.bays }
          ∧ ∀ b, t.bay b = if (s.bay b).link = .lost then { s.bay b with periods := new.link } else s.bay b))
    ∧ (∀ (d : DetId) used zone kind (entry : Option MapEntry), operandsOk (.setDetectorMap .line d.1 used zone kind) = true →
      (used = 0 → entry = none) →
      (used = 1 → ∃ m, entry = some m ∧ m.zone.1 = zone ∧ kindOf kind = some m.kind) →
      let old := s.settings.detectors.get d
      let full := ∃ m, entry = some m ∧ 4 ≤ ((s.mappedTo m.zone).filter (fun e => decide (e ≠ d))).length
      (full → replies (.setDetectorMap .line d.1 used zone kind) (.refuse .zoneFull) s)
      ∧ (¬ full → old = entry →
          replies (.setDetectorMap .line d.1 used zone kind) (.ok (.detectorMap s.settings.detectors.1)) s)
      ∧ (¬ full → old ≠ entry → ∃ t, replies (.setDetectorMap .line d.1 used zone kind) (.ok (.detectorMap t.settings.detectors.1)) t
          ∧ t.settings = { s.settings with detectors := s.settings.detectors.set d entry }
          ∧ t.detectors = s.detectors.set d { chan := { state := .normal, reading := none, alarmRun := 0, warnRun := 0, quietRun := 0
                                                        good := 0 }, age := 0 }
          ∧ (∀ m, old = some m ∨ entry = some m → t.Voted m.zone) ∧ t.slots = s.slots ∧ t.tallies = s.tallies))

/-! ### Ports and attention (chapter 10) -/

/-- GET_ATTENTION answers the whole pending set, the BAY details first as twelve two-byte fields, and empties the set, which
deasserts the line; the other port is left as it is (R190). SET_ATTENTION_MASK sets the mask, and the line follows the pending
conditions of the enabled kinds in the same event (R189). -/
def Obligations.AttentionIsReadAndMasked : Prop :=
  ∀ (p : Port) (s : State), s.Takes p →
    let x := s.port p
    let a := x.attn
    exec (.getAttention p) s = .next ((s.setPort p { x with
      attn := { bays := .fill 12 0, zones := .fill 7 none, chamber := false, feed := false, lockExpired := false, restart := false }
      attnLine := false }).answer p 0x02 (.ok (.attention a)))
    ∧ (Results.attention a).bytes.take 24 = (List.finRange 12).flatMap (fun b =>
        [BitVec.ofNat 8 ((a.bays.get b).toNat / 256), BitVec.ofNat 8 (a.bays.get b).toNat])
    ∧ (∀ d : BayDetail, d.bit = BitVec.ofNat 9 (2 ^ (match d with
        | .hold => 0 | .link => 1 | .release => 2 | .probe => 3 | .stage => 4 | .temp => 5 | .fault => 6 | .retry => 7
        | .energyLost => 8)))
    ∧ ∀ (n : Nat) (line : Bool), n ≤ 63 →
      let m := BitVec.ofNat 6 n
      (line = true ↔ (m.getLsbD 0 = true ∧ ∃ b, a.bays.get b ≠ 0) ∨ (m.getLsbD 1 = true ∧ ∃ z, a.zones.get z ≠ none)
        ∨ (m.getLsbD 2 = true ∧ a.chamber = true) ∨ (m.getLsbD 3 = true ∧ a.feed = true)
        ∨ (m.getLsbD 4 = true ∧ a.lockExpired = true) ∨ (m.getLsbD 5 = true ∧ a.restart = true)) →
      exec (.setAttentionMask p n) s
        = .next ((s.setPort p { x with mask := m, attnLine := line }).answer p 0x03 (.ok (.attnMask m line)))

/-- Frames that reach no block, and the sending of answers: a frame that fails a check of R182 is answered with the code it
carried; a frame cut short is answered FRAME_ERROR (R183, R184); a frame over a request in flight is an overrun (R185; one row a frame: log entry 35); the last
byte of an answer ends the request and clears the marks the answer carried (R187); a chip-select rise ends the transaction, and
keeps an answer sent in part, whose marks are cleared once (the model's reading, log entry 15). Two clauses rest on choices of
the model: ANSWER_SENT with no answer in flight leaves the state (log entry 3), and the echo of a frame refused at its length
byte, which the first clause takes as given, is as log entry 29 says. -/
def Obligations.PortFramesAreAnswered : Prop :=
  ∀ (p : Port) (s : State),
    let x := s.port p
    let error := fun q echo status => s.answer q echo (.refuse status)
    (∀ rest, s.Takes p →
      (∀ echo, readFrame p (0xA5 :: rest) = .error echo →
        exec (.frameError p (0xA5 :: rest)) s = .next (error p echo .frameError))
      ∧ (∀ echo, readFrame p (0xA5 :: rest) = .unknown echo →
        exec (.unknownRequest p (0xA5 :: rest)) s = .next (error p echo .unknownRequest)))
    ∧ (s.takesFrame p = true → s.inFlight p = true → exec (.overrun p) s = .next
        (s.setPort p { x with overruns := min 65535 (x.overruns + 1) }))
    ∧ (s.Takes .plant →
      exec (.plantByteGapTimeout [0xA5]) s = .next (error .plant 0 .frameError)
      ∧ (∀ len : Byte, 1 ≤ len.toNat → len.toNat ≤ 32 →
          exec (.plantByteGapTimeout [0xA5, len]) s = .next (error .plant 0 .frameError)
          ∧ ∀ (code : Byte) more, more.length ≤ len.toNat →
            exec (.plantByteGapTimeout (0xA5 :: len :: code :: more)) s = .next (error .plant code.toNat .frameError)))
    ∧ (s.running = true →
      (∀ ans sent, x.inFlight = some (.answered ans sent) → exec (.answerSent p) s = .next (s.setPort p { x with
        inFlight := none, answerDone := decide (p = .line)
        lockMark := x.lockMark && !(!sent && ans.lockExpired), restartMark := x.restartMark && !(!sent && ans.restart) }))
      ∧ ((∀ ans sent, x.inFlight ≠ some (.answered ans sent)) → exec (.answerSent p) s = .next s)
      ∧ exec (.chipSelectRise [] false) s = .next (s.setPort .line { s.line with answerDone := false })
      ∧ (∀ ans sent, s.line.inFlight = some (.answered ans sent) → exec (.chipSelectRise [] true) s = .next
          (s.setPort .line { s.line with
            inFlight := some (.answered ans true), answerDone := false
            lockMark := s.line.lockMark && !(!sent && ans.lockExpired)
            restartMark := s.line.restartMark && !(!sent && ans.restart) })))
    ∧ (s.Takes .line → ∀ (len code : Byte) more, 1 ≤ len.toNat → len.toNat ≤ 32 → more.length ≤ len.toNat →
        exec (.chipSelectRise (0xA5 :: len :: code :: more) false) s = .next
          ((error .line code.toNat .frameError).setPort .line
            { (error .line code.toNat .frameError).line with answerDone := false }))

/-- The bytes that the part sends: an answer frame with its length, echo, status, flags and CRC (R186, R187, Tables 10-1 and 10-5);
a record in an answer, field by field (Table 10-3); a bay answer frame (R192, Table 10-2); a channel of READ_ZONE with its items
that may be absent (R170); the forms of R181 for the soft stop and a rating that is none (what R181 leaves open of these forms is
log entry 16); and what the Line Port returns for each byte clocked: 0x00 while no answer is
ready, the answer byte by byte, and 0x00 after it (R183), as the Plant Port transmits it (R184). -/
def Obligations.AnswersAreSentByTheirTables : Prop :=
  (∀ a : Answer,
    let flags := (if a.lockExpired then 1 else 0) + if a.restart then 2 else 0
    let body := BitVec.ofNat 8 a.echo :: BitVec.ofNat 8 a.status.code :: BitVec.ofNat 8 flags :: a.results.bytes
    a.bytes = 0xA5 :: BitVec.ofNat 8 body.length :: body ++ crcBytes (BitVec.ofNat 8 body.length :: body)
    ∧ (a.results = .empty → a.bytes.length = 7 ∧ a.bytes[1]? = some 3))
  ∧ [Status.ok, .frameError, .unknownRequest, .badField, .notFound, .duplicateTag, .tableFull, .classUnset, .wrongStage,
      .notPermitted, .isProtected, .locked, .quarantined, .notEligible, .queueFull, .bayBusy, .bayUnavailable, .notBound,
      .notFaulted, .zoneAlarm, .zoneFull, .inUse, .notClear, .chamberState].map Status.code = List.range 24
  ∧ (∀ v : RecView, v.record.tag < 281474976710656 → v.record.cells < 256 → v.record.capacity < 65536 →
    v.record.declared < 16777216 → v.record.mass < 65536 → v.record.energy < 16777216 → v.record.rebounds < 256 →
    v.residual < 16777216 → (∀ n, v.record.rest = some n → n < 65536) → (∀ n, v.perCell = some n → n < 16777216) →
    (∀ n, v.position = some n → n < 256) →
    let r := v.record
    let field := fun place width => bytesNum ((v.bytes.drop place).take width)
    let bit := fun (on : Bool) (n : Nat) => if on then 2 ^ n else 0
    v.bytes.length = 36 ∧ field 0 1 = v.slot.1 ∧ field 1 6 = r.tag ∧ field 7 1 = (if r.origin = .line then 0 else 1)
    ∧ field 8 1 = r.cls.1 ∧ field 9 1 = r.cells ∧ field 10 2 = r.capacity ∧ field 12 3 = r.declared ∧ field 15 2 = r.mass
    ∧ field 17 3 = r.energy ∧ stageOf (field 20 1) = some r.stage
    ∧ field 21 2 = bit r.flags.damaged 0 + bit r.flags.isolationFault 1 + bit r.flags.overtemp 2 + bit r.flags.openConnection 3
        + bit r.flags.interrupted 4 + bit r.flags.reboundLimit 5 + bit r.flags.quarantine 6 + bit r.flags.gateReturned 7
        + bit r.flags.recovered 8
    ∧ field 23 1 = bit r.bay.isSome 0 + bit r.rest.isSome 1 + bit v.perCell.isSome 2 + bit v.position.isSome 3
    ∧ field 24 1 = (r.bay.map (fun b => b.1)).getD 0 ∧ field 25 2 = r.rest.getD 0 ∧ field 27 1 = r.rebounds
    ∧ field 28 3 = v.residual ∧ field 31 3 = v.perCell.getD 0 ∧ field 34 1 = v.zone.1 ∧ field 35 1 = v.position.getD 0)
  ∧ (∀ (x : BayAnswer) (b : BayId), x.level ≤ 15 → x.step ≤ 3 →
    let kind := match x.kind with | .ack => 1 | .nak => 2 | .stall => 3
    let data := [BitVec.ofNat 8 b.1, BitVec.ofNat 8 kind, BitVec.ofNat 8 (x.level + 16 * x.step)]
    x.bytes b = 0xC3 :: data ++ crcBytes data)
  ∧ (∀ c : ChanView, c.source < 256 → c.alarmRun < 256 → c.warnRun < 256 → c.quietRun < 256 → (∀ n, c.age = some n → n < 256) →
    let field := fun place => bytesNum ((c.bytes.drop place).take 1)
    let item := fun (x : Option Bool) => ([if x.isSome then 1 else 0, if x = some true then 1 else 0] : List Byte)
    c.bytes.length = 15
    ∧ field 0 = (match c.kind with | .heat => 0 | .gas => 1 | .flame => 2 | .packTemp => 3) ∧ field 1 = c.source
    ∧ field 2 = (match c.state with | .normal => 0 | .warn => 1 | .alarmLevel => 2 | .fault => 3)
    ∧ (c.bytes.drop 3).take 3 = (match c.reading with
        | some v => [1, BitVec.ofNat 8 ((v % 65536).toNat / 256), BitVec.ofNat 8 (v % 65536).toNat]
        | none => [0, 0, 0])
    ∧ field 6 = c.alarmRun ∧ field 7 = c.warnRun ∧ field 8 = c.quietRun
    ∧ field 9 = (if c.age.isSome then 1 else 0) ∧ field 10 = c.age.getD 0
    ∧ c.bytes.drop 11 = item (c.scans.bind Prod.fst) ++ item (c.scans.bind Prod.snd))
  ∧ (∀ soft line effective : Bool, (Results.stops soft line effective).bytes =
      [if soft then 0 else 1, if line then 1 else 0, if effective then 1 else 0])
  ∧ (∀ (c : BayCfg) (oc : Option Nat), c.rating = none →
      (Results.bayReport c oc).bytes.take 4 = [0, 0, 0, 0])
  ∧ ∀ (s : State) (k n : Nat), (s.lineReturns k n).length = n
    ∧ ((∀ a sent, s.line.inFlight ≠ some (.answered a sent)) → s.lineReturns k n = List.replicate n 0)
    ∧ (∀ a sent, s.line.inFlight = some (.answered a sent) → s.line.answerDone = false →
      s.line.answerBytes = a.bytes ∧ ∀ i, i < n → (s.lineReturns k n)[i]? = some ((a.bytes[k + i]?).getD 0))
    ∧ (∀ a sent, s.plant.inFlight = some (.answered a sent) → s.plant.answerDone = false → s.plant.answerBytes = a.bytes)

/-! ### Supplies and starts (chapter 11) -/

/-- At a loss of VDD and at RESET the main domain goes: outputs inactive, every timer, queue of writes and attention gone, and
the retained state stays as Table 11-1 lists it (the model gives the rest its start value at once: log entry 8). Until a
start has ended, requests and sensor frames do nothing and every bay frame is answered STALL (R154, R194, R196; that requests
in that time leave no trace is the model's reading, log entry 20, and that bytes before the sync byte are ignored is log entry
14). -/
def Obligations.ALossLeavesTheRetainedState : Prop :=
  ∀ s : State,
    let kept : State := { s with
      arb := { access := .parked, lock := none, sweeps := [], feedWrites := [] }
      bays := s.bays.map (fun x =>
        { binding := x.binding, frac := x.frac
          writes := x.writes.filter (fun w => match w with | .carry _ => true | .flag _ _ => true | _ => false) })
      chamber := {}, feed := { queue := s.feed.queue, path := s.feed.path }
      zones := s.zones.map (fun z =>
        { state := if z.state = .alarm then .alarm else .normal, sweepWaiting := z.sweepWaiting })
      detectors := .fill 28 {}, sensors := .fill 32 {}
      line := { mask := s.line.mask }, plant := { mask := s.plant.mask } }
    (s.phase ≠ .off → exec .vddLoss s = .next { kept with phase := .off })
    ∧ (s.phase = .off → exec .vddLoss s = .next s)
    ∧ (s.phase ≠ .off →
        exec .resetAssert s = .next { kept with phase := .inReset, lines := { s.lines with reset := true } })
    ∧ (s.phase = .off → exec .resetAssert s = .next (s.setLines { s.lines with reset := true }))
    ∧ (s.phase = .off → exec .retentionLoss s = .next { s with retention := false })
    ∧ (s.phase ≠ .off → exec .retentionLoss s = .next s)
    ∧ (s.phase ≠ .running →
      (∀ i, i.isRequest = true → exec i s = .next s)
      ∧ (∀ bytes, exec (.sensorFrame bytes) s = .next s)
      ∧ (∀ b bytes, s.phase ≠ .off → (0xC3 : Byte) ∈ bytes → exec (.sampleFrame b bytes) s = .next
          (s.setBay b { s.bay b with sent := some { kind := .stall, level := 0, step := 0 } }))
      ∧ (∀ b bytes, s.phase = .off → exec (.sampleFrame b bytes) s = .next s))

/-- A start is chosen when VDD rises with RESET released, and at the release of RESET (R195, R196). Without the retention flag
it is a cold start, whose end is the reset state at the levels of the input lines. With it, a warm start reconciles each record:
the carries, flags and the rounding its bay kept are made, its stage changes as R29 gives (R29, R47, R76), and the sweeps that the
zones kept waiting are asked for, in ascending order of the zone by the model's choice (log entry 17). The end of a start makes the
sweeps still waiting, on records as a reconciliation leaves them (R172, R197), and every block's start state (R134, R153, R171,
R189, R197). That the rows change nothing where they cannot occur is the model's choice (log entry 3). -/
def Obligations.StartsComeFromTheRetainedState : Prop :=
  ∀ s : State,
    (s.phase = .off → s.lines.reset = true → exec .powerUp s = .next { s with phase := .inReset })
    ∧ (s.phase ≠ .off → exec .powerUp s = .next s)
    ∧ (s.phase ≠ .inReset → exec .resetRelease s = .next (s.setLines { s.lines with reset := false }))
    ∧ (∀ i, (i = .powerUp ∧ s.phase = .off ∧ s.lines.reset = false) ∨ (i = .resetRelease ∧ s.phase = .inReset) →
      (s.retention = false → ∃ t, exec i s = .next t ∧ t.phase = .starting .cold
        ∧ (t.lines = {} → exec .startEnd t = .next { State.reset with pending := s.pending, freeCount := s.freeCount })
        ∧ t.lines = { s.lines with reset := false }
        ∧ exec .startEnd t = .next { State.reset with
            pending := s.pending, freeCount := s.freeCount, lines := t.lines
            chamber := { State.reset.chamber with
              state := if t.lines.doorClosed then .sealed else .doorOpen, loaded := !t.lines.throatEmpty } })
      ∧ (s.retention = true → ∃ t, exec i s = .next t ∧ t.phase = .starting .warm
          ∧ t.access = s.access ∧ t.settings = s.settings ∧ t.feed.queue = s.feed.queue
          ∧ t.tallies = { s.tallies with energyTotal := t.tallies.energyTotal }
          ∧ t.arb.sweeps = (List.finRange 7).filter (fun z => (s.zone z).sweepWaiting)
          ∧ (∀ b, (t.bay b).binding = none ∧ (t.bay b).frac = 0 ∧ (t.bay b).writes = [])
          ∧ ∀ i : Slot, (s.record i = none → t.record i = none)
            ∧ ∀ r, s.record i = some r → r.energy ≤ 999999 →
              let e : Entry := { slot := i, tag := r.tag }
              let n := ((List.finRange 12).map (fun b => (s.bay b).writes.count (.carry e)
                + if (s.bay b).binding = some e ∧ 18000000 ≤ (s.bay b).frac then 1 else 0)).sum
              let kept := fun f : HazardFlag => (List.finRange 12).any (fun b => (s.bay b).writes.contains (.flag e f))
              let r1 := { r with
                energy := min 999999 (r.energy + n)
                flags := { r.flags with
                  isolationFault := r.flags.isolationFault || kept .isolationFault
                  overtemp := r.flags.overtemp || kept .overtemp
                  openConnection := r.flags.openConnection || kept .openConnection } }
              t.record i = some (match r.stage with
                | .probing | .discharging | .resting =>
                  { r1 with stage := .waiting, bay := none, flags := { r1.flags with interrupted := true } }
                | .atGate => { r1 with stage := .queued, flags := { r1.flags with gateReturned := true } }
                | .inShredder => { r1 with stage := .shredUnconfirmed }
                | .waiting | .discharged | .queued | .shredUnconfirmed => r1)))
    ∧ (∀ k, s.phase = .starting k →
        let sweeps := fun z : ZoneId => s.arb.sweeps.contains z
        s.arb.sweeps = [] ∨ (s.arb.feedWrites = [] ∧ ∀ i r, s.record i = some r →
          r.stage = .waiting ∨ r.stage = .discharged ∨ r.stage = .queued ∨ r.stage = .shredUnconfirmed) →
        let swept := fun r : Rec =>
          let q := { r with flags := { r.flags with quarantine := true } }
          match r.stage with
          | .waiting | .discharged => if sweeps 4 then q else r
          | .queued => if sweeps 5 then { q with stage := .discharged } else r
          | .shredUnconfirmed => if sweeps 6 then q else r
          | .probing | .discharging | .resting | .atGate | .inShredder => r
        let pulled := fun e : Entry => sweeps 5 && (s.record e.slot).any (fun r => decide (r.stage = .queued))
        ∃ t, exec .startEnd s = .next t ∧ t.phase = .running ∧ t.retention = true ∧ t.lastStart = k
          ∧ (s.arb.sweeps = [] → t.slots = s.slots) ∧ (∀ i, t.record i = (s.record i).map swept)
          ∧ t.tallies = s.tallies ∧ t.settings = s.settings ∧ t.access = s.access ∧ t.lines = s.lines
          ∧ t.arb = { access := .parked, lock := none, sweeps := [], feedWrites := [] }
          ∧ t.feed = { queue := s.feed.queue.filter (fun e => !pulled e), path := s.feed.path
                       block := { z4 := decide ((s.zone 4).state = .alarm), z5 := decide ((s.zone 5).state = .alarm)
                                  z6 := decide ((s.zone 6).state = .alarm) } }
          ∧ t.chamber.state = (if (s.zone 6).state = .alarm then .fire
              else if s.lines.doorClosed then .sealed else .doorOpen)
          ∧ t.chamber.loaded = !s.lines.throatEmpty ∧ t.chamber.shredPermit = false
          ∧ t.chamber.nitrogen = decide ((s.zone 6).state = .alarm) ∧ t.chamber.flood = decide ((s.zone 6).state = .alarm)
          ∧ (∀ b, (t.bay b).mode = (if (s.bayCfg b).rating = none then .unconfigured
                else if (s.bayCfg b).combine = .or ∨ s.lines.stop.get b = true then .stopped else .idle)
              ∧ (t.bay b).softStop = true ∧ (t.bay b).link = .lost ∧ (t.bay b).periods = s.settings.timing.link)
          ∧ (∀ p, (t.port p).mask = (s.port p).mask ∧ (t.port p).restartMark = true ∧ (t.port p).inFlight = none
              ∧ (t.port p).attnLine = (s.port p).mask.getLsbD 5
              ∧ (t.port p).attn = { restart := true }))
end

