-- ==== Sys2Proof/Laws/State.lean ====
section
/-!
SUPPORT. One lemma for each field of State and each named update: what the update leaves and what it sets.
-/

namespace Sys2Proof.Machine

variable (s : State)

/-! ### setBay -/

@[simp] theorem State.setBay_phase (b : BayId) (x : Bay) : (s.setBay b x).phase = s.phase := rfl
@[simp] theorem State.setBay_retention (b : BayId) (x : Bay) : (s.setBay b x).retention = s.retention := rfl
@[simp] theorem State.setBay_lastStart (b : BayId) (x : Bay) : (s.setBay b x).lastStart = s.lastStart := rfl
@[simp] theorem State.setBay_lines (b : BayId) (x : Bay) : (s.setBay b x).lines = s.lines := rfl
@[simp] theorem State.setBay_slots (b : BayId) (x : Bay) : (s.setBay b x).slots = s.slots := rfl
@[simp] theorem State.setBay_tallies (b : BayId) (x : Bay) : (s.setBay b x).tallies = s.tallies := rfl
@[simp] theorem State.setBay_access (b : BayId) (x : Bay) : (s.setBay b x).access = s.access := rfl
@[simp] theorem State.setBay_arb (b : BayId) (x : Bay) : (s.setBay b x).arb = s.arb := rfl
@[simp] theorem State.setBay_bays (b : BayId) (x : Bay) : (s.setBay b x).bays = s.bays.set b x := rfl
@[simp] theorem State.setBay_chamber (b : BayId) (x : Bay) : (s.setBay b x).chamber = s.chamber := rfl
@[simp] theorem State.setBay_feed (b : BayId) (x : Bay) : (s.setBay b x).feed = s.feed := rfl
@[simp] theorem State.setBay_zones (b : BayId) (x : Bay) : (s.setBay b x).zones = s.zones := rfl
@[simp] theorem State.setBay_detectors (b : BayId) (x : Bay) : (s.setBay b x).detectors = s.detectors := rfl
@[simp] theorem State.setBay_sensors (b : BayId) (x : Bay) : (s.setBay b x).sensors = s.sensors := rfl
@[simp] theorem State.setBay_settings (b : BayId) (x : Bay) : (s.setBay b x).settings = s.settings := rfl
@[simp] theorem State.setBay_line (b : BayId) (x : Bay) : (s.setBay b x).line = s.line := rfl
@[simp] theorem State.setBay_plant (b : BayId) (x : Bay) : (s.setBay b x).plant = s.plant := rfl
@[simp] theorem State.setBay_freeCount (b : BayId) (x : Bay) : (s.setBay b x).freeCount = s.freeCount := rfl
@[simp] theorem State.setBay_pending (b : BayId) (x : Bay) : (s.setBay b x).pending = s.pending := rfl
@[simp] theorem State.setBay_record (b : BayId) (x : Bay) (j : Slot) : (s.setBay b x).record j = s.record j := rfl
@[simp] theorem State.setBay_zone (b : BayId) (x : Bay) (z' : ZoneId) : (s.setBay b x).zone z' = s.zone z' := rfl
@[simp] theorem State.setBay_detector (b : BayId) (x : Bay) (d' : DetId) : (s.setBay b x).detector d' = s.detector d' := rfl
@[simp] theorem State.setBay_running (b : BayId) (x : Bay) : (s.setBay b x).running = s.running := rfl
@[simp] theorem State.setBay_bayCfg (b : BayId) (x : Bay) (b' : BayId) : (s.setBay b x).bayCfg b' = s.bayCfg b' := rfl
@[simp] theorem State.setBay_zoneCfg (b : BayId) (x : Bay) (z' : ZoneId) : (s.setBay b x).zoneCfg z' = s.zoneCfg z' := rfl
@[simp] theorem State.setBay_classCfg (b : BayId) (x : Bay) (k : ClassId) : (s.setBay b x).classCfg k = s.classCfg k := rfl
@[simp] theorem State.setBay_port (b : BayId) (x : Bay) (q : Port) : (s.setBay b x).port q = s.port q := by cases q <;> rfl

/-! ### setRecord -/

@[simp] theorem State.setRecord_phase (i : Slot) (r : Option Rec) : (s.setRecord i r).phase = s.phase := rfl
@[simp] theorem State.setRecord_retention (i : Slot) (r : Option Rec) : (s.setRecord i r).retention = s.retention := rfl
@[simp] theorem State.setRecord_lastStart (i : Slot) (r : Option Rec) : (s.setRecord i r).lastStart = s.lastStart := rfl
@[simp] theorem State.setRecord_lines (i : Slot) (r : Option Rec) : (s.setRecord i r).lines = s.lines := rfl
@[simp] theorem State.setRecord_slots (i : Slot) (r : Option Rec) : (s.setRecord i r).slots = s.slots.set i r := rfl
@[simp] theorem State.setRecord_tallies (i : Slot) (r : Option Rec) : (s.setRecord i r).tallies = s.tallies := rfl
@[simp] theorem State.setRecord_access (i : Slot) (r : Option Rec) : (s.setRecord i r).access = s.access := rfl
@[simp] theorem State.setRecord_arb (i : Slot) (r : Option Rec) : (s.setRecord i r).arb = s.arb := rfl
@[simp] theorem State.setRecord_bays (i : Slot) (r : Option Rec) : (s.setRecord i r).bays = s.bays := rfl
@[simp] theorem State.setRecord_chamber (i : Slot) (r : Option Rec) : (s.setRecord i r).chamber = s.chamber := rfl
@[simp] theorem State.setRecord_feed (i : Slot) (r : Option Rec) : (s.setRecord i r).feed = s.feed := rfl
@[simp] theorem State.setRecord_zones (i : Slot) (r : Option Rec) : (s.setRecord i r).zones = s.zones := rfl
@[simp] theorem State.setRecord_detectors (i : Slot) (r : Option Rec) : (s.setRecord i r).detectors = s.detectors := rfl
@[simp] theorem State.setRecord_sensors (i : Slot) (r : Option Rec) : (s.setRecord i r).sensors = s.sensors := rfl
@[simp] theorem State.setRecord_settings (i : Slot) (r : Option Rec) : (s.setRecord i r).settings = s.settings := rfl
@[simp] theorem State.setRecord_line (i : Slot) (r : Option Rec) : (s.setRecord i r).line = s.line := rfl
@[simp] theorem State.setRecord_plant (i : Slot) (r : Option Rec) : (s.setRecord i r).plant = s.plant := rfl
@[simp] theorem State.setRecord_freeCount (i : Slot) (r : Option Rec) : (s.setRecord i r).freeCount = s.freeCount := rfl
@[simp] theorem State.setRecord_pending (i : Slot) (r : Option Rec) : (s.setRecord i r).pending = s.pending := rfl
@[simp] theorem State.setRecord_bay (i : Slot) (r : Option Rec) (b' : BayId) : (s.setRecord i r).bay b' = s.bay b' := rfl
@[simp] theorem State.setRecord_zone (i : Slot) (r : Option Rec) (z' : ZoneId) : (s.setRecord i r).zone z' = s.zone z' := rfl
@[simp] theorem State.setRecord_detector (i : Slot) (r : Option Rec) (d' : DetId) : (s.setRecord i r).detector d' = s.detector d' := rfl
@[simp] theorem State.setRecord_running (i : Slot) (r : Option Rec) : (s.setRecord i r).running = s.running := rfl
@[simp] theorem State.setRecord_bayCfg (i : Slot) (r : Option Rec) (b' : BayId) : (s.setRecord i r).bayCfg b' = s.bayCfg b' := rfl
@[simp] theorem State.setRecord_zoneCfg (i : Slot) (r : Option Rec) (z' : ZoneId) : (s.setRecord i r).zoneCfg z' = s.zoneCfg z' := rfl
@[simp] theorem State.setRecord_classCfg (i : Slot) (r : Option Rec) (k : ClassId) : (s.setRecord i r).classCfg k = s.classCfg k := rfl
@[simp] theorem State.setRecord_port (i : Slot) (r : Option Rec) (q : Port) : (s.setRecord i r).port q = s.port q := by cases q <;> rfl

/-! ### setZone -/

@[simp] theorem State.setZone_phase (z : ZoneId) (x : Zone) : (s.setZone z x).phase = s.phase := rfl
@[simp] theorem State.setZone_retention (z : ZoneId) (x : Zone) : (s.setZone z x).retention = s.retention := rfl
@[simp] theorem State.setZone_lastStart (z : ZoneId) (x : Zone) : (s.setZone z x).lastStart = s.lastStart := rfl
@[simp] theorem State.setZone_lines (z : ZoneId) (x : Zone) : (s.setZone z x).lines = s.lines := rfl
@[simp] theorem State.setZone_slots (z : ZoneId) (x : Zone) : (s.setZone z x).slots = s.slots := rfl
@[simp] theorem State.setZone_tallies (z : ZoneId) (x : Zone) : (s.setZone z x).tallies = s.tallies := rfl
@[simp] theorem State.setZone_access (z : ZoneId) (x : Zone) : (s.setZone z x).access = s.access := rfl
@[simp] theorem State.setZone_arb (z : ZoneId) (x : Zone) : (s.setZone z x).arb = s.arb := rfl
@[simp] theorem State.setZone_bays (z : ZoneId) (x : Zone) : (s.setZone z x).bays = s.bays := rfl
@[simp] theorem State.setZone_chamber (z : ZoneId) (x : Zone) : (s.setZone z x).chamber = s.chamber := rfl
@[simp] theorem State.setZone_feed (z : ZoneId) (x : Zone) : (s.setZone z x).feed = s.feed := rfl
@[simp] theorem State.setZone_zones (z : ZoneId) (x : Zone) : (s.setZone z x).zones = s.zones.set z x := rfl
@[simp] theorem State.setZone_detectors (z : ZoneId) (x : Zone) : (s.setZone z x).detectors = s.detectors := rfl
@[simp] theorem State.setZone_sensors (z : ZoneId) (x : Zone) : (s.setZone z x).sensors = s.sensors := rfl
@[simp] theorem State.setZone_settings (z : ZoneId) (x : Zone) : (s.setZone z x).settings = s.settings := rfl
@[simp] theorem State.setZone_line (z : ZoneId) (x : Zone) : (s.setZone z x).line = s.line := rfl
@[simp] theorem State.setZone_plant (z : ZoneId) (x : Zone) : (s.setZone z x).plant = s.plant := rfl
@[simp] theorem State.setZone_freeCount (z : ZoneId) (x : Zone) : (s.setZone z x).freeCount = s.freeCount := rfl
@[simp] theorem State.setZone_pending (z : ZoneId) (x : Zone) : (s.setZone z x).pending = s.pending := rfl
@[simp] theorem State.setZone_bay (z : ZoneId) (x : Zone) (b' : BayId) : (s.setZone z x).bay b' = s.bay b' := rfl
@[simp] theorem State.setZone_record (z : ZoneId) (x : Zone) (j : Slot) : (s.setZone z x).record j = s.record j := rfl
@[simp] theorem State.setZone_detector (z : ZoneId) (x : Zone) (d' : DetId) : (s.setZone z x).detector d' = s.detector d' := rfl
@[simp] theorem State.setZone_running (z : ZoneId) (x : Zone) : (s.setZone z x).running = s.running := rfl
@[simp] theorem State.setZone_bayCfg (z : ZoneId) (x : Zone) (b' : BayId) : (s.setZone z x).bayCfg b' = s.bayCfg b' := rfl
@[simp] theorem State.setZone_zoneCfg (z : ZoneId) (x : Zone) (z' : ZoneId) : (s.setZone z x).zoneCfg z' = s.zoneCfg z' := rfl
@[simp] theorem State.setZone_classCfg (z : ZoneId) (x : Zone) (k : ClassId) : (s.setZone z x).classCfg k = s.classCfg k := rfl
@[simp] theorem State.setZone_port (z : ZoneId) (x : Zone) (q : Port) : (s.setZone z x).port q = s.port q := by cases q <;> rfl

/-! ### setDetector -/

@[simp] theorem State.setDetector_phase (d : DetId) (x : Detector) : (s.setDetector d x).phase = s.phase := rfl
@[simp] theorem State.setDetector_retention (d : DetId) (x : Detector) : (s.setDetector d x).retention = s.retention := rfl
@[simp] theorem State.setDetector_lastStart (d : DetId) (x : Detector) : (s.setDetector d x).lastStart = s.lastStart := rfl
@[simp] theorem State.setDetector_lines (d : DetId) (x : Detector) : (s.setDetector d x).lines = s.lines := rfl
@[simp] theorem State.setDetector_slots (d : DetId) (x : Detector) : (s.setDetector d x).slots = s.slots := rfl
@[simp] theorem State.setDetector_tallies (d : DetId) (x : Detector) : (s.setDetector d x).tallies = s.tallies := rfl
@[simp] theorem State.setDetector_access (d : DetId) (x : Detector) : (s.setDetector d x).access = s.access := rfl
@[simp] theorem State.setDetector_arb (d : DetId) (x : Detector) : (s.setDetector d x).arb = s.arb := rfl
@[simp] theorem State.setDetector_bays (d : DetId) (x : Detector) : (s.setDetector d x).bays = s.bays := rfl
@[simp] theorem State.setDetector_chamber (d : DetId) (x : Detector) : (s.setDetector d x).chamber = s.chamber := rfl
@[simp] theorem State.setDetector_feed (d : DetId) (x : Detector) : (s.setDetector d x).feed = s.feed := rfl
@[simp] theorem State.setDetector_zones (d : DetId) (x : Detector) : (s.setDetector d x).zones = s.zones := rfl
@[simp] theorem State.setDetector_detectors (d : DetId) (x : Detector) : (s.setDetector d x).detectors = s.detectors.set d x := rfl
@[simp] theorem State.setDetector_sensors (d : DetId) (x : Detector) : (s.setDetector d x).sensors = s.sensors := rfl
@[simp] theorem State.setDetector_settings (d : DetId) (x : Detector) : (s.setDetector d x).settings = s.settings := rfl
@[simp] theorem State.setDetector_line (d : DetId) (x : Detector) : (s.setDetector d x).line = s.line := rfl
@[simp] theorem State.setDetector_plant (d : DetId) (x : Detector) : (s.setDetector d x).plant = s.plant := rfl
@[simp] theorem State.setDetector_freeCount (d : DetId) (x : Detector) : (s.setDetector d x).freeCount = s.freeCount := rfl
@[simp] theorem State.setDetector_pending (d : DetId) (x : Detector) : (s.setDetector d x).pending = s.pending := rfl
@[simp] theorem State.setDetector_bay (d : DetId) (x : Detector) (b' : BayId) : (s.setDetector d x).bay b' = s.bay b' := rfl
@[simp] theorem State.setDetector_record (d : DetId) (x : Detector) (j : Slot) : (s.setDetector d x).record j = s.record j := rfl
@[simp] theorem State.setDetector_zone (d : DetId) (x : Detector) (z' : ZoneId) : (s.setDetector d x).zone z' = s.zone z' := rfl
@[simp] theorem State.setDetector_running (d : DetId) (x : Detector) : (s.setDetector d x).running = s.running := rfl
@[simp] theorem State.setDetector_bayCfg (d : DetId) (x : Detector) (b' : BayId) : (s.setDetector d x).bayCfg b' = s.bayCfg b' := rfl
@[simp] theorem State.setDetector_zoneCfg (d : DetId) (x : Detector) (z' : ZoneId) : (s.setDetector d x).zoneCfg z' = s.zoneCfg z' := rfl
@[simp] theorem State.setDetector_classCfg (d : DetId) (x : Detector) (k : ClassId) : (s.setDetector d x).classCfg k = s.classCfg k := rfl
@[simp] theorem State.setDetector_port (d : DetId) (x : Detector) (q : Port) : (s.setDetector d x).port q = s.port q := by cases q <;> rfl

/-! ### setSensor -/

@[simp] theorem State.setSensor_phase (a : Fin 32) (x : SensorAddr) : (s.setSensor a x).phase = s.phase := rfl
@[simp] theorem State.setSensor_retention (a : Fin 32) (x : SensorAddr) : (s.setSensor a x).retention = s.retention := rfl
@[simp] theorem State.setSensor_lastStart (a : Fin 32) (x : SensorAddr) : (s.setSensor a x).lastStart = s.lastStart := rfl
@[simp] theorem State.setSensor_lines (a : Fin 32) (x : SensorAddr) : (s.setSensor a x).lines = s.lines := rfl
@[simp] theorem State.setSensor_slots (a : Fin 32) (x : SensorAddr) : (s.setSensor a x).slots = s.slots := rfl
@[simp] theorem State.setSensor_tallies (a : Fin 32) (x : SensorAddr) : (s.setSensor a x).tallies = s.tallies := rfl
@[simp] theorem State.setSensor_access (a : Fin 32) (x : SensorAddr) : (s.setSensor a x).access = s.access := rfl
@[simp] theorem State.setSensor_arb (a : Fin 32) (x : SensorAddr) : (s.setSensor a x).arb = s.arb := rfl
@[simp] theorem State.setSensor_bays (a : Fin 32) (x : SensorAddr) : (s.setSensor a x).bays = s.bays := rfl
@[simp] theorem State.setSensor_chamber (a : Fin 32) (x : SensorAddr) : (s.setSensor a x).chamber = s.chamber := rfl
@[simp] theorem State.setSensor_feed (a : Fin 32) (x : SensorAddr) : (s.setSensor a x).feed = s.feed := rfl
@[simp] theorem State.setSensor_zones (a : Fin 32) (x : SensorAddr) : (s.setSensor a x).zones = s.zones := rfl
@[simp] theorem State.setSensor_detectors (a : Fin 32) (x : SensorAddr) : (s.setSensor a x).detectors = s.detectors := rfl
@[simp] theorem State.setSensor_sensors (a : Fin 32) (x : SensorAddr) : (s.setSensor a x).sensors = s.sensors.set a x := rfl
@[simp] theorem State.setSensor_settings (a : Fin 32) (x : SensorAddr) : (s.setSensor a x).settings = s.settings := rfl
@[simp] theorem State.setSensor_line (a : Fin 32) (x : SensorAddr) : (s.setSensor a x).line = s.line := rfl
@[simp] theorem State.setSensor_plant (a : Fin 32) (x : SensorAddr) : (s.setSensor a x).plant = s.plant := rfl
@[simp] theorem State.setSensor_freeCount (a : Fin 32) (x : SensorAddr) : (s.setSensor a x).freeCount = s.freeCount := rfl
@[simp] theorem State.setSensor_pending (a : Fin 32) (x : SensorAddr) : (s.setSensor a x).pending = s.pending := rfl
@[simp] theorem State.setSensor_bay (a : Fin 32) (x : SensorAddr) (b' : BayId) : (s.setSensor a x).bay b' = s.bay b' := rfl
@[simp] theorem State.setSensor_record (a : Fin 32) (x : SensorAddr) (j : Slot) : (s.setSensor a x).record j = s.record j := rfl
@[simp] theorem State.setSensor_zone (a : Fin 32) (x : SensorAddr) (z' : ZoneId) : (s.setSensor a x).zone z' = s.zone z' := rfl
@[simp] theorem State.setSensor_detector (a : Fin 32) (x : SensorAddr) (d' : DetId) : (s.setSensor a x).detector d' = s.detector d' := rfl
@[simp] theorem State.setSensor_running (a : Fin 32) (x : SensorAddr) : (s.setSensor a x).running = s.running := rfl
@[simp] theorem State.setSensor_bayCfg (a : Fin 32) (x : SensorAddr) (b' : BayId) : (s.setSensor a x).bayCfg b' = s.bayCfg b' := rfl
@[simp] theorem State.setSensor_zoneCfg (a : Fin 32) (x : SensorAddr) (z' : ZoneId) : (s.setSensor a x).zoneCfg z' = s.zoneCfg z' := rfl
@[simp] theorem State.setSensor_classCfg (a : Fin 32) (x : SensorAddr) (k : ClassId) : (s.setSensor a x).classCfg k = s.classCfg k := rfl
@[simp] theorem State.setSensor_port (a : Fin 32) (x : SensorAddr) (q : Port) : (s.setSensor a x).port q = s.port q := by cases q <;> rfl

/-! ### setFeed -/

@[simp] theorem State.setFeed_phase (f : Feed) : (s.setFeed f).phase = s.phase := rfl
@[simp] theorem State.setFeed_retention (f : Feed) : (s.setFeed f).retention = s.retention := rfl
@[simp] theorem State.setFeed_lastStart (f : Feed) : (s.setFeed f).lastStart = s.lastStart := rfl
@[simp] theorem State.setFeed_lines (f : Feed) : (s.setFeed f).lines = s.lines := rfl
@[simp] theorem State.setFeed_slots (f : Feed) : (s.setFeed f).slots = s.slots := rfl
@[simp] theorem State.setFeed_tallies (f : Feed) : (s.setFeed f).tallies = s.tallies := rfl
@[simp] theorem State.setFeed_access (f : Feed) : (s.setFeed f).access = s.access := rfl
@[simp] theorem State.setFeed_arb (f : Feed) : (s.setFeed f).arb = s.arb := rfl
@[simp] theorem State.setFeed_bays (f : Feed) : (s.setFeed f).bays = s.bays := rfl
@[simp] theorem State.setFeed_chamber (f : Feed) : (s.setFeed f).chamber = s.chamber := rfl
@[simp] theorem State.setFeed_feed (f : Feed) : (s.setFeed f).feed = f := rfl
@[simp] theorem State.setFeed_zones (f : Feed) : (s.setFeed f).zones = s.zones := rfl
@[simp] theorem State.setFeed_detectors (f : Feed) : (s.setFeed f).detectors = s.detectors := rfl
@[simp] theorem State.setFeed_sensors (f : Feed) : (s.setFeed f).sensors = s.sensors := rfl
@[simp] theorem State.setFeed_settings (f : Feed) : (s.setFeed f).settings = s.settings := rfl
@[simp] theorem State.setFeed_line (f : Feed) : (s.setFeed f).line = s.line := rfl
@[simp] theorem State.setFeed_plant (f : Feed) : (s.setFeed f).plant = s.plant := rfl
@[simp] theorem State.setFeed_freeCount (f : Feed) : (s.setFeed f).freeCount = s.freeCount := rfl
@[simp] theorem State.setFeed_pending (f : Feed) : (s.setFeed f).pending = s.pending := rfl
@[simp] theorem State.setFeed_bay (f : Feed) (b' : BayId) : (s.setFeed f).bay b' = s.bay b' := rfl
@[simp] theorem State.setFeed_record (f : Feed) (j : Slot) : (s.setFeed f).record j = s.record j := rfl
@[simp] theorem State.setFeed_zone (f : Feed) (z' : ZoneId) : (s.setFeed f).zone z' = s.zone z' := rfl
@[simp] theorem State.setFeed_detector (f : Feed) (d' : DetId) : (s.setFeed f).detector d' = s.detector d' := rfl
@[simp] theorem State.setFeed_running (f : Feed) : (s.setFeed f).running = s.running := rfl
@[simp] theorem State.setFeed_bayCfg (f : Feed) (b' : BayId) : (s.setFeed f).bayCfg b' = s.bayCfg b' := rfl
@[simp] theorem State.setFeed_zoneCfg (f : Feed) (z' : ZoneId) : (s.setFeed f).zoneCfg z' = s.zoneCfg z' := rfl
@[simp] theorem State.setFeed_classCfg (f : Feed) (k : ClassId) : (s.setFeed f).classCfg k = s.classCfg k := rfl
@[simp] theorem State.setFeed_port (f : Feed) (q : Port) : (s.setFeed f).port q = s.port q := by cases q <;> rfl

/-! ### setChamber -/

@[simp] theorem State.setChamber_phase (c : Chamber) : (s.setChamber c).phase = s.phase := rfl
@[simp] theorem State.setChamber_retention (c : Chamber) : (s.setChamber c).retention = s.retention := rfl
@[simp] theorem State.setChamber_lastStart (c : Chamber) : (s.setChamber c).lastStart = s.lastStart := rfl
@[simp] theorem State.setChamber_lines (c : Chamber) : (s.setChamber c).lines = s.lines := rfl
@[simp] theorem State.setChamber_slots (c : Chamber) : (s.setChamber c).slots = s.slots := rfl
@[simp] theorem State.setChamber_tallies (c : Chamber) : (s.setChamber c).tallies = s.tallies := rfl
@[simp] theorem State.setChamber_access (c : Chamber) : (s.setChamber c).access = s.access := rfl
@[simp] theorem State.setChamber_arb (c : Chamber) : (s.setChamber c).arb = s.arb := rfl
@[simp] theorem State.setChamber_bays (c : Chamber) : (s.setChamber c).bays = s.bays := rfl
@[simp] theorem State.setChamber_chamber (c : Chamber) : (s.setChamber c).chamber = c := rfl
@[simp] theorem State.setChamber_feed (c : Chamber) : (s.setChamber c).feed = s.feed := rfl
@[simp] theorem State.setChamber_zones (c : Chamber) : (s.setChamber c).zones = s.zones := rfl
@[simp] theorem State.setChamber_detectors (c : Chamber) : (s.setChamber c).detectors = s.detectors := rfl
@[simp] theorem State.setChamber_sensors (c : Chamber) : (s.setChamber c).sensors = s.sensors := rfl
@[simp] theorem State.setChamber_settings (c : Chamber) : (s.setChamber c).settings = s.settings := rfl
@[simp] theorem State.setChamber_line (c : Chamber) : (s.setChamber c).line = s.line := rfl
@[simp] theorem State.setChamber_plant (c : Chamber) : (s.setChamber c).plant = s.plant := rfl
@[simp] theorem State.setChamber_freeCount (c : Chamber) : (s.setChamber c).freeCount = s.freeCount := rfl
@[simp] theorem State.setChamber_pending (c : Chamber) : (s.setChamber c).pending = s.pending := rfl
@[simp] theorem State.setChamber_bay (c : Chamber) (b' : BayId) : (s.setChamber c).bay b' = s.bay b' := rfl
@[simp] theorem State.setChamber_record (c : Chamber) (j : Slot) : (s.setChamber c).record j = s.record j := rfl
@[simp] theorem State.setChamber_zone (c : Chamber) (z' : ZoneId) : (s.setChamber c).zone z' = s.zone z' := rfl
@[simp] theorem State.setChamber_detector (c : Chamber) (d' : DetId) : (s.setChamber c).detector d' = s.detector d' := rfl
@[simp] theorem State.setChamber_running (c : Chamber) : (s.setChamber c).running = s.running := rfl
@[simp] theorem State.setChamber_bayCfg (c : Chamber) (b' : BayId) : (s.setChamber c).bayCfg b' = s.bayCfg b' := rfl
@[simp] theorem State.setChamber_zoneCfg (c : Chamber) (z' : ZoneId) : (s.setChamber c).zoneCfg z' = s.zoneCfg z' := rfl
@[simp] theorem State.setChamber_classCfg (c : Chamber) (k : ClassId) : (s.setChamber c).classCfg k = s.classCfg k := rfl
@[simp] theorem State.setChamber_port (c : Chamber) (q : Port) : (s.setChamber c).port q = s.port q := by cases q <;> rfl

/-! ### setArb -/

@[simp] theorem State.setArb_phase (a : Arbiter) : (s.setArb a).phase = s.phase := rfl
@[simp] theorem State.setArb_retention (a : Arbiter) : (s.setArb a).retention = s.retention := rfl
@[simp] theorem State.setArb_lastStart (a : Arbiter) : (s.setArb a).lastStart = s.lastStart := rfl
@[simp] theorem State.setArb_lines (a : Arbiter) : (s.setArb a).lines = s.lines := rfl
@[simp] theorem State.setArb_slots (a : Arbiter) : (s.setArb a).slots = s.slots := rfl
@[simp] theorem State.setArb_tallies (a : Arbiter) : (s.setArb a).tallies = s.tallies := rfl
@[simp] theorem State.setArb_access (a : Arbiter) : (s.setArb a).access = s.access := rfl
@[simp] theorem State.setArb_arb (a : Arbiter) : (s.setArb a).arb = a := rfl
@[simp] theorem State.setArb_bays (a : Arbiter) : (s.setArb a).bays = s.bays := rfl
@[simp] theorem State.setArb_chamber (a : Arbiter) : (s.setArb a).chamber = s.chamber := rfl
@[simp] theorem State.setArb_feed (a : Arbiter) : (s.setArb a).feed = s.feed := rfl
@[simp] theorem State.setArb_zones (a : Arbiter) : (s.setArb a).zones = s.zones := rfl
@[simp] theorem State.setArb_detectors (a : Arbiter) : (s.setArb a).detectors = s.detectors := rfl
@[simp] theorem State.setArb_sensors (a : Arbiter) : (s.setArb a).sensors = s.sensors := rfl
@[simp] theorem State.setArb_settings (a : Arbiter) : (s.setArb a).settings = s.settings := rfl
@[simp] theorem State.setArb_line (a : Arbiter) : (s.setArb a).line = s.line := rfl
@[simp] theorem State.setArb_plant (a : Arbiter) : (s.setArb a).plant = s.plant := rfl
@[simp] theorem State.setArb_freeCount (a : Arbiter) : (s.setArb a).freeCount = s.freeCount := rfl
@[simp] theorem State.setArb_pending (a : Arbiter) : (s.setArb a).pending = s.pending := rfl
@[simp] theorem State.setArb_bay (a : Arbiter) (b' : BayId) : (s.setArb a).bay b' = s.bay b' := rfl
@[simp] theorem State.setArb_record (a : Arbiter) (j : Slot) : (s.setArb a).record j = s.record j := rfl
@[simp] theorem State.setArb_zone (a : Arbiter) (z' : ZoneId) : (s.setArb a).zone z' = s.zone z' := rfl
@[simp] theorem State.setArb_detector (a : Arbiter) (d' : DetId) : (s.setArb a).detector d' = s.detector d' := rfl
@[simp] theorem State.setArb_running (a : Arbiter) : (s.setArb a).running = s.running := rfl
@[simp] theorem State.setArb_bayCfg (a : Arbiter) (b' : BayId) : (s.setArb a).bayCfg b' = s.bayCfg b' := rfl
@[simp] theorem State.setArb_zoneCfg (a : Arbiter) (z' : ZoneId) : (s.setArb a).zoneCfg z' = s.zoneCfg z' := rfl
@[simp] theorem State.setArb_classCfg (a : Arbiter) (k : ClassId) : (s.setArb a).classCfg k = s.classCfg k := rfl
@[simp] theorem State.setArb_port (a : Arbiter) (q : Port) : (s.setArb a).port q = s.port q := by cases q <;> rfl

/-! ### setTallies -/

@[simp] theorem State.setTallies_phase (t : Tallies) : (s.setTallies t).phase = s.phase := rfl
@[simp] theorem State.setTallies_retention (t : Tallies) : (s.setTallies t).retention = s.retention := rfl
@[simp] theorem State.setTallies_lastStart (t : Tallies) : (s.setTallies t).lastStart = s.lastStart := rfl
@[simp] theorem State.setTallies_lines (t : Tallies) : (s.setTallies t).lines = s.lines := rfl
@[simp] theorem State.setTallies_slots (t : Tallies) : (s.setTallies t).slots = s.slots := rfl
@[simp] theorem State.setTallies_tallies (t : Tallies) : (s.setTallies t).tallies = t := rfl
@[simp] theorem State.setTallies_access (t : Tallies) : (s.setTallies t).access = s.access := rfl
@[simp] theorem State.setTallies_arb (t : Tallies) : (s.setTallies t).arb = s.arb := rfl
@[simp] theorem State.setTallies_bays (t : Tallies) : (s.setTallies t).bays = s.bays := rfl
@[simp] theorem State.setTallies_chamber (t : Tallies) : (s.setTallies t).chamber = s.chamber := rfl
@[simp] theorem State.setTallies_feed (t : Tallies) : (s.setTallies t).feed = s.feed := rfl
@[simp] theorem State.setTallies_zones (t : Tallies) : (s.setTallies t).zones = s.zones := rfl
@[simp] theorem State.setTallies_detectors (t : Tallies) : (s.setTallies t).detectors = s.detectors := rfl
@[simp] theorem State.setTallies_sensors (t : Tallies) : (s.setTallies t).sensors = s.sensors := rfl
@[simp] theorem State.setTallies_settings (t : Tallies) : (s.setTallies t).settings = s.settings := rfl
@[simp] theorem State.setTallies_line (t : Tallies) : (s.setTallies t).line = s.line := rfl
@[simp] theorem State.setTallies_plant (t : Tallies) : (s.setTallies t).plant = s.plant := rfl
@[simp] theorem State.setTallies_freeCount (t : Tallies) : (s.setTallies t).freeCount = s.freeCount := rfl
@[simp] theorem State.setTallies_pending (t : Tallies) : (s.setTallies t).pending = s.pending := rfl
@[simp] theorem State.setTallies_bay (t : Tallies) (b' : BayId) : (s.setTallies t).bay b' = s.bay b' := rfl
@[simp] theorem State.setTallies_record (t : Tallies) (j : Slot) : (s.setTallies t).record j = s.record j := rfl
@[simp] theorem State.setTallies_zone (t : Tallies) (z' : ZoneId) : (s.setTallies t).zone z' = s.zone z' := rfl
@[simp] theorem State.setTallies_detector (t : Tallies) (d' : DetId) : (s.setTallies t).detector d' = s.detector d' := rfl
@[simp] theorem State.setTallies_running (t : Tallies) : (s.setTallies t).running = s.running := rfl
@[simp] theorem State.setTallies_bayCfg (t : Tallies) (b' : BayId) : (s.setTallies t).bayCfg b' = s.bayCfg b' := rfl
@[simp] theorem State.setTallies_zoneCfg (t : Tallies) (z' : ZoneId) : (s.setTallies t).zoneCfg z' = s.zoneCfg z' := rfl
@[simp] theorem State.setTallies_classCfg (t : Tallies) (k : ClassId) : (s.setTallies t).classCfg k = s.classCfg k := rfl
@[simp] theorem State.setTallies_port (t : Tallies) (q : Port) : (s.setTallies t).port q = s.port q := by cases q <;> rfl

/-! ### setSettings -/

@[simp] theorem State.setSettings_phase (t : Settings) : (s.setSettings t).phase = s.phase := rfl
@[simp] theorem State.setSettings_retention (t : Settings) : (s.setSettings t).retention = s.retention := rfl
@[simp] theorem State.setSettings_lastStart (t : Settings) : (s.setSettings t).lastStart = s.lastStart := rfl
@[simp] theorem State.setSettings_lines (t : Settings) : (s.setSettings t).lines = s.lines := rfl
@[simp] theorem State.setSettings_slots (t : Settings) : (s.setSettings t).slots = s.slots := rfl
@[simp] theorem State.setSettings_tallies (t : Settings) : (s.setSettings t).tallies = s.tallies := rfl
@[simp] theorem State.setSettings_access (t : Settings) : (s.setSettings t).access = s.access := rfl
@[simp] theorem State.setSettings_arb (t : Settings) : (s.setSettings t).arb = s.arb := rfl
@[simp] theorem State.setSettings_bays (t : Settings) : (s.setSettings t).bays = s.bays := rfl
@[simp] theorem State.setSettings_chamber (t : Settings) : (s.setSettings t).chamber = s.chamber := rfl
@[simp] theorem State.setSettings_feed (t : Settings) : (s.setSettings t).feed = s.feed := rfl
@[simp] theorem State.setSettings_zones (t : Settings) : (s.setSettings t).zones = s.zones := rfl
@[simp] theorem State.setSettings_detectors (t : Settings) : (s.setSettings t).detectors = s.detectors := rfl
@[simp] theorem State.setSettings_sensors (t : Settings) : (s.setSettings t).sensors = s.sensors := rfl
@[simp] theorem State.setSettings_settings (t : Settings) : (s.setSettings t).settings = t := rfl
@[simp] theorem State.setSettings_line (t : Settings) : (s.setSettings t).line = s.line := rfl
@[simp] theorem State.setSettings_plant (t : Settings) : (s.setSettings t).plant = s.plant := rfl
@[simp] theorem State.setSettings_freeCount (t : Settings) : (s.setSettings t).freeCount = s.freeCount := rfl
@[simp] theorem State.setSettings_pending (t : Settings) : (s.setSettings t).pending = s.pending := rfl
@[simp] theorem State.setSettings_bay (t : Settings) (b' : BayId) : (s.setSettings t).bay b' = s.bay b' := rfl
@[simp] theorem State.setSettings_record (t : Settings) (j : Slot) : (s.setSettings t).record j = s.record j := rfl
@[simp] theorem State.setSettings_zone (t : Settings) (z' : ZoneId) : (s.setSettings t).zone z' = s.zone z' := rfl
@[simp] theorem State.setSettings_detector (t : Settings) (d' : DetId) : (s.setSettings t).detector d' = s.detector d' := rfl
@[simp] theorem State.setSettings_running (t : Settings) : (s.setSettings t).running = s.running := rfl
@[simp] theorem State.setSettings_port (t : Settings) (q : Port) : (s.setSettings t).port q = s.port q := by cases q <;> rfl

/-! ### setLines -/

@[simp] theorem State.setLines_phase (l : Lines) : (s.setLines l).phase = s.phase := rfl
@[simp] theorem State.setLines_retention (l : Lines) : (s.setLines l).retention = s.retention := rfl
@[simp] theorem State.setLines_lastStart (l : Lines) : (s.setLines l).lastStart = s.lastStart := rfl
@[simp] theorem State.setLines_lines (l : Lines) : (s.setLines l).lines = l := rfl
@[simp] theorem State.setLines_slots (l : Lines) : (s.setLines l).slots = s.slots := rfl
@[simp] theorem State.setLines_tallies (l : Lines) : (s.setLines l).tallies = s.tallies := rfl
@[simp] theorem State.setLines_access (l : Lines) : (s.setLines l).access = s.access := rfl
@[simp] theorem State.setLines_arb (l : Lines) : (s.setLines l).arb = s.arb := rfl
@[simp] theorem State.setLines_bays (l : Lines) : (s.setLines l).bays = s.bays := rfl
@[simp] theorem State.setLines_chamber (l : Lines) : (s.setLines l).chamber = s.chamber := rfl
@[simp] theorem State.setLines_feed (l : Lines) : (s.setLines l).feed = s.feed := rfl
@[simp] theorem State.setLines_zones (l : Lines) : (s.setLines l).zones = s.zones := rfl
@[simp] theorem State.setLines_detectors (l : Lines) : (s.setLines l).detectors = s.detectors := rfl
@[simp] theorem State.setLines_sensors (l : Lines) : (s.setLines l).sensors = s.sensors := rfl
@[simp] theorem State.setLines_settings (l : Lines) : (s.setLines l).settings = s.settings := rfl
@[simp] theorem State.setLines_line (l : Lines) : (s.setLines l).line = s.line := rfl
@[simp] theorem State.setLines_plant (l : Lines) : (s.setLines l).plant = s.plant := rfl
@[simp] theorem State.setLines_freeCount (l : Lines) : (s.setLines l).freeCount = s.freeCount := rfl
@[simp] theorem State.setLines_pending (l : Lines) : (s.setLines l).pending = s.pending := rfl
@[simp] theorem State.setLines_bay (l : Lines) (b' : BayId) : (s.setLines l).bay b' = s.bay b' := rfl
@[simp] theorem State.setLines_record (l : Lines) (j : Slot) : (s.setLines l).record j = s.record j := rfl
@[simp] theorem State.setLines_zone (l : Lines) (z' : ZoneId) : (s.setLines l).zone z' = s.zone z' := rfl
@[simp] theorem State.setLines_detector (l : Lines) (d' : DetId) : (s.setLines l).detector d' = s.detector d' := rfl
@[simp] theorem State.setLines_running (l : Lines) : (s.setLines l).running = s.running := rfl
@[simp] theorem State.setLines_bayCfg (l : Lines) (b' : BayId) : (s.setLines l).bayCfg b' = s.bayCfg b' := rfl
@[simp] theorem State.setLines_zoneCfg (l : Lines) (z' : ZoneId) : (s.setLines l).zoneCfg z' = s.zoneCfg z' := rfl
@[simp] theorem State.setLines_classCfg (l : Lines) (k : ClassId) : (s.setLines l).classCfg k = s.classCfg k := rfl
@[simp] theorem State.setLines_port (l : Lines) (q : Port) : (s.setLines l).port q = s.port q := by cases q <;> rfl

/-! ### setAccess -/

@[simp] theorem State.setAccess_phase (a : Access) : (s.setAccess a).phase = s.phase := rfl
@[simp] theorem State.setAccess_retention (a : Access) : (s.setAccess a).retention = s.retention := rfl
@[simp] theorem State.setAccess_lastStart (a : Access) : (s.setAccess a).lastStart = s.lastStart := rfl
@[simp] theorem State.setAccess_lines (a : Access) : (s.setAccess a).lines = s.lines := rfl
@[simp] theorem State.setAccess_slots (a : Access) : (s.setAccess a).slots = s.slots := rfl
@[simp] theorem State.setAccess_tallies (a : Access) : (s.setAccess a).tallies = s.tallies := rfl
@[simp] theorem State.setAccess_access (a : Access) : (s.setAccess a).access = s.access := rfl
@[simp] theorem State.setAccess_arb (a : Access) : (s.setAccess a).arb = { s.arb with access := a } := rfl
@[simp] theorem State.setAccess_bays (a : Access) : (s.setAccess a).bays = s.bays := rfl
@[simp] theorem State.setAccess_chamber (a : Access) : (s.setAccess a).chamber = s.chamber := rfl
@[simp] theorem State.setAccess_feed (a : Access) : (s.setAccess a).feed = s.feed := rfl
@[simp] theorem State.setAccess_zones (a : Access) : (s.setAccess a).zones = s.zones := rfl
@[simp] theorem State.setAccess_detectors (a : Access) : (s.setAccess a).detectors = s.detectors := rfl
@[simp] theorem State.setAccess_sensors (a : Access) : (s.setAccess a).sensors = s.sensors := rfl
@[simp] theorem State.setAccess_settings (a : Access) : (s.setAccess a).settings = s.settings := rfl
@[simp] theorem State.setAccess_line (a : Access) : (s.setAccess a).line = s.line := rfl
@[simp] theorem State.setAccess_plant (a : Access) : (s.setAccess a).plant = s.plant := rfl
@[simp] theorem State.setAccess_freeCount (a : Access) : (s.setAccess a).freeCount = s.freeCount := rfl
@[simp] theorem State.setAccess_pending (a : Access) : (s.setAccess a).pending = s.pending := rfl
@[simp] theorem State.setAccess_bay (a : Access) (b' : BayId) : (s.setAccess a).bay b' = s.bay b' := rfl
@[simp] theorem State.setAccess_record (a : Access) (j : Slot) : (s.setAccess a).record j = s.record j := rfl
@[simp] theorem State.setAccess_zone (a : Access) (z' : ZoneId) : (s.setAccess a).zone z' = s.zone z' := rfl
@[simp] theorem State.setAccess_detector (a : Access) (d' : DetId) : (s.setAccess a).detector d' = s.detector d' := rfl
@[simp] theorem State.setAccess_running (a : Access) : (s.setAccess a).running = s.running := rfl
@[simp] theorem State.setAccess_bayCfg (a : Access) (b' : BayId) : (s.setAccess a).bayCfg b' = s.bayCfg b' := rfl
@[simp] theorem State.setAccess_zoneCfg (a : Access) (z' : ZoneId) : (s.setAccess a).zoneCfg z' = s.zoneCfg z' := rfl
@[simp] theorem State.setAccess_classCfg (a : Access) (k : ClassId) : (s.setAccess a).classCfg k = s.classCfg k := rfl
@[simp] theorem State.setAccess_port (a : Access) (q : Port) : (s.setAccess a).port q = s.port q := by cases q <;> rfl

/-! ### The last update of a part counts -/

@[simp] theorem State.setFeed_setFeed (x y : Feed) : (s.setFeed x).setFeed y = s.setFeed y := rfl
@[simp] theorem State.setFeed_self : s.setFeed s.feed = s := rfl
@[simp] theorem State.setChamber_setChamber (x y : Chamber) : (s.setChamber x).setChamber y = s.setChamber y := rfl
@[simp] theorem State.setChamber_self : s.setChamber s.chamber = s := rfl
@[simp] theorem State.setArb_setArb (x y : Arbiter) : (s.setArb x).setArb y = s.setArb y := rfl
@[simp] theorem State.setArb_self : s.setArb s.arb = s := rfl
@[simp] theorem State.setTallies_setTallies (x y : Tallies) : (s.setTallies x).setTallies y = s.setTallies y := rfl
@[simp] theorem State.setTallies_self : s.setTallies s.tallies = s := rfl
@[simp] theorem State.setSettings_setSettings (x y : Settings) : (s.setSettings x).setSettings y = s.setSettings y := rfl
@[simp] theorem State.setSettings_self : s.setSettings s.settings = s := rfl
@[simp] theorem State.setLines_setLines (x y : Lines) : (s.setLines x).setLines y = s.setLines y := rfl
@[simp] theorem State.setLines_self : s.setLines s.lines = s := rfl

/-! ### setPort -/

@[simp] theorem State.setPort_phase (p : Port) (x : PortState) : (s.setPort p x).phase = s.phase := by cases p <;> rfl
@[simp] theorem State.setPort_retention (p : Port) (x : PortState) : (s.setPort p x).retention = s.retention := by cases p <;> rfl
@[simp] theorem State.setPort_lastStart (p : Port) (x : PortState) : (s.setPort p x).lastStart = s.lastStart := by cases p <;> rfl
@[simp] theorem State.setPort_lines (p : Port) (x : PortState) : (s.setPort p x).lines = s.lines := by cases p <;> rfl
@[simp] theorem State.setPort_slots (p : Port) (x : PortState) : (s.setPort p x).slots = s.slots := by cases p <;> rfl
@[simp] theorem State.setPort_tallies (p : Port) (x : PortState) : (s.setPort p x).tallies = s.tallies := by cases p <;> rfl
@[simp] theorem State.setPort_access (p : Port) (x : PortState) : (s.setPort p x).access = s.access := by cases p <;> rfl
@[simp] theorem State.setPort_arb (p : Port) (x : PortState) : (s.setPort p x).arb = s.arb := by cases p <;> rfl
@[simp] theorem State.setPort_bays (p : Port) (x : PortState) : (s.setPort p x).bays = s.bays := by cases p <;> rfl
@[simp] theorem State.setPort_chamber (p : Port) (x : PortState) : (s.setPort p x).chamber = s.chamber := by cases p <;> rfl
@[simp] theorem State.setPort_feed (p : Port) (x : PortState) : (s.setPort p x).feed = s.feed := by cases p <;> rfl
@[simp] theorem State.setPort_zones (p : Port) (x : PortState) : (s.setPort p x).zones = s.zones := by cases p <;> rfl
@[simp] theorem State.setPort_detectors (p : Port) (x : PortState) : (s.setPort p x).detectors = s.detectors := by cases p <;> rfl
@[simp] theorem State.setPort_sensors (p : Port) (x : PortState) : (s.setPort p x).sensors = s.sensors := by cases p <;> rfl
@[simp] theorem State.setPort_settings (p : Port) (x : PortState) : (s.setPort p x).settings = s.settings := by cases p <;> rfl
@[simp] theorem State.setPort_freeCount (p : Port) (x : PortState) : (s.setPort p x).freeCount = s.freeCount := by cases p <;> rfl
@[simp] theorem State.setPort_pending (p : Port) (x : PortState) : (s.setPort p x).pending = s.pending := by cases p <;> rfl
@[simp] theorem State.setPort_bay (p : Port) (x : PortState) (b' : BayId) : (s.setPort p x).bay b' = s.bay b' := by cases p <;> rfl
@[simp] theorem State.setPort_record (p : Port) (x : PortState) (j : Slot) : (s.setPort p x).record j = s.record j := by cases p <;> rfl
@[simp] theorem State.setPort_zone (p : Port) (x : PortState) (z' : ZoneId) : (s.setPort p x).zone z' = s.zone z' := by cases p <;> rfl
@[simp] theorem State.setPort_detector (p : Port) (x : PortState) (d' : DetId) : (s.setPort p x).detector d' = s.detector d' := by cases p <;> rfl
@[simp] theorem State.setPort_running (p : Port) (x : PortState) : (s.setPort p x).running = s.running := by cases p <;> rfl
@[simp] theorem State.setPort_bayCfg (p : Port) (x : PortState) (b' : BayId) : (s.setPort p x).bayCfg b' = s.bayCfg b' := by cases p <;> rfl
@[simp] theorem State.setPort_zoneCfg (p : Port) (x : PortState) (z' : ZoneId) : (s.setPort p x).zoneCfg z' = s.zoneCfg z' := by cases p <;> rfl
@[simp] theorem State.setPort_classCfg (p : Port) (x : PortState) (k : ClassId) : (s.setPort p x).classCfg k = s.classCfg k := by cases p <;> rfl

/-- The port just replaced. -/
@[simp] theorem State.setPort_port_same (p : Port) (x : PortState) : (s.setPort p x).port p = x := by cases p <;> rfl

/-- The other port. -/
theorem State.setPort_port_other (p q : Port) (x : PortState) (h : q ≠ p) : (s.setPort p x).port q = s.port q := by
  cases p <;> cases q <;> first | rfl | exact absurd rfl h

/-- Replacing a port by itself changes nothing. -/
@[simp] theorem State.setPort_self (p : Port) : s.setPort p (s.port p) = s := by cases p <;> rfl

/-- The last replacement of a port counts. -/
@[simp] theorem State.setPort_setPort (p : Port) (x y : PortState) : (s.setPort p x).setPort p y = s.setPort p y := by
  cases p <;> rfl

end Sys2Proof.Machine
end

