-- ==== Sys2Proof/Laws/Bank.lean ====
section
/-!
SUPPORT. Laws of banks: what a read gives after a write, and the parts of the state that are banks.
-/

namespace Sys2Proof

variable {α β : Type} {n : Nat}

/-- Two banks with the same items are the same. -/
theorem Bank.ext_list {a b : Bank α n} (h : a.1 = b.1) : a = b := Subtype.ext h

/-- The place just written. -/
@[simp] theorem Bank.get_set_same (b : Bank α n) (i : Fin n) (x : α) : (b.set i x).get i = x := by
  simp [Bank.get, Bank.set]

/-- Another place. -/
theorem Bank.get_set_other (b : Bank α n) (i j : Fin n) (x : α) (h : j ≠ i) : (b.set i x).get j = b.get j := by
  have : i.1 ≠ j.1 := fun e => h (Fin.ext e.symm)
  simp [Bank.get, Bank.set, this]

/-- Both cases of a read after a write. -/
theorem Bank.get_set (b : Bank α n) (i j : Fin n) (x : α) : (b.set i x).get j = if j = i then x else b.get j := by
  by_cases h : j = i
  · subst h; simp
  · simp [h, Bank.get_set_other b i j x h]

/-- Writing what a place holds changes nothing. -/
@[simp] theorem Bank.set_self (b : Bank α n) (i : Fin n) : b.set i (b.get i) = b := by
  apply Bank.ext_list; simp [Bank.set, Bank.get]

/-- The last write to a place counts. -/
@[simp] theorem Bank.set_set (b : Bank α n) (i : Fin n) (x y : α) : (b.set i x).set i y = b.set i y := by
  apply Bank.ext_list; simp [Bank.set]

/-- A bank filled with one item. -/
@[simp] theorem Bank.get_fill (i : Fin n) (x : α) : (Bank.fill n x).get i = x := by simp [Bank.get, Bank.fill]

/-- A mapped bank. -/
@[simp] theorem Bank.get_map (f : α → β) (b : Bank α n) (i : Fin n) : (b.map f).get i = f (b.get i) := by
  simp [Bank.get, Bank.map]

/-- Banks that agree in every place are the same. -/
theorem Bank.ext {a b : Bank α n} (h : ∀ i, a.get i = b.get i) : a = b := by
  apply Bank.ext_list
  apply List.ext_getElem
  · rw [a.2, b.2]
  · intro i h1 h2; exact h ⟨i, by have := a.2; omega⟩

/-- What `find` answers: a place that satisfies the test, with none below it. -/
theorem Bank.find_some {p : α → Bool} {b : Bank α n} {i : Fin n} (h : b.find p = some i) :
    p (b.get i) = true ∧ ∀ j, j < i → p (b.get j) = false := by
  unfold Bank.find at h
  split at h
  · next hlt =>
    cases h
    have hl : b.1.findIdx p < b.1.length := by rw [b.2]; exact hlt
    refine ⟨List.findIdx_getElem (w := hl), fun j hj => ?_⟩
    exact List.not_of_lt_findIdx hj
  · cases h

/-- `find` answers none when no place satisfies the test. -/
theorem Bank.find_none {p : α → Bool} {b : Bank α n} : b.find p = none ↔ ∀ i, p (b.get i) = false := by
  unfold Bank.find
  split
  · next hlt =>
    have hl : b.1.findIdx p < b.1.length := by rw [b.2]; exact hlt
    refine ⟨(fun h => by cases h), fun h => absurd (List.findIdx_getElem (w := hl)) ?_⟩
    have := h ⟨b.1.findIdx p, hlt⟩
    simpa [Bank.get] using this
  · next hge =>
    refine ⟨fun _ i => ?_, fun _ => rfl⟩
    have hi : i.1 < b.1.findIdx p := by have := i.2; omega
    exact List.not_of_lt_findIdx hi

/-- `find` answers the place that satisfies the test with none below it. -/
theorem Bank.find_eq {p : α → Bool} {b : Bank α n} {i : Fin n} (h : p (b.get i) = true)
    (hl : ∀ j, j < i → p (b.get j) = false) : b.find p = some i := by
  cases hf : b.find p with
  | none => exact absurd (Bank.find_none.mp hf i) (by simp [h])
  | some j =>
    have ⟨hj, hb⟩ := Bank.find_some hf
    rcases Nat.lt_trichotomy i.1 j.1 with hlt | heq | hgt
    · exact absurd (hb i hlt) (by simp [h])
    · exact congrArg some (Fin.ext heq.symm)
    · exact absurd (hl j hgt) (by simp [hj])

end Sys2Proof

namespace Sys2Proof.Machine

variable (s : State)

/-! ### Bays, records, zones and detectors -/

@[simp] theorem State.bay_setBay_same (b : BayId) (x : Bay) : (s.setBay b x).bay b = x := by
  simp [State.bay]

theorem State.bay_setBay (b c : BayId) (x : Bay) : (s.setBay b x).bay c = if c = b then x else s.bay c := by
  simp [State.bay, Bank.get_set]

@[simp] theorem State.setBay_self (b : BayId) : s.setBay b (s.bay b) = s := by simp [State.setBay, State.bay]

@[simp] theorem State.setBay_setBay (b : BayId) (x y : Bay) : (s.setBay b x).setBay b y = s.setBay b y := by
  simp [State.setBay]

@[simp] theorem State.record_setRecord_same (i : Slot) (r : Option Rec) : (s.setRecord i r).record i = r := by
  simp [State.record]

theorem State.record_setRecord (i j : Slot) (r : Option Rec) :
    (s.setRecord i r).record j = if j = i then r else s.record j := by
  simp [State.record, Bank.get_set]

@[simp] theorem State.setRecord_self (i : Slot) : s.setRecord i (s.record i) = s := by
  simp [State.setRecord, State.record]

@[simp] theorem State.setRecord_setRecord (i : Slot) (r q : Option Rec) :
    (s.setRecord i r).setRecord i q = s.setRecord i q := by
  simp [State.setRecord]

@[simp] theorem State.zone_setZone_same (z : ZoneId) (x : Zone) : (s.setZone z x).zone z = x := by
  simp [State.zone]

theorem State.zone_setZone (z y : ZoneId) (x : Zone) : (s.setZone z x).zone y = if y = z then x else s.zone y := by
  simp [State.zone, Bank.get_set]

@[simp] theorem State.setZone_self (z : ZoneId) : s.setZone z (s.zone z) = s := by simp [State.setZone, State.zone]

@[simp] theorem State.detector_setDetector_same (d : DetId) (x : Detector) : (s.setDetector d x).detector d = x := by
  simp [State.detector]

/-! ### Finding a record by its tag -/

/-- A tag that a live record holds, in a table where tags are unique, is found in that record's slot (R3). -/
theorem State.findTag_eq (h : s.TagsUnique) {i : Slot} {r : Rec} (hr : s.record i = some r) :
    s.findTag r.tag = some i := by
  apply Bank.find_eq
  · have : s.slots.get i = some r := hr
    simp [this]
  · intro j hj
    cases hq : s.slots.get j with
    | none => simp
    | some q =>
      have hne : q.tag ≠ r.tag := fun e => by
        have := h j i q r hq hr e
        subst this; exact absurd hj (Nat.lt_irrefl _)
      simp [hne]

/-- No slot is found for a tag exactly when no live record holds it. -/
theorem State.findTag_none (tag : Nat) : s.findTag tag = none ↔ ∀ i r, s.record i = some r → r.tag ≠ tag := by
  unfold State.findTag
  rw [Bank.find_none]
  constructor
  · intro h i r hr
    have := h i
    have hg : s.slots.get i = some r := hr
    simpa [hg] using this
  · intro h i
    cases hq : s.slots.get i with
    | none => simp
    | some q => simpa using h i q hq

/-- The slot found for a tag holds a live record with that tag. -/
theorem State.findTag_some {tag : Nat} {i : Slot} (h : s.findTag tag = some i) :
    ∃ r, s.record i = some r ∧ r.tag = tag := by
  have ⟨hp, _⟩ := Bank.find_some h
  cases hq : s.slots.get i with
  | none => simp [hq] at hp
  | some q => exact ⟨q, hq, by simpa [hq] using hp⟩

end Sys2Proof.Machine
end

