-- ==== Sys2Proof/Laws/Grants.lean ====
section
/-!
SUPPORT. What the shared operations can do: answers, attention, waiting writes, and a request at a free table.
-/

namespace Sys2Proof.Machine

variable (s : State)

/-! ### Answers -/

/-- What building an answer does: the port's request is answered with its marks as they stand (R187). -/
theorem State.answer_eq (p : Port) (echo : Nat) (rep : Reply) :
    s.answer p echo rep = s.setPort p { s.port p with
      inFlight := some (.answered
        { echo, status := rep.status, lockExpired := (s.port p).lockMark, restart := (s.port p).restartMark,
          results := rep.results } false) } := rfl

@[simp] theorem State.answer_arb (p : Port) (e : Nat) (r : Reply) : (s.answer p e r).arb = s.arb := by
  simp [State.answer]

@[simp] theorem State.answer_bays (p : Port) (e : Nat) (r : Reply) : (s.answer p e r).bays = s.bays := by
  simp [State.answer]

@[simp] theorem State.answer_bay (p : Port) (e : Nat) (r : Reply) (b : BayId) : (s.answer p e r).bay b = s.bay b := by
  simp [State.answer]

@[simp] theorem State.answer_pending (p : Port) (e : Nat) (r : Reply) : (s.answer p e r).pending = s.pending := by
  simp [State.answer]

/-- The answered port waits no longer at the arbiter. -/
@[simp] theorem State.answer_waiting_same (p : Port) (e : Nat) (r : Reply) :
    ((s.answer p e r).port p).waitingRequest = none := by
  simp [State.answer, PortState.waitingRequest]

/-- Moving the arbiter and building an answer do not touch each other. -/
theorem State.answer_setAccess (p : Port) (e : Nat) (r : Reply) (a : Access) :
    (s.answer p e r).setAccess a = (s.setAccess a).answer p e r := by
  cases p <;> rfl

/-! ### Attention -/

@[simp] theorem State.raisePort_stopped (p : Port) (f : Attn → Attn) (h : s.running = false) : s.raisePort p f = s := by
  simp [State.raisePort, h]

/-- Attention raised changes the two ports alone. -/
theorem State.raise_frame (f : Attn → Attn) : ∃ x y, s.raise f = { s with line := x, plant := y } := by
  unfold State.raise State.raisePort
  by_cases h : s.running = true
  · refine ⟨s.line.attend f, s.plant.attend f, ?_⟩
    have h2 : (s.setPort .line ((s.port .line).attend f)).running = true := by simpa using h
    simp only [h, if_true, h2]
    rfl
  · refine ⟨s.line, s.plant, ?_⟩
    simp [h]

/-! ### Waiting writes -/

/-- What waking the arbiter does (R32). -/
theorem State.wake_eq (e : Engine) :
    s.wake e = if s.arb.access = .parked then s.setAccess (.engine e) else s := by
  unfold State.wake State.setAccess
  cases h : s.arb.access <;> simp

@[simp] theorem State.wake_setAccess (e : Engine) (a : Access) : (s.wake e).setAccess a = s.setAccess a := by
  rw [s.wake_eq]; split <;> rfl

/-- A write of the Feed Controller asked for while a port holds the grant. -/
theorem State.askFeed_setAccess (p : Port) (w : FeedWrite) :
    (s.setAccess (.port p)).askFeed w = (s.askFeed w).setAccess (.port p) := by
  unfold State.askFeed; rw [State.wake_setAccess]; rfl

/-- A write of a bay channel asked for while a port holds the grant. -/
theorem State.askBay_setAccess (p : Port) (b : BayId) (w : BayWrite) :
    (s.setAccess (.port p)).askBay b w = (s.askBay b w).setAccess (.port p) := by
  unfold State.askBay; rw [State.wake_setAccess]; rfl

/-! ### A request at a free table -/

/-- The end of a grant after which no port request comes next (R32, R33). -/
theorem State.endGrant_next (n : Nat) (h : ∀ q, s.nextAccess ≠ .port q) : s.endGrant n = s.setAccess s.nextAccess := by
  cases n with
  | zero => rfl
  | succ n =>
    unfold State.endGrant
    cases hn : s.nextAccess with
    | parked => rfl
    | engine e => rfl
    | port q => exact absurd hn (h q)

/-- With nothing waiting the end of a grant parks the arbiter (R32). -/
theorem State.endGrant_quiet (n : Nat) (hw : s.NoWrites) (hp : s.plant.waitingRequest = none)
    (hl : s.line.waitingRequest = none) : s.endGrant n = s.setAccess .parked := by
  have hn : s.nextAccess = .parked := by
    unfold State.nextAccess
    have hb : s.bays.find (fun x => !x.writes.isEmpty) = none := by
      rw [Bank.find_none]; intro i; have := hw.2.2 i; simp [State.bay] at this; simp [this]
    simp [hw.1, hw.2.1, hb, hp, hl]
  cases n <;> simp [State.endGrant, hn]

/-- A PARKED arbiter set to PARKED. -/
theorem State.setAccess_parked (h : s.arb.access = .parked) : s.setAccess .parked = s := by
  cases s with
  | mk _ _ _ _ _ _ _ arb => cases arb; simp_all [State.setAccess, State.setArb]

@[simp] theorem State.setAccess_setAccess (a b : Access) : (s.setAccess a).setAccess b = s.setAccess b := rfl

/-- A request that takes a grant, at a free table, is carried out at once (R31, R32): its definition runs with the arbiter
given to the port, its answer is built, and the grant ends. -/
theorem State.granted_free {p : Port} {req : Instr} {rep : Reply} {t : State} (hf : s.Free p)
    (ha : portAccepts req = true) (ho : operandsOk req = true)
    (hs : serveGrant req (s.setAccess (.port p)) = some (rep, t)) :
    s.granted p req = (t.answer p req.code rep).endGrant 2 := by
  obtain ⟨⟨h1, h2⟩, h3, _⟩ := hf
  simp [State.granted, State.receive, h1, h2, ha, ho, State.reachArbiter, h3, State.grantPort, hs]

/-- The same, when the definition asks for no write: the arbiter is PARKED again. -/
theorem State.granted_quiet {p : Port} {req : Instr} {rep : Reply} {t : State} (hf : s.Free p)
    (ha : portAccepts req = true) (ho : operandsOk req = true)
    (hs : serveGrant req (s.setAccess (.port p)) = some (rep, t)) (hw : t.NoWrites)
    (hl : t.line.waitingRequest = none) (hp : t.plant.waitingRequest = none) :
    s.granted p req = (t.setAccess .parked).answer p req.code rep := by
  rw [s.granted_free hf ha ho hs, State.endGrant_quiet, State.answer_setAccess]
  · exact ⟨by simpa using hw.1, by simpa using hw.2.1, fun b => by simpa using hw.2.2 b⟩
  · cases p
    · exact hp
    · exact State.answer_waiting_same t .plant _ _
  · cases p
    · exact State.answer_waiting_same t .line _ _
    · exact hl

/-- A request granted at once ends with the arbiter where `t` has it, when that is the next requester's state (R32, R33) and
no port request waits. -/
theorem State.granted_settles {p : Port} {req : Instr} {rep : Reply} {t : State} (hf : s.Free p)
    (ha : portAccepts req = true) (ho : operandsOk req = true)
    (hs : serveGrant req (s.setAccess (.port p)) = some (rep, t.setAccess (.port p)))
    (hl : t.line.waitingRequest = none) (hp : t.plant.waitingRequest = none) (hn : t.nextAccess = t.arb.access) :
    s.granted p req = t.answer p req.code rep := by
  have hl' : ((t.setAccess (.port p)).answer p req.code rep).line.waitingRequest = none := by
    cases p
    · exact State.answer_waiting_same _ .line _ _
    · exact hl
  have hp' : ((t.setAccess (.port p)).answer p req.code rep).plant.waitingRequest = none := by
    cases p
    · exact hp
    · exact State.answer_waiting_same _ .plant _ _
  have hn' : ((t.setAccess (.port p)).answer p req.code rep).nextAccess = t.arb.access := by
    rw [← hn]; simp only [State.nextAccess, hl', hp', hl, hp, State.answer_arb, State.answer_bays]; rfl
  have hnp : ∀ q, t.arb.access ≠ .port q := by
    intro q hq; rw [← hn] at hq; unfold State.nextAccess at hq
    simp only [hl, hp] at hq
    split at hq <;> try cases hq
    split at hq <;> try cases hq
    split at hq <;> simp at hq
  rw [s.granted_free hf ha ho hs]
  have hback : ((t.setAccess (.port p)).answer p req.code rep).setAccess t.arb.access = t.answer p req.code rep := by
    rw [State.answer_setAccess]; rfl
  rw [State.endGrant_next _ _ (by rw [hn']; exact hnp), hn', hback]

/-- The next state of the arbiter depends on the waiting writes and requests alone. -/
theorem State.nextAccess_quiet (hw : s.NoWrites) (hp : s.plant.waitingRequest = none)
    (hl : s.line.waitingRequest = none) : s.nextAccess = .parked := by
  have hb : s.bays.find (fun x => !x.writes.isEmpty) = none := by
    rw [Bank.find_none]; intro i; have := hw.2.2 i; simp [State.bay] at this; simp [this]
  simp [State.nextAccess, hw.1, hw.2.1, hb, hp, hl]

/-- The same, for a state with the arbiter and the waiting writes as a free table has them. -/
theorem State.granted_calm {p : Port} {req : Instr} {rep : Reply} {t : State} (hf : s.Free p)
    (ha : portAccepts req = true) (ho : operandsOk req = true)
    (hs : serveGrant req (s.setAccess (.port p)) = some (rep, t.setAccess (.port p)))
    (hl : t.line = s.line) (hp : t.plant = s.plant) (hb : t.bays = s.bays) (hacc : t.arb.access = s.arb.access)
    (hsw : t.arb.sweeps = s.arb.sweeps) (hfw : t.arb.feedWrites = s.arb.feedWrites) :
    s.granted p req = t.answer p req.code rep := by
  have hq := hf.2
  refine s.granted_settles hf ha ho hs (by rw [hl]; exact hq.2.2.1) (by rw [hp]; exact hq.2.2.2) ?_
  rw [hacc, hq.1]
  refine t.nextAccess_quiet ⟨hsw ▸ hq.2.1.1, hfw ▸ hq.2.1.2.1, fun b => ?_⟩ (by rw [hp]; exact hq.2.2.2)
    (by rw [hl]; exact hq.2.2.1)
  have := hq.2.1.2.2 b
  simp only [State.bay] at this ⊢
  rw [hb]; exact this

/-- What exec answers for a request granted so. -/
theorem State.exec_granted_calm {p : Port} {req : Instr} {rep : Reply} {t : State} (hf : s.Free p)
    (he : exec req s = .next (s.granted p req)) (ha : portAccepts req = true) (ho : operandsOk req = true)
    (hs : serveGrant req (s.setAccess (.port p)) = some (rep, t.setAccess (.port p)))
    (hl : t.line = s.line) (hp : t.plant = s.plant) (hb : t.bays = s.bays) (hacc : t.arb.access = s.arb.access)
    (hsw : t.arb.sweeps = s.arb.sweeps) (hfw : t.arb.feedWrites = s.arb.feedWrites) :
    exec req s = .next (t.answer p req.code rep) := by
  rw [he, s.granted_calm hf ha ho hs hl hp hb hacc hsw hfw]

/-- What exec answers for a request whose grant may ask for writes. -/
theorem State.exec_granted_settles {p : Port} {req : Instr} {rep : Reply} {t : State} (hf : s.Free p)
    (he : exec req s = .next (s.granted p req)) (ha : portAccepts req = true) (ho : operandsOk req = true)
    (hs : serveGrant req (s.setAccess (.port p)) = some (rep, t.setAccess (.port p)))
    (hl : t.line.waitingRequest = none) (hp : t.plant.waitingRequest = none) (hn : t.nextAccess = t.arb.access) :
    exec req s = .next (t.answer p req.code rep) := by
  rw [he, s.granted_settles hf ha ho hs hl hp hn]

/-! ### What a grant reads does not depend on the arbiter's state -/

@[simp] theorem State.setAccess_findTag (a : Access) (tag : Nat) : (s.setAccess a).findTag tag = s.findTag tag := rfl

@[simp] theorem State.setAccess_sees (a : Access) (p : Port) (i : Slot) : (s.setAccess a).sees p i = s.sees p i := by
  cases p <;> rfl

@[simp] theorem State.setAccess_mayChange (a : Access) (p : Port) (i : Slot) :
    (s.setAccess a).mayChange p i = s.mayChange p i := by
  cases p <;> rfl

@[simp] theorem State.setAccess_lockedOut (a : Access) (p : Port) : (s.setAccess a).lockedOut p = s.lockedOut p := rfl

@[simp] theorem State.setAccess_visible (a : Access) (p : Port) (i : Slot) : (s.setAccess a).visible p i = s.visible p i := by
  cases p <;> rfl

@[simp] theorem State.setAccess_fieldMask (a : Access) (p : Port) : (s.setAccess a).fieldMask p = s.fieldMask p := by
  cases p <;> rfl

/-- The checks of R13 passed by a port, with the arbiter in another state. -/
theorem State.mayAct_setAccess {p : Port} {i : Slot} {r : Rec} (a : Access) (h : s.MayAct p i r) :
    (s.setAccess a).MayAct p i r := by
  simpa [State.MayAct] using h

/-- A request that passes checks 3, 4 and 5 of R13 comes to its own checks. -/
theorem State.onRecord_mayAct {p : Port} {i : Slot} {r : Rec} {f : Slot → Rec → Reply × State} (h : s.MayAct p i r) :
    s.onRecord p (some i) f = f i r := by
  obtain ⟨h1, h2, h3, h4⟩ := h
  simp [State.onRecord, State.visible, h1, h2, h3, h4]

/-- A request on a record found by its tag comes to its own checks. -/
theorem State.anyRecord_eq {i : Slot} {r : Rec} {f : Slot → Rec → Reply × State} (hu : s.TagsUnique)
    (hr : s.record i = some r) : s.anyRecord r.tag f = f i r := by
  simp [State.anyRecord, s.findTag_eq hu hr, hr]

/-! ### Admission evaluated in a grant -/

/-- Evaluating admission while a port holds the grant leaves the arbiter with the port (R32, R139). -/
theorem State.evalAdmission_setAccess (p : Port) :
    (s.setAccess (.port p)).evalAdmission = s.evalAdmission.setAccess (.port p) := by
  by_cases hc : s.admits = true ∧ s.feed.admissionWaiting = false
  · have hc' : (s.setAccess (.port p)).admits = true ∧ (s.setAccess (.port p)).feed.admissionWaiting = false := hc
    unfold State.evalAdmission
    rw [if_pos hc, if_pos hc']
    cases hq : s.feed.queue with
    | nil => simp [hq]
    | cons e l =>
      simp only [State.setAccess_feed, hq]
      rw [← State.askFeed_setAccess]; rfl
  · have hc' : ¬ ((s.setAccess (.port p)).admits = true ∧ (s.setAccess (.port p)).feed.admissionWaiting = false) := hc
    unfold State.evalAdmission
    rw [if_neg hc, if_neg hc']

/-- Evaluating admission changes the Feed Controller and the arbiter alone. -/
theorem State.evalAdmission_frame : ∃ f a, s.evalAdmission = { s with feed := f, arb := a } := by
  unfold State.evalAdmission
  split
  · cases hq : s.feed.queue with
    | nil => exact ⟨s.feed, s.arb, rfl⟩
    | cons e l =>
      simp only [State.askFeed, State.wake]
      cases (s.setFeed { s.feed with admissionWaiting := true }).arb.access <;> exact ⟨_, _, rfl⟩
  · exact ⟨s.feed, s.arb, rfl⟩

@[simp] theorem State.evalAdmission_line : s.evalAdmission.line = s.line := by
  obtain ⟨f, a, h⟩ := s.evalAdmission_frame; rw [h]

@[simp] theorem State.evalAdmission_plant : s.evalAdmission.plant = s.plant := by
  obtain ⟨f, a, h⟩ := s.evalAdmission_frame; rw [h]

/-- Admission evaluated at a quiet table: the arbiter is where the next requester has it. -/
theorem State.evalAdmission_settles (h : s.Quiet) : s.evalAdmission.nextAccess = s.evalAdmission.arb.access := by
  obtain ⟨ha, hw, hl, hp⟩ := h
  have hn := s.nextAccess_quiet hw hp hl
  unfold State.evalAdmission
  split
  · cases hq : s.feed.queue with
    | nil => simp only [ha, hn]
    | cons e l =>
      simp only [State.askFeed, State.wake, State.setFeed_arb, State.setArb_arb, ha]
      simp [State.nextAccess, hw.1]
  · rw [ha, hn]

/-- A request that takes no grant, on a port that takes it (R35). -/
theorem State.served_eq {p : Port} {req : Instr} {f : State → Reply × State} (ht : s.Takes p)
    (ha : portAccepts req = true) (ho : operandsOk req = true) :
    s.served p req f = (f s).2.answer p req.code (f s).1 := by
  simp [State.served, State.receive, ht.1, ht.2, ha, ho]

/-- A request that takes a grant waits while the arbiter is not PARKED (R31). -/
theorem State.granted_waits {p : Port} {req : Instr} (ht : s.Takes p) (ha : portAccepts req = true)
    (ho : operandsOk req = true) (hp : s.arb.access ≠ .parked) :
    s.granted p req = s.setPort p { s.port p with inFlight := some (.waiting req) } := by
  simp only [State.granted, State.receive, ht.1, ht.2, ha, ho, State.reachArbiter]
  cases h : s.arb.access <;> simp_all

/-! ### The lists of the feed -/

/-- A new entry joins the shredder path while there is room for it, and nothing else of the feed changes (R149). -/
theorem Feed.joinPath_eq (f : Feed) (x : PathEntry) :
    f.joinPath x = { f with path := if f.path.length < 8 then f.path ++ [x] else f.path } := rfl

/-- The path list never outgrows its room (Table 7-1). -/
theorem Feed.joinPath_length (f : Feed) (x : PathEntry) (h : f.path.length ≤ 8) : (f.joinPath x).path.length ≤ 8 := by
  simp only [Feed.joinPath_eq]
  split
  · simpa using by omega
  · exact h

@[simp] theorem Feed.joinPath_queue (f : Feed) (x : PathEntry) : (f.joinPath x).queue = f.queue := rfl
@[simp] theorem Feed.joinPath_gate (f : Feed) (x : PathEntry) : (f.joinPath x).gate = f.gate := rfl
@[simp] theorem Feed.joinPath_gateOpen (f : Feed) (x : PathEntry) : (f.joinPath x).gateOpen = f.gateOpen := rfl
@[simp] theorem Feed.joinPath_memory (f : Feed) (x : PathEntry) : (f.joinPath x).memory = f.memory := rfl
@[simp] theorem Feed.leave_queue (f : Feed) (e : Entry) :
    (f.leave e).queue = f.queue.filter (fun x => decide (x.slot ≠ e.slot)) := rfl
@[simp] theorem Feed.leave_path (f : Feed) (e : Entry) : (f.leave e).path = f.path := rfl
@[simp] theorem Feed.leavePath_queue (f : Feed) (e : Entry) : (f.leavePath e).queue = f.queue := rfl
@[simp] theorem Feed.leavePath_path (f : Feed) (e : Entry) :
    (f.leavePath e).path = f.path.filter (fun x => decide (x.slot ≠ e.slot)) := rfl

end Sys2Proof.Machine
end

