-- ==== Sys2Proof/Laws/Events.lean ====
section
/-!
SUPPORT. What attention, admission and the chamber's moves do in a running part, and the operands as the numbers they are.
-/

namespace Sys2Proof.Machine

variable (s : State)

/-! ### Operands -/

@[simp] theorem bayOf_val (b : BayId) : bayOf b.1 = some b := by simp [bayOf, b.2]

@[simp] theorem zoneOf_val (z : ZoneId) : zoneOf z.1 = some z := by simp [zoneOf, z.2]

@[simp] theorem classOf_val (c : ClassId) : classOf c.1 = some c := by simp [classOf, c.2]

@[simp] theorem slotOf_val (i : Slot) : slotOf i.1 = some i := by simp [slotOf, i.2]

@[simp] theorem detOf_val (d : DetId) : detOf d.1 = some d := by simp [detOf, d.2]

/-! ### Taking a fault -/

/-- The state a fault is entered from: the run state of the bay, or the one it is held from (R57, R108). -/
theorem Bay.enteredFrom_eq {x : Bay} {g : RunState} (h : x.mode = g.mode ∨ (x.mode = .held ∧ x.heldFrom = some g)) :
    x.enteredFrom = g.mode := by
  unfold Bay.enteredFrom
  rcases h with h | ⟨h, k⟩
  · rw [h]; cases g <;> rfl
  · rw [h, k]

/-- A link loss is always latched (R61, R107). -/
@[simp] theorem retries_linkLost (mode : FaultMode) (x : Bay) (n : Nat) : retries mode x .linkLost n = none := by
  simp [retries, FaultCause.retryKind]

/-! ### The end of a LINK_LOST fault -/

/-- A bound bay keeps its LINK_LOST fault through a frame (R109). -/
@[simp] theorem State.endLinkLoss_bound {b : BayId} {e : Entry} (h : (s.bay b).binding = some e) : s.endLinkLoss b = s := by
  simp [State.endLinkLoss, h]

/-- An unbound bay leaves it for its rest state (R109; log entry 30). -/
theorem State.endLinkLoss_unbound {b : BayId} {f : FaultRec} (hm : (s.bay b).mode = .faulted) (hu : (s.bay b).binding = none)
    (hf : (s.bay b).fault = some f) (hc : f.cause = .linkLost) :
    s.endLinkLoss b = s.setBay b { s.bay b with mode := s.restState b, fault := none } := by
  simp [State.endLinkLoss, hm, hu, hf, hc]

/-! ### A running part -/

/-- A port that takes a request belongs to a running part (R196). -/
theorem State.Takes.running {p : Port} (h : s.Takes p) : s.running = true := by
  have := h.1; simp [State.takesFrame] at this; exact this.1

/-- Attention raised in a running part joins both pending sets (R188). -/
theorem State.raise_eq (h : s.running = true) (f : Attn → Attn) :
    s.raise f = { s with line := s.line.attend f, plant := s.plant.attend f } := by
  unfold State.raise State.raisePort
  have h2 : (s.setPort .line ((s.port .line).attend f)).running = true := by simpa using h
  simp only [h, if_true, h2]; rfl

@[simp] theorem State.whenRunning_running (h : s.running = true) (f : State → State) : s.whenRunning f = f s := by
  simp [State.whenRunning, h]

@[simp] theorem State.whenRunning_stopped (h : s.running = false) (f : State → State) : s.whenRunning f = s := by
  simp [State.whenRunning, h]

/-! ### Admission -/

/-- Outside INERT no record is admitted (condition 2 of R139). -/
theorem State.admits_chamber (h : s.chamber.state ≠ .inert) : s.admits = false := by
  simp [State.admits, State.admissionConditions, h]

/-- With the throat line deasserted no record is admitted (condition 3 of R139). -/
theorem State.admits_throat (h : s.lines.throatEmpty = false) : s.admits = false := by
  simp [State.admits, State.admissionConditions, h]

/-- While the feed fault is present no record is admitted (condition 4 of R139, R150). -/
theorem State.admits_fault (h : s.feed.faults.present = true) : s.admits = false := by
  simp [State.admits, State.admissionConditions, h]

/-- Evaluated with a condition failing, admission asks for nothing (R139). -/
theorem State.evalAdmission_refused (h : s.admits = false) : s.evalAdmission = s := by
  simp [State.evalAdmission, h]

/-- Outside INERT evaluating admission changes nothing. -/
@[simp] theorem State.evalAdmission_outside (h : s.chamber.state ≠ .inert) : s.evalAdmission = s :=
  s.evalAdmission_refused (s.admits_chamber h)

/-- Admission evaluated twice asks for one write (R139). -/
@[simp] theorem State.evalAdmission_twice : s.evalAdmission.evalAdmission = s.evalAdmission := by
  by_cases h : s.admits = true ∧ s.feed.admissionWaiting = false
  · cases hq : s.feed.queue with
    | nil =>
      have : s.evalAdmission = s := by simp [State.evalAdmission, hq]
      rw [this, this]
    | cons e l =>
      have hw : s.evalAdmission.feed.admissionWaiting = true := by
        unfold State.evalAdmission
        rw [if_pos h]
        simp only [hq]
        unfold State.askFeed State.wake
        split <;> rfl
      generalize s.evalAdmission = t at hw
      unfold State.evalAdmission
      rw [if_neg (by simp [hw])]
  · have : s.evalAdmission = s := by unfold State.evalAdmission; rw [if_neg h]
    rw [this, this]

/-- A state that agrees with a quiet one in what waits is quiet. -/
theorem State.Quiet.same {s t : State} (h : s.Quiet) (hl : t.line = s.line) (hp : t.plant = s.plant) (hb : t.bays = s.bays)
    (ha : t.arb = s.arb) : t.Quiet := by
  refine ⟨by rw [ha]; exact h.1, ⟨by rw [ha]; exact h.2.1.1, by rw [ha]; exact h.2.1.2.1, fun b => ?_⟩,
    by rw [hl]; exact h.2.2.1, by rw [hp]; exact h.2.2.2⟩
  have := h.2.1.2.2 b
  simp only [State.bay] at this ⊢; rw [hb]; exact this

/-- What exec answers for a request whose grant ends by evaluating admission. -/
theorem State.exec_granted_evaluates {p : Port} {req : Instr} {rep : Reply} {t : State} (hf : s.Free p)
    (he : exec req s = .next (s.granted p req)) (ha : portAccepts req = true) (ho : operandsOk req = true)
    (hs : serveGrant req (s.setAccess (.port p)) = some (rep, (t.setAccess (.port p)).evalAdmission))
    (ht : t.Quiet) : exec req s = .next (t.evalAdmission.answer p req.code rep) := by
  refine State.exec_granted_settles _ hf he ha ho (by rw [hs, State.evalAdmission_setAccess]) ?_ ?_
    (t.evalAdmission_settles ht)
  · rw [State.evalAdmission_line]; exact ht.2.2.1
  · rw [State.evalAdmission_plant]; exact ht.2.2.2

/-! ### The feed's parts -/

/-- The memory cleared when it names a record, as one update of the Feed Controller (R137, R138, R140). -/
theorem State.forget_eq (e : Entry) : s.forget e = s.setFeed { s.feed with
    memory := if s.feed.memory.map (fun m => (m.slot, m.tag)) = some (e.slot, e.tag) then none else s.feed.memory } := by
  have hs : s.setFeed { s.feed with memory := s.feed.memory } = s := rfl
  unfold State.forget
  cases hm : s.feed.memory with
  | none => rw [hm] at hs; simpa using hs.symm
  | some m =>
    by_cases h : m.slot = e.slot ∧ m.tag = e.tag
    · simp [h]
    · rw [hm] at hs; simpa [h] using hs.symm

/-! ### Looking things up -/

/-- A bank has an item with a property exactly when one of its places has it. -/
theorem Bank.any_iff {α : Type} {n : Nat} (b : Bank α n) (p : α → Bool) :
    b.1.any p = true ↔ ∃ i, p (b.get i) = true := by
  rw [List.any_eq_true]
  constructor
  · rintro ⟨x, hx, h⟩
    obtain ⟨i, hi, e⟩ := List.getElem_of_mem hx
    exact ⟨⟨i, by have := b.2; omega⟩, by simpa [Bank.get, e] using h⟩
  · rintro ⟨i, h⟩
    exact ⟨b.get i, List.getElem_mem _, h⟩

/-- A write finds the live record it names in the stage it expects (R8). -/
theorem State.expect_some {s : State} {e : Entry} {g : Stage} {r : Rec}
    (h : s.record e.slot = some r ∧ r.tag = e.tag ∧ r.stage = g) : s.expect e g = some r := by
  simp [State.expect, State.named, h]

/-- A write whose record has gone, or stands in another stage, finds none (R8). -/
theorem State.expect_none {s : State} {e : Entry} {g : Stage}
    (h : ∀ r, ¬ (s.record e.slot = some r ∧ r.tag = e.tag ∧ r.stage = g)) : s.expect e g = none := by
  unfold State.expect State.named
  cases hr : s.record e.slot with
  | none => rfl
  | some r =>
    by_cases ht : r.tag = e.tag
    · have := h r
      simp [ht, hr] at this
      simp [ht, this]
    · simp [ht]

/-- The settings of a set class (Table 9-1). -/
theorem State.classCfg_eq (c : ClassId) (k : ClassCfg) (h : s.settings.classes.get c = some k) : s.classCfg c = k := by
  simp [State.classCfg, h]

/-- An empty pending set asserts no line (R189). -/
@[simp] theorem Attn.asserts_empty (m : BitVec 6) : Attn.asserts {} m = false := by simp [Attn.asserts, Bank.fill]

/-- A part in any phase but running does not run (R194, R196). -/
theorem State.running_false (h : s.phase ≠ .running) : s.running = false := by simp [State.running, h]

end Sys2Proof.Machine
end

