-- ==== Sys2Proof/Laws/Frames.lean ====
section
/-!
SUPPORT. The frames of the shared operations: which parts of the state each leaves as they are.
-/

namespace Sys2Proof.Machine

variable (s : State)

/-- A fold of operations that each leave a part of the state leaves that part. -/
theorem foldl_frame {α β : Type} (g : State → β) (f : State → α → State) (h : ∀ t a, g (f t a) = g t) (l : List α)
    (t : State) : g (l.foldl f t) = g t := by
  induction l generalizing t with
  | nil => rfl
  | cons a l ih => rw [List.foldl_cons, ih, h]

/-! ### modBay -/

@[simp] theorem State.modBay_phase (b : BayId) (f : Bay → Bay) : (s.modBay b f).phase = s.phase := by
  unfold State.modBay; try dsimp only
  (repeat' split) <;> simp
@[simp] theorem State.modBay_retention (b : BayId) (f : Bay → Bay) : (s.modBay b f).retention = s.retention := by
  unfold State.modBay; try dsimp only
  (repeat' split) <;> simp
@[simp] theorem State.modBay_lastStart (b : BayId) (f : Bay → Bay) : (s.modBay b f).lastStart = s.lastStart := by
  unfold State.modBay; try dsimp only
  (repeat' split) <;> simp
@[simp] theorem State.modBay_lines (b : BayId) (f : Bay → Bay) : (s.modBay b f).lines = s.lines := by
  unfold State.modBay; try dsimp only
  (repeat' split) <;> simp
@[simp] theorem State.modBay_slots (b : BayId) (f : Bay → Bay) : (s.modBay b f).slots = s.slots := by
  unfold State.modBay; try dsimp only
  (repeat' split) <;> simp
@[simp] theorem State.modBay_tallies (b : BayId) (f : Bay → Bay) : (s.modBay b f).tallies = s.tallies := by
  unfold State.modBay; try dsimp only
  (repeat' split) <;> simp
@[simp] theorem State.modBay_access (b : BayId) (f : Bay → Bay) : (s.modBay b f).access = s.access := by
  unfold State.modBay; try dsimp only
  (repeat' split) <;> simp
@[simp] theorem State.modBay_arb (b : BayId) (f : Bay → Bay) : (s.modBay b f).arb = s.arb := by
  unfold State.modBay; try dsimp only
  (repeat' split) <;> simp
@[simp] theorem State.modBay_chamber (b : BayId) (f : Bay → Bay) : (s.modBay b f).chamber = s.chamber := by
  unfold State.modBay; try dsimp only
  (repeat' split) <;> simp
@[simp] theorem State.modBay_feed (b : BayId) (f : Bay → Bay) : (s.modBay b f).feed = s.feed := by
  unfold State.modBay; try dsimp only
  (repeat' split) <;> simp
@[simp] theorem State.modBay_zones (b : BayId) (f : Bay → Bay) : (s.modBay b f).zones = s.zones := by
  unfold State.modBay; try dsimp only
  (repeat' split) <;> simp
@[simp] theorem State.modBay_detectors (b : BayId) (f : Bay → Bay) : (s.modBay b f).detectors = s.detectors := by
  unfold State.modBay; try dsimp only
  (repeat' split) <;> simp
@[simp] theorem State.modBay_sensors (b : BayId) (f : Bay → Bay) : (s.modBay b f).sensors = s.sensors := by
  unfold State.modBay; try dsimp only
  (repeat' split) <;> simp
@[simp] theorem State.modBay_settings (b : BayId) (f : Bay → Bay) : (s.modBay b f).settings = s.settings := by
  unfold State.modBay; try dsimp only
  (repeat' split) <;> simp
@[simp] theorem State.modBay_line (b : BayId) (f : Bay → Bay) : (s.modBay b f).line = s.line := by
  unfold State.modBay; try dsimp only
  (repeat' split) <;> simp
@[simp] theorem State.modBay_plant (b : BayId) (f : Bay → Bay) : (s.modBay b f).plant = s.plant := by
  unfold State.modBay; try dsimp only
  (repeat' split) <;> simp
@[simp] theorem State.modBay_freeCount (b : BayId) (f : Bay → Bay) : (s.modBay b f).freeCount = s.freeCount := by
  unfold State.modBay; try dsimp only
  (repeat' split) <;> simp
@[simp] theorem State.modBay_pending (b : BayId) (f : Bay → Bay) : (s.modBay b f).pending = s.pending := by
  unfold State.modBay; try dsimp only
  (repeat' split) <;> simp
@[simp] theorem State.modBay_record (b : BayId) (f : Bay → Bay) (j : Slot) : (s.modBay b f).record j = s.record j := by
  unfold State.modBay; try dsimp only
  (repeat' split) <;> simp
@[simp] theorem State.modBay_zone (b : BayId) (f : Bay → Bay) (z' : ZoneId) : (s.modBay b f).zone z' = s.zone z' := by
  unfold State.modBay; try dsimp only
  (repeat' split) <;> simp
@[simp] theorem State.modBay_detector (b : BayId) (f : Bay → Bay) (d' : DetId) : (s.modBay b f).detector d' = s.detector d' := by
  unfold State.modBay; try dsimp only
  (repeat' split) <;> simp
@[simp] theorem State.modBay_running (b : BayId) (f : Bay → Bay) : (s.modBay b f).running = s.running := by
  unfold State.modBay; try dsimp only
  (repeat' split) <;> simp
@[simp] theorem State.modBay_bayCfg (b : BayId) (f : Bay → Bay) (b' : BayId) : (s.modBay b f).bayCfg b' = s.bayCfg b' := by
  unfold State.modBay; try dsimp only
  (repeat' split) <;> simp
@[simp] theorem State.modBay_classCfg (b : BayId) (f : Bay → Bay) (k' : ClassId) : (s.modBay b f).classCfg k' = s.classCfg k' := by
  unfold State.modBay; try dsimp only
  (repeat' split) <;> simp
@[simp] theorem State.modBay_zoneCfg (b : BayId) (f : Bay → Bay) (z' : ZoneId) : (s.modBay b f).zoneCfg z' = s.zoneCfg z' := by
  unfold State.modBay; try dsimp only
  (repeat' split) <;> simp
@[simp] theorem State.modBay_port (b : BayId) (f : Bay → Bay) (q : Port) : (s.modBay b f).port q = s.port q := by
  unfold State.modBay; try dsimp only
  (repeat' split) <;> simp

/-! ### wake -/

@[simp] theorem State.wake_phase (e : Engine) : (s.wake e).phase = s.phase := by
  unfold State.wake; try dsimp only
  (repeat' split) <;> simp
@[simp] theorem State.wake_retention (e : Engine) : (s.wake e).retention = s.retention := by
  unfold State.wake; try dsimp only
  (repeat' split) <;> simp
@[simp] theorem State.wake_lastStart (e : Engine) : (s.wake e).lastStart = s.lastStart := by
  unfold State.wake; try dsimp only
  (repeat' split) <;> simp
@[simp] theorem State.wake_lines (e : Engine) : (s.wake e).lines = s.lines := by
  unfold State.wake; try dsimp only
  (repeat' split) <;> simp
@[simp] theorem State.wake_slots (e : Engine) : (s.wake e).slots = s.slots := by
  unfold State.wake; try dsimp only
  (repeat' split) <;> simp
@[simp] theorem State.wake_tallies (e : Engine) : (s.wake e).tallies = s.tallies := by
  unfold State.wake; try dsimp only
  (repeat' split) <;> simp
@[simp] theorem State.wake_access (e : Engine) : (s.wake e).access = s.access := by
  unfold State.wake; try dsimp only
  (repeat' split) <;> simp
@[simp] theorem State.wake_bays (e : Engine) : (s.wake e).bays = s.bays := by
  unfold State.wake; try dsimp only
  (repeat' split) <;> simp
@[simp] theorem State.wake_chamber (e : Engine) : (s.wake e).chamber = s.chamber := by
  unfold State.wake; try dsimp only
  (repeat' split) <;> simp
@[simp] theorem State.wake_feed (e : Engine) : (s.wake e).feed = s.feed := by
  unfold State.wake; try dsimp only
  (repeat' split) <;> simp
@[simp] theorem State.wake_zones (e : Engine) : (s.wake e).zones = s.zones := by
  unfold State.wake; try dsimp only
  (repeat' split) <;> simp
@[simp] theorem State.wake_detectors (e : Engine) : (s.wake e).detectors = s.detectors := by
  unfold State.wake; try dsimp only
  (repeat' split) <;> simp
@[simp] theorem State.wake_sensors (e : Engine) : (s.wake e).sensors = s.sensors := by
  unfold State.wake; try dsimp only
  (repeat' split) <;> simp
@[simp] theorem State.wake_settings (e : Engine) : (s.wake e).settings = s.settings := by
  unfold State.wake; try dsimp only
  (repeat' split) <;> simp
@[simp] theorem State.wake_line (e : Engine) : (s.wake e).line = s.line := by
  unfold State.wake; try dsimp only
  (repeat' split) <;> simp
@[simp] theorem State.wake_plant (e : Engine) : (s.wake e).plant = s.plant := by
  unfold State.wake; try dsimp only
  (repeat' split) <;> simp
@[simp] theorem State.wake_freeCount (e : Engine) : (s.wake e).freeCount = s.freeCount := by
  unfold State.wake; try dsimp only
  (repeat' split) <;> simp
@[simp] theorem State.wake_pending (e : Engine) : (s.wake e).pending = s.pending := by
  unfold State.wake; try dsimp only
  (repeat' split) <;> simp
@[simp] theorem State.wake_bay (e : Engine) (b' : BayId) : (s.wake e).bay b' = s.bay b' := by
  unfold State.wake; try dsimp only
  (repeat' split) <;> simp
@[simp] theorem State.wake_record (e : Engine) (j : Slot) : (s.wake e).record j = s.record j := by
  unfold State.wake; try dsimp only
  (repeat' split) <;> simp
@[simp] theorem State.wake_zone (e : Engine) (z' : ZoneId) : (s.wake e).zone z' = s.zone z' := by
  unfold State.wake; try dsimp only
  (repeat' split) <;> simp
@[simp] theorem State.wake_detector (e : Engine) (d' : DetId) : (s.wake e).detector d' = s.detector d' := by
  unfold State.wake; try dsimp only
  (repeat' split) <;> simp
@[simp] theorem State.wake_running (e : Engine) : (s.wake e).running = s.running := by
  unfold State.wake; try dsimp only
  (repeat' split) <;> simp
@[simp] theorem State.wake_bayCfg (e : Engine) (b' : BayId) : (s.wake e).bayCfg b' = s.bayCfg b' := by
  unfold State.wake; try dsimp only
  (repeat' split) <;> simp
@[simp] theorem State.wake_classCfg (e : Engine) (k' : ClassId) : (s.wake e).classCfg k' = s.classCfg k' := by
  unfold State.wake; try dsimp only
  (repeat' split) <;> simp
@[simp] theorem State.wake_zoneCfg (e : Engine) (z' : ZoneId) : (s.wake e).zoneCfg z' = s.zoneCfg z' := by
  unfold State.wake; try dsimp only
  (repeat' split) <;> simp
@[simp] theorem State.wake_port (e : Engine) (q : Port) : (s.wake e).port q = s.port q := by
  unfold State.wake; try dsimp only
  (repeat' split) <;> simp

/-! ### askFeed -/

@[simp] theorem State.askFeed_phase (w : FeedWrite) : (s.askFeed w).phase = s.phase := by
  unfold State.askFeed; try dsimp only
  (repeat' split) <;> simp
@[simp] theorem State.askFeed_retention (w : FeedWrite) : (s.askFeed w).retention = s.retention := by
  unfold State.askFeed; try dsimp only
  (repeat' split) <;> simp
@[simp] theorem State.askFeed_lastStart (w : FeedWrite) : (s.askFeed w).lastStart = s.lastStart := by
  unfold State.askFeed; try dsimp only
  (repeat' split) <;> simp
@[simp] theorem State.askFeed_lines (w : FeedWrite) : (s.askFeed w).lines = s.lines := by
  unfold State.askFeed; try dsimp only
  (repeat' split) <;> simp
@[simp] theorem State.askFeed_slots (w : FeedWrite) : (s.askFeed w).slots = s.slots := by
  unfold State.askFeed; try dsimp only
  (repeat' split) <;> simp
@[simp] theorem State.askFeed_tallies (w : FeedWrite) : (s.askFeed w).tallies = s.tallies := by
  unfold State.askFeed; try dsimp only
  (repeat' split) <;> simp
@[simp] theorem State.askFeed_access (w : FeedWrite) : (s.askFeed w).access = s.access := by
  unfold State.askFeed; try dsimp only
  (repeat' split) <;> simp
@[simp] theorem State.askFeed_bays (w : FeedWrite) : (s.askFeed w).bays = s.bays := by
  unfold State.askFeed; try dsimp only
  (repeat' split) <;> simp
@[simp] theorem State.askFeed_chamber (w : FeedWrite) : (s.askFeed w).chamber = s.chamber := by
  unfold State.askFeed; try dsimp only
  (repeat' split) <;> simp
@[simp] theorem State.askFeed_feed (w : FeedWrite) : (s.askFeed w).feed = s.feed := by
  unfold State.askFeed; try dsimp only
  (repeat' split) <;> simp
@[simp] theorem State.askFeed_zones (w : FeedWrite) : (s.askFeed w).zones = s.zones := by
  unfold State.askFeed; try dsimp only
  (repeat' split) <;> simp
@[simp] theorem State.askFeed_detectors (w : FeedWrite) : (s.askFeed w).detectors = s.detectors := by
  unfold State.askFeed; try dsimp only
  (repeat' split) <;> simp
@[simp] theorem State.askFeed_sensors (w : FeedWrite) : (s.askFeed w).sensors = s.sensors := by
  unfold State.askFeed; try dsimp only
  (repeat' split) <;> simp
@[simp] theorem State.askFeed_settings (w : FeedWrite) : (s.askFeed w).settings = s.settings := by
  unfold State.askFeed; try dsimp only
  (repeat' split) <;> simp
@[simp] theorem State.askFeed_line (w : FeedWrite) : (s.askFeed w).line = s.line := by
  unfold State.askFeed; try dsimp only
  (repeat' split) <;> simp
@[simp] theorem State.askFeed_plant (w : FeedWrite) : (s.askFeed w).plant = s.plant := by
  unfold State.askFeed; try dsimp only
  (repeat' split) <;> simp
@[simp] theorem State.askFeed_freeCount (w : FeedWrite) : (s.askFeed w).freeCount = s.freeCount := by
  unfold State.askFeed; try dsimp only
  (repeat' split) <;> simp
@[simp] theorem State.askFeed_pending (w : FeedWrite) : (s.askFeed w).pending = s.pending := by
  unfold State.askFeed; try dsimp only
  (repeat' split) <;> simp
@[simp] theorem State.askFeed_bay (w : FeedWrite) (b' : BayId) : (s.askFeed w).bay b' = s.bay b' := by
  unfold State.askFeed; try dsimp only
  (repeat' split) <;> simp
@[simp] theorem State.askFeed_record (w : FeedWrite) (j : Slot) : (s.askFeed w).record j = s.record j := by
  unfold State.askFeed; try dsimp only
  (repeat' split) <;> simp
@[simp] theorem State.askFeed_zone (w : FeedWrite) (z' : ZoneId) : (s.askFeed w).zone z' = s.zone z' := by
  unfold State.askFeed; try dsimp only
  (repeat' split) <;> simp
@[simp] theorem State.askFeed_detector (w : FeedWrite) (d' : DetId) : (s.askFeed w).detector d' = s.detector d' := by
  unfold State.askFeed; try dsimp only
  (repeat' split) <;> simp
@[simp] theorem State.askFeed_running (w : FeedWrite) : (s.askFeed w).running = s.running := by
  unfold State.askFeed; try dsimp only
  (repeat' split) <;> simp
@[simp] theorem State.askFeed_bayCfg (w : FeedWrite) (b' : BayId) : (s.askFeed w).bayCfg b' = s.bayCfg b' := by
  unfold State.askFeed; try dsimp only
  (repeat' split) <;> simp
@[simp] theorem State.askFeed_classCfg (w : FeedWrite) (k' : ClassId) : (s.askFeed w).classCfg k' = s.classCfg k' := by
  unfold State.askFeed; try dsimp only
  (repeat' split) <;> simp
@[simp] theorem State.askFeed_zoneCfg (w : FeedWrite) (z' : ZoneId) : (s.askFeed w).zoneCfg z' = s.zoneCfg z' := by
  unfold State.askFeed; try dsimp only
  (repeat' split) <;> simp
@[simp] theorem State.askFeed_port (w : FeedWrite) (q : Port) : (s.askFeed w).port q = s.port q := by
  unfold State.askFeed; try dsimp only
  (repeat' split) <;> simp

/-! ### askSweep -/

@[simp] theorem State.askSweep_phase (z : ZoneId) : (s.askSweep z).phase = s.phase := by
  unfold State.askSweep; try dsimp only
  (repeat' split) <;> simp
@[simp] theorem State.askSweep_retention (z : ZoneId) : (s.askSweep z).retention = s.retention := by
  unfold State.askSweep; try dsimp only
  (repeat' split) <;> simp
@[simp] theorem State.askSweep_lastStart (z : ZoneId) : (s.askSweep z).lastStart = s.lastStart := by
  unfold State.askSweep; try dsimp only
  (repeat' split) <;> simp
@[simp] theorem State.askSweep_lines (z : ZoneId) : (s.askSweep z).lines = s.lines := by
  unfold State.askSweep; try dsimp only
  (repeat' split) <;> simp
@[simp] theorem State.askSweep_slots (z : ZoneId) : (s.askSweep z).slots = s.slots := by
  unfold State.askSweep; try dsimp only
  (repeat' split) <;> simp
@[simp] theorem State.askSweep_tallies (z : ZoneId) : (s.askSweep z).tallies = s.tallies := by
  unfold State.askSweep; try dsimp only
  (repeat' split) <;> simp
@[simp] theorem State.askSweep_access (z : ZoneId) : (s.askSweep z).access = s.access := by
  unfold State.askSweep; try dsimp only
  (repeat' split) <;> simp
@[simp] theorem State.askSweep_bays (z : ZoneId) : (s.askSweep z).bays = s.bays := by
  unfold State.askSweep; try dsimp only
  (repeat' split) <;> simp
@[simp] theorem State.askSweep_chamber (z : ZoneId) : (s.askSweep z).chamber = s.chamber := by
  unfold State.askSweep; try dsimp only
  (repeat' split) <;> simp
@[simp] theorem State.askSweep_feed (z : ZoneId) : (s.askSweep z).feed = s.feed := by
  unfold State.askSweep; try dsimp only
  (repeat' split) <;> simp
@[simp] theorem State.askSweep_zones (z : ZoneId) : (s.askSweep z).zones = s.zones := by
  unfold State.askSweep; try dsimp only
  (repeat' split) <;> simp
@[simp] theorem State.askSweep_detectors (z : ZoneId) : (s.askSweep z).detectors = s.detectors := by
  unfold State.askSweep; try dsimp only
  (repeat' split) <;> simp
@[simp] theorem State.askSweep_sensors (z : ZoneId) : (s.askSweep z).sensors = s.sensors := by
  unfold State.askSweep; try dsimp only
  (repeat' split) <;> simp
@[simp] theorem State.askSweep_settings (z : ZoneId) : (s.askSweep z).settings = s.settings := by
  unfold State.askSweep; try dsimp only
  (repeat' split) <;> simp
@[simp] theorem State.askSweep_line (z : ZoneId) : (s.askSweep z).line = s.line := by
  unfold State.askSweep; try dsimp only
  (repeat' split) <;> simp
@[simp] theorem State.askSweep_plant (z : ZoneId) : (s.askSweep z).plant = s.plant := by
  unfold State.askSweep; try dsimp only
  (repeat' split) <;> simp
@[simp] theorem State.askSweep_freeCount (z : ZoneId) : (s.askSweep z).freeCount = s.freeCount := by
  unfold State.askSweep; try dsimp only
  (repeat' split) <;> simp
@[simp] theorem State.askSweep_pending (z : ZoneId) : (s.askSweep z).pending = s.pending := by
  unfold State.askSweep; try dsimp only
  (repeat' split) <;> simp
@[simp] theorem State.askSweep_bay (z : ZoneId) (b' : BayId) : (s.askSweep z).bay b' = s.bay b' := by
  unfold State.askSweep; try dsimp only
  (repeat' split) <;> simp
@[simp] theorem State.askSweep_record (z : ZoneId) (j : Slot) : (s.askSweep z).record j = s.record j := by
  unfold State.askSweep; try dsimp only
  (repeat' split) <;> simp
@[simp] theorem State.askSweep_zone (z : ZoneId) (z' : ZoneId) : (s.askSweep z).zone z' = s.zone z' := by
  unfold State.askSweep; try dsimp only
  (repeat' split) <;> simp
@[simp] theorem State.askSweep_detector (z : ZoneId) (d' : DetId) : (s.askSweep z).detector d' = s.detector d' := by
  unfold State.askSweep; try dsimp only
  (repeat' split) <;> simp
@[simp] theorem State.askSweep_running (z : ZoneId) : (s.askSweep z).running = s.running := by
  unfold State.askSweep; try dsimp only
  (repeat' split) <;> simp
@[simp] theorem State.askSweep_bayCfg (z : ZoneId) (b' : BayId) : (s.askSweep z).bayCfg b' = s.bayCfg b' := by
  unfold State.askSweep; try dsimp only
  (repeat' split) <;> simp
@[simp] theorem State.askSweep_classCfg (z : ZoneId) (k' : ClassId) : (s.askSweep z).classCfg k' = s.classCfg k' := by
  unfold State.askSweep; try dsimp only
  (repeat' split) <;> simp
@[simp] theorem State.askSweep_zoneCfg (z : ZoneId) (z' : ZoneId) : (s.askSweep z).zoneCfg z' = s.zoneCfg z' := by
  unfold State.askSweep; try dsimp only
  (repeat' split) <;> simp
@[simp] theorem State.askSweep_port (z : ZoneId) (q : Port) : (s.askSweep z).port q = s.port q := by
  unfold State.askSweep; try dsimp only
  (repeat' split) <;> simp

/-! ### askBay -/

@[simp] theorem State.askBay_phase (b : BayId) (w : BayWrite) : (s.askBay b w).phase = s.phase := by
  unfold State.askBay; try dsimp only
  (repeat' split) <;> simp
@[simp] theorem State.askBay_retention (b : BayId) (w : BayWrite) : (s.askBay b w).retention = s.retention := by
  unfold State.askBay; try dsimp only
  (repeat' split) <;> simp
@[simp] theorem State.askBay_lastStart (b : BayId) (w : BayWrite) : (s.askBay b w).lastStart = s.lastStart := by
  unfold State.askBay; try dsimp only
  (repeat' split) <;> simp
@[simp] theorem State.askBay_lines (b : BayId) (w : BayWrite) : (s.askBay b w).lines = s.lines := by
  unfold State.askBay; try dsimp only
  (repeat' split) <;> simp
@[simp] theorem State.askBay_slots (b : BayId) (w : BayWrite) : (s.askBay b w).slots = s.slots := by
  unfold State.askBay; try dsimp only
  (repeat' split) <;> simp
@[simp] theorem State.askBay_tallies (b : BayId) (w : BayWrite) : (s.askBay b w).tallies = s.tallies := by
  unfold State.askBay; try dsimp only
  (repeat' split) <;> simp
@[simp] theorem State.askBay_access (b : BayId) (w : BayWrite) : (s.askBay b w).access = s.access := by
  unfold State.askBay; try dsimp only
  (repeat' split) <;> simp
@[simp] theorem State.askBay_chamber (b : BayId) (w : BayWrite) : (s.askBay b w).chamber = s.chamber := by
  unfold State.askBay; try dsimp only
  (repeat' split) <;> simp
@[simp] theorem State.askBay_feed (b : BayId) (w : BayWrite) : (s.askBay b w).feed = s.feed := by
  unfold State.askBay; try dsimp only
  (repeat' split) <;> simp
@[simp] theorem State.askBay_zones (b : BayId) (w : BayWrite) : (s.askBay b w).zones = s.zones := by
  unfold State.askBay; try dsimp only
  (repeat' split) <;> simp
@[simp] theorem State.askBay_detectors (b : BayId) (w : BayWrite) : (s.askBay b w).detectors = s.detectors := by
  unfold State.askBay; try dsimp only
  (repeat' split) <;> simp
@[simp] theorem State.askBay_sensors (b : BayId) (w : BayWrite) : (s.askBay b w).sensors = s.sensors := by
  unfold State.askBay; try dsimp only
  (repeat' split) <;> simp
@[simp] theorem State.askBay_settings (b : BayId) (w : BayWrite) : (s.askBay b w).settings = s.settings := by
  unfold State.askBay; try dsimp only
  (repeat' split) <;> simp
@[simp] theorem State.askBay_line (b : BayId) (w : BayWrite) : (s.askBay b w).line = s.line := by
  unfold State.askBay; try dsimp only
  (repeat' split) <;> simp
@[simp] theorem State.askBay_plant (b : BayId) (w : BayWrite) : (s.askBay b w).plant = s.plant := by
  unfold State.askBay; try dsimp only
  (repeat' split) <;> simp
@[simp] theorem State.askBay_freeCount (b : BayId) (w : BayWrite) : (s.askBay b w).freeCount = s.freeCount := by
  unfold State.askBay; try dsimp only
  (repeat' split) <;> simp
@[simp] theorem State.askBay_pending (b : BayId) (w : BayWrite) : (s.askBay b w).pending = s.pending := by
  unfold State.askBay; try dsimp only
  (repeat' split) <;> simp
@[simp] theorem State.askBay_record (b : BayId) (w : BayWrite) (j : Slot) : (s.askBay b w).record j = s.record j := by
  unfold State.askBay; try dsimp only
  (repeat' split) <;> simp
@[simp] theorem State.askBay_zone (b : BayId) (w : BayWrite) (z' : ZoneId) : (s.askBay b w).zone z' = s.zone z' := by
  unfold State.askBay; try dsimp only
  (repeat' split) <;> simp
@[simp] theorem State.askBay_detector (b : BayId) (w : BayWrite) (d' : DetId) : (s.askBay b w).detector d' = s.detector d' := by
  unfold State.askBay; try dsimp only
  (repeat' split) <;> simp
@[simp] theorem State.askBay_running (b : BayId) (w : BayWrite) : (s.askBay b w).running = s.running := by
  unfold State.askBay; try dsimp only
  (repeat' split) <;> simp
@[simp] theorem State.askBay_bayCfg (b : BayId) (w : BayWrite) (b' : BayId) : (s.askBay b w).bayCfg b' = s.bayCfg b' := by
  unfold State.askBay; try dsimp only
  (repeat' split) <;> simp
@[simp] theorem State.askBay_classCfg (b : BayId) (w : BayWrite) (k' : ClassId) : (s.askBay b w).classCfg k' = s.classCfg k' := by
  unfold State.askBay; try dsimp only
  (repeat' split) <;> simp
@[simp] theorem State.askBay_zoneCfg (b : BayId) (w : BayWrite) (z' : ZoneId) : (s.askBay b w).zoneCfg z' = s.zoneCfg z' := by
  unfold State.askBay; try dsimp only
  (repeat' split) <;> simp
@[simp] theorem State.askBay_port (b : BayId) (w : BayWrite) (q : Port) : (s.askBay b w).port q = s.port q := by
  unfold State.askBay; try dsimp only
  (repeat' split) <;> simp

/-! ### raisePort -/

@[simp] theorem State.raisePort_phase (p : Port) (f : Attn → Attn) : (s.raisePort p f).phase = s.phase := by
  unfold State.raisePort; try dsimp only
  (repeat' split) <;> simp
@[simp] theorem State.raisePort_retention (p : Port) (f : Attn → Attn) : (s.raisePort p f).retention = s.retention := by
  unfold State.raisePort; try dsimp only
  (repeat' split) <;> simp
@[simp] theorem State.raisePort_lastStart (p : Port) (f : Attn → Attn) : (s.raisePort p f).lastStart = s.lastStart := by
  unfold State.raisePort; try dsimp only
  (repeat' split) <;> simp
@[simp] theorem State.raisePort_lines (p : Port) (f : Attn → Attn) : (s.raisePort p f).lines = s.lines := by
  unfold State.raisePort; try dsimp only
  (repeat' split) <;> simp
@[simp] theorem State.raisePort_slots (p : Port) (f : Attn → Attn) : (s.raisePort p f).slots = s.slots := by
  unfold State.raisePort; try dsimp only
  (repeat' split) <;> simp
@[simp] theorem State.raisePort_tallies (p : Port) (f : Attn → Attn) : (s.raisePort p f).tallies = s.tallies := by
  unfold State.raisePort; try dsimp only
  (repeat' split) <;> simp
@[simp] theorem State.raisePort_access (p : Port) (f : Attn → Attn) : (s.raisePort p f).access = s.access := by
  unfold State.raisePort; try dsimp only
  (repeat' split) <;> simp
@[simp] theorem State.raisePort_arb (p : Port) (f : Attn → Attn) : (s.raisePort p f).arb = s.arb := by
  unfold State.raisePort; try dsimp only
  (repeat' split) <;> simp
@[simp] theorem State.raisePort_bays (p : Port) (f : Attn → Attn) : (s.raisePort p f).bays = s.bays := by
  unfold State.raisePort; try dsimp only
  (repeat' split) <;> simp
@[simp] theorem State.raisePort_chamber (p : Port) (f : Attn → Attn) : (s.raisePort p f).chamber = s.chamber := by
  unfold State.raisePort; try dsimp only
  (repeat' split) <;> simp
@[simp] theorem State.raisePort_feed (p : Port) (f : Attn → Attn) : (s.raisePort p f).feed = s.feed := by
  unfold State.raisePort; try dsimp only
  (repeat' split) <;> simp
@[simp] theorem State.raisePort_zones (p : Port) (f : Attn → Attn) : (s.raisePort p f).zones = s.zones := by
  unfold State.raisePort; try dsimp only
  (repeat' split) <;> simp
@[simp] theorem State.raisePort_detectors (p : Port) (f : Attn → Attn) : (s.raisePort p f).detectors = s.detectors := by
  unfold State.raisePort; try dsimp only
  (repeat' split) <;> simp
@[simp] theorem State.raisePort_sensors (p : Port) (f : Attn → Attn) : (s.raisePort p f).sensors = s.sensors := by
  unfold State.raisePort; try dsimp only
  (repeat' split) <;> simp
@[simp] theorem State.raisePort_settings (p : Port) (f : Attn → Attn) : (s.raisePort p f).settings = s.settings := by
  unfold State.raisePort; try dsimp only
  (repeat' split) <;> simp
@[simp] theorem State.raisePort_freeCount (p : Port) (f : Attn → Attn) : (s.raisePort p f).freeCount = s.freeCount := by
  unfold State.raisePort; try dsimp only
  (repeat' split) <;> simp
@[simp] theorem State.raisePort_pending (p : Port) (f : Attn → Attn) : (s.raisePort p f).pending = s.pending := by
  unfold State.raisePort; try dsimp only
  (repeat' split) <;> simp
@[simp] theorem State.raisePort_bay (p : Port) (f : Attn → Attn) (b' : BayId) : (s.raisePort p f).bay b' = s.bay b' := by
  unfold State.raisePort; try dsimp only
  (repeat' split) <;> simp
@[simp] theorem State.raisePort_record (p : Port) (f : Attn → Attn) (j : Slot) : (s.raisePort p f).record j = s.record j := by
  unfold State.raisePort; try dsimp only
  (repeat' split) <;> simp
@[simp] theorem State.raisePort_zone (p : Port) (f : Attn → Attn) (z' : ZoneId) : (s.raisePort p f).zone z' = s.zone z' := by
  unfold State.raisePort; try dsimp only
  (repeat' split) <;> simp
@[simp] theorem State.raisePort_detector (p : Port) (f : Attn → Attn) (d' : DetId) : (s.raisePort p f).detector d' = s.detector d' := by
  unfold State.raisePort; try dsimp only
  (repeat' split) <;> simp
@[simp] theorem State.raisePort_running (p : Port) (f : Attn → Attn) : (s.raisePort p f).running = s.running := by
  unfold State.raisePort; try dsimp only
  (repeat' split) <;> simp
@[simp] theorem State.raisePort_bayCfg (p : Port) (f : Attn → Attn) (b' : BayId) : (s.raisePort p f).bayCfg b' = s.bayCfg b' := by
  unfold State.raisePort; try dsimp only
  (repeat' split) <;> simp
@[simp] theorem State.raisePort_classCfg (p : Port) (f : Attn → Attn) (k' : ClassId) : (s.raisePort p f).classCfg k' = s.classCfg k' := by
  unfold State.raisePort; try dsimp only
  (repeat' split) <;> simp
@[simp] theorem State.raisePort_zoneCfg (p : Port) (f : Attn → Attn) (z' : ZoneId) : (s.raisePort p f).zoneCfg z' = s.zoneCfg z' := by
  unfold State.raisePort; try dsimp only
  (repeat' split) <;> simp

/-! ### raise -/

@[simp] theorem State.raise_phase (f : Attn → Attn) : (s.raise f).phase = s.phase := by
  unfold State.raise; try dsimp only
  (repeat' split) <;> simp
@[simp] theorem State.raise_retention (f : Attn → Attn) : (s.raise f).retention = s.retention := by
  unfold State.raise; try dsimp only
  (repeat' split) <;> simp
@[simp] theorem State.raise_lastStart (f : Attn → Attn) : (s.raise f).lastStart = s.lastStart := by
  unfold State.raise; try dsimp only
  (repeat' split) <;> simp
@[simp] theorem State.raise_lines (f : Attn → Attn) : (s.raise f).lines = s.lines := by
  unfold State.raise; try dsimp only
  (repeat' split) <;> simp
@[simp] theorem State.raise_slots (f : Attn → Attn) : (s.raise f).slots = s.slots := by
  unfold State.raise; try dsimp only
  (repeat' split) <;> simp
@[simp] theorem State.raise_tallies (f : Attn → Attn) : (s.raise f).tallies = s.tallies := by
  unfold State.raise; try dsimp only
  (repeat' split) <;> simp
@[simp] theorem State.raise_access (f : Attn → Attn) : (s.raise f).access = s.access := by
  unfold State.raise; try dsimp only
  (repeat' split) <;> simp
@[simp] theorem State.raise_arb (f : Attn → Attn) : (s.raise f).arb = s.arb := by
  unfold State.raise; try dsimp only
  (repeat' split) <;> simp
@[simp] theorem State.raise_bays (f : Attn → Attn) : (s.raise f).bays = s.bays := by
  unfold State.raise; try dsimp only
  (repeat' split) <;> simp
@[simp] theorem State.raise_chamber (f : Attn → Attn) : (s.raise f).chamber = s.chamber := by
  unfold State.raise; try dsimp only
  (repeat' split) <;> simp
@[simp] theorem State.raise_feed (f : Attn → Attn) : (s.raise f).feed = s.feed := by
  unfold State.raise; try dsimp only
  (repeat' split) <;> simp
@[simp] theorem State.raise_zones (f : Attn → Attn) : (s.raise f).zones = s.zones := by
  unfold State.raise; try dsimp only
  (repeat' split) <;> simp
@[simp] theorem State.raise_detectors (f : Attn → Attn) : (s.raise f).detectors = s.detectors := by
  unfold State.raise; try dsimp only
  (repeat' split) <;> simp
@[simp] theorem State.raise_sensors (f : Attn → Attn) : (s.raise f).sensors = s.sensors := by
  unfold State.raise; try dsimp only
  (repeat' split) <;> simp
@[simp] theorem State.raise_settings (f : Attn → Attn) : (s.raise f).settings = s.settings := by
  unfold State.raise; try dsimp only
  (repeat' split) <;> simp
@[simp] theorem State.raise_freeCount (f : Attn → Attn) : (s.raise f).freeCount = s.freeCount := by
  unfold State.raise; try dsimp only
  (repeat' split) <;> simp
@[simp] theorem State.raise_pending (f : Attn → Attn) : (s.raise f).pending = s.pending := by
  unfold State.raise; try dsimp only
  (repeat' split) <;> simp
@[simp] theorem State.raise_bay (f : Attn → Attn) (b' : BayId) : (s.raise f).bay b' = s.bay b' := by
  unfold State.raise; try dsimp only
  (repeat' split) <;> simp
@[simp] theorem State.raise_record (f : Attn → Attn) (j : Slot) : (s.raise f).record j = s.record j := by
  unfold State.raise; try dsimp only
  (repeat' split) <;> simp
@[simp] theorem State.raise_zone (f : Attn → Attn) (z' : ZoneId) : (s.raise f).zone z' = s.zone z' := by
  unfold State.raise; try dsimp only
  (repeat' split) <;> simp
@[simp] theorem State.raise_detector (f : Attn → Attn) (d' : DetId) : (s.raise f).detector d' = s.detector d' := by
  unfold State.raise; try dsimp only
  (repeat' split) <;> simp
@[simp] theorem State.raise_running (f : Attn → Attn) : (s.raise f).running = s.running := by
  unfold State.raise; try dsimp only
  (repeat' split) <;> simp
@[simp] theorem State.raise_bayCfg (f : Attn → Attn) (b' : BayId) : (s.raise f).bayCfg b' = s.bayCfg b' := by
  unfold State.raise; try dsimp only
  (repeat' split) <;> simp
@[simp] theorem State.raise_classCfg (f : Attn → Attn) (k' : ClassId) : (s.raise f).classCfg k' = s.classCfg k' := by
  unfold State.raise; try dsimp only
  (repeat' split) <;> simp
@[simp] theorem State.raise_zoneCfg (f : Attn → Attn) (z' : ZoneId) : (s.raise f).zoneCfg z' = s.zoneCfg z' := by
  unfold State.raise; try dsimp only
  (repeat' split) <;> simp

/-! ### raiseBay -/

@[simp] theorem State.raiseBay_phase (b : BayId) (d : BayDetail) : (s.raiseBay b d).phase = s.phase := by
  unfold State.raiseBay; try dsimp only
  (repeat' split) <;> simp
@[simp] theorem State.raiseBay_retention (b : BayId) (d : BayDetail) : (s.raiseBay b d).retention = s.retention := by
  unfold State.raiseBay; try dsimp only
  (repeat' split) <;> simp
@[simp] theorem State.raiseBay_lastStart (b : BayId) (d : BayDetail) : (s.raiseBay b d).lastStart = s.lastStart := by
  unfold State.raiseBay; try dsimp only
  (repeat' split) <;> simp
@[simp] theorem State.raiseBay_lines (b : BayId) (d : BayDetail) : (s.raiseBay b d).lines = s.lines := by
  unfold State.raiseBay; try dsimp only
  (repeat' split) <;> simp
@[simp] theorem State.raiseBay_slots (b : BayId) (d : BayDetail) : (s.raiseBay b d).slots = s.slots := by
  unfold State.raiseBay; try dsimp only
  (repeat' split) <;> simp
@[simp] theorem State.raiseBay_tallies (b : BayId) (d : BayDetail) : (s.raiseBay b d).tallies = s.tallies := by
  unfold State.raiseBay; try dsimp only
  (repeat' split) <;> simp
@[simp] theorem State.raiseBay_access (b : BayId) (d : BayDetail) : (s.raiseBay b d).access = s.access := by
  unfold State.raiseBay; try dsimp only
  (repeat' split) <;> simp
@[simp] theorem State.raiseBay_arb (b : BayId) (d : BayDetail) : (s.raiseBay b d).arb = s.arb := by
  unfold State.raiseBay; try dsimp only
  (repeat' split) <;> simp
@[simp] theorem State.raiseBay_bays (b : BayId) (d : BayDetail) : (s.raiseBay b d).bays = s.bays := by
  unfold State.raiseBay; try dsimp only
  (repeat' split) <;> simp
@[simp] theorem State.raiseBay_chamber (b : BayId) (d : BayDetail) : (s.raiseBay b d).chamber = s.chamber := by
  unfold State.raiseBay; try dsimp only
  (repeat' split) <;> simp
@[simp] theorem State.raiseBay_feed (b : BayId) (d : BayDetail) : (s.raiseBay b d).feed = s.feed := by
  unfold State.raiseBay; try dsimp only
  (repeat' split) <;> simp
@[simp] theorem State.raiseBay_zones (b : BayId) (d : BayDetail) : (s.raiseBay b d).zones = s.zones := by
  unfold State.raiseBay; try dsimp only
  (repeat' split) <;> simp
@[simp] theorem State.raiseBay_detectors (b : BayId) (d : BayDetail) : (s.raiseBay b d).detectors = s.detectors := by
  unfold State.raiseBay; try dsimp only
  (repeat' split) <;> simp
@[simp] theorem State.raiseBay_sensors (b : BayId) (d : BayDetail) : (s.raiseBay b d).sensors = s.sensors := by
  unfold State.raiseBay; try dsimp only
  (repeat' split) <;> simp
@[simp] theorem State.raiseBay_settings (b : BayId) (d : BayDetail) : (s.raiseBay b d).settings = s.settings := by
  unfold State.raiseBay; try dsimp only
  (repeat' split) <;> simp
@[simp] theorem State.raiseBay_freeCount (b : BayId) (d : BayDetail) : (s.raiseBay b d).freeCount = s.freeCount := by
  unfold State.raiseBay; try dsimp only
  (repeat' split) <;> simp
@[simp] theorem State.raiseBay_pending (b : BayId) (d : BayDetail) : (s.raiseBay b d).pending = s.pending := by
  unfold State.raiseBay; try dsimp only
  (repeat' split) <;> simp
@[simp] theorem State.raiseBay_bay (b : BayId) (d : BayDetail) (b' : BayId) : (s.raiseBay b d).bay b' = s.bay b' := by
  unfold State.raiseBay; try dsimp only
  (repeat' split) <;> simp
@[simp] theorem State.raiseBay_record (b : BayId) (d : BayDetail) (j : Slot) : (s.raiseBay b d).record j = s.record j := by
  unfold State.raiseBay; try dsimp only
  (repeat' split) <;> simp
@[simp] theorem State.raiseBay_zone (b : BayId) (d : BayDetail) (z' : ZoneId) : (s.raiseBay b d).zone z' = s.zone z' := by
  unfold State.raiseBay; try dsimp only
  (repeat' split) <;> simp
@[simp] theorem State.raiseBay_detector (b : BayId) (d : BayDetail) (d' : DetId) : (s.raiseBay b d).detector d' = s.detector d' := by
  unfold State.raiseBay; try dsimp only
  (repeat' split) <;> simp
@[simp] theorem State.raiseBay_running (b : BayId) (d : BayDetail) : (s.raiseBay b d).running = s.running := by
  unfold State.raiseBay; try dsimp only
  (repeat' split) <;> simp
@[simp] theorem State.raiseBay_bayCfg (b : BayId) (d : BayDetail) (b' : BayId) : (s.raiseBay b d).bayCfg b' = s.bayCfg b' := by
  unfold State.raiseBay; try dsimp only
  (repeat' split) <;> simp
@[simp] theorem State.raiseBay_classCfg (b : BayId) (d : BayDetail) (k' : ClassId) : (s.raiseBay b d).classCfg k' = s.classCfg k' := by
  unfold State.raiseBay; try dsimp only
  (repeat' split) <;> simp
@[simp] theorem State.raiseBay_zoneCfg (b : BayId) (d : BayDetail) (z' : ZoneId) : (s.raiseBay b d).zoneCfg z' = s.zoneCfg z' := by
  unfold State.raiseBay; try dsimp only
  (repeat' split) <;> simp

/-! ### raiseZone -/

@[simp] theorem State.raiseZone_phase (z : ZoneId) (m : BitVec 32) : (s.raiseZone z m).phase = s.phase := by
  unfold State.raiseZone; try dsimp only
  (repeat' split) <;> simp
@[simp] theorem State.raiseZone_retention (z : ZoneId) (m : BitVec 32) : (s.raiseZone z m).retention = s.retention := by
  unfold State.raiseZone; try dsimp only
  (repeat' split) <;> simp
@[simp] theorem State.raiseZone_lastStart (z : ZoneId) (m : BitVec 32) : (s.raiseZone z m).lastStart = s.lastStart := by
  unfold State.raiseZone; try dsimp only
  (repeat' split) <;> simp
@[simp] theorem State.raiseZone_lines (z : ZoneId) (m : BitVec 32) : (s.raiseZone z m).lines = s.lines := by
  unfold State.raiseZone; try dsimp only
  (repeat' split) <;> simp
@[simp] theorem State.raiseZone_slots (z : ZoneId) (m : BitVec 32) : (s.raiseZone z m).slots = s.slots := by
  unfold State.raiseZone; try dsimp only
  (repeat' split) <;> simp
@[simp] theorem State.raiseZone_tallies (z : ZoneId) (m : BitVec 32) : (s.raiseZone z m).tallies = s.tallies := by
  unfold State.raiseZone; try dsimp only
  (repeat' split) <;> simp
@[simp] theorem State.raiseZone_access (z : ZoneId) (m : BitVec 32) : (s.raiseZone z m).access = s.access := by
  unfold State.raiseZone; try dsimp only
  (repeat' split) <;> simp
@[simp] theorem State.raiseZone_arb (z : ZoneId) (m : BitVec 32) : (s.raiseZone z m).arb = s.arb := by
  unfold State.raiseZone; try dsimp only
  (repeat' split) <;> simp
@[simp] theorem State.raiseZone_bays (z : ZoneId) (m : BitVec 32) : (s.raiseZone z m).bays = s.bays := by
  unfold State.raiseZone; try dsimp only
  (repeat' split) <;> simp
@[simp] theorem State.raiseZone_chamber (z : ZoneId) (m : BitVec 32) : (s.raiseZone z m).chamber = s.chamber := by
  unfold State.raiseZone; try dsimp only
  (repeat' split) <;> simp
@[simp] theorem State.raiseZone_feed (z : ZoneId) (m : BitVec 32) : (s.raiseZone z m).feed = s.feed := by
  unfold State.raiseZone; try dsimp only
  (repeat' split) <;> simp
@[simp] theorem State.raiseZone_zones (z : ZoneId) (m : BitVec 32) : (s.raiseZone z m).zones = s.zones := by
  unfold State.raiseZone; try dsimp only
  (repeat' split) <;> simp
@[simp] theorem State.raiseZone_detectors (z : ZoneId) (m : BitVec 32) : (s.raiseZone z m).detectors = s.detectors := by
  unfold State.raiseZone; try dsimp only
  (repeat' split) <;> simp
@[simp] theorem State.raiseZone_sensors (z : ZoneId) (m : BitVec 32) : (s.raiseZone z m).sensors = s.sensors := by
  unfold State.raiseZone; try dsimp only
  (repeat' split) <;> simp
@[simp] theorem State.raiseZone_settings (z : ZoneId) (m : BitVec 32) : (s.raiseZone z m).settings = s.settings := by
  unfold State.raiseZone; try dsimp only
  (repeat' split) <;> simp
@[simp] theorem State.raiseZone_freeCount (z : ZoneId) (m : BitVec 32) : (s.raiseZone z m).freeCount = s.freeCount := by
  unfold State.raiseZone; try dsimp only
  (repeat' split) <;> simp
@[simp] theorem State.raiseZone_pending (z : ZoneId) (m : BitVec 32) : (s.raiseZone z m).pending = s.pending := by
  unfold State.raiseZone; try dsimp only
  (repeat' split) <;> simp
@[simp] theorem State.raiseZone_bay (z : ZoneId) (m : BitVec 32) (b' : BayId) : (s.raiseZone z m).bay b' = s.bay b' := by
  unfold State.raiseZone; try dsimp only
  (repeat' split) <;> simp
@[simp] theorem State.raiseZone_record (z : ZoneId) (m : BitVec 32) (j : Slot) : (s.raiseZone z m).record j = s.record j := by
  unfold State.raiseZone; try dsimp only
  (repeat' split) <;> simp
@[simp] theorem State.raiseZone_zone (z : ZoneId) (m : BitVec 32) (z' : ZoneId) : (s.raiseZone z m).zone z' = s.zone z' := by
  unfold State.raiseZone; try dsimp only
  (repeat' split) <;> simp
@[simp] theorem State.raiseZone_detector (z : ZoneId) (m : BitVec 32) (d' : DetId) : (s.raiseZone z m).detector d' = s.detector d' := by
  unfold State.raiseZone; try dsimp only
  (repeat' split) <;> simp
@[simp] theorem State.raiseZone_running (z : ZoneId) (m : BitVec 32) : (s.raiseZone z m).running = s.running := by
  unfold State.raiseZone; try dsimp only
  (repeat' split) <;> simp
@[simp] theorem State.raiseZone_bayCfg (z : ZoneId) (m : BitVec 32) (b' : BayId) : (s.raiseZone z m).bayCfg b' = s.bayCfg b' := by
  unfold State.raiseZone; try dsimp only
  (repeat' split) <;> simp
@[simp] theorem State.raiseZone_classCfg (z : ZoneId) (m : BitVec 32) (k' : ClassId) : (s.raiseZone z m).classCfg k' = s.classCfg k' := by
  unfold State.raiseZone; try dsimp only
  (repeat' split) <;> simp
@[simp] theorem State.raiseZone_zoneCfg (z : ZoneId) (m : BitVec 32) (z' : ZoneId) : (s.raiseZone z m).zoneCfg z' = s.zoneCfg z' := by
  unfold State.raiseZone; try dsimp only
  (repeat' split) <;> simp

/-! ### raiseChamber -/

@[simp] theorem State.raiseChamber_phase : s.raiseChamber.phase = s.phase := by
  unfold State.raiseChamber; try dsimp only
  (repeat' split) <;> simp
@[simp] theorem State.raiseChamber_retention : s.raiseChamber.retention = s.retention := by
  unfold State.raiseChamber; try dsimp only
  (repeat' split) <;> simp
@[simp] theorem State.raiseChamber_lastStart : s.raiseChamber.lastStart = s.lastStart := by
  unfold State.raiseChamber; try dsimp only
  (repeat' split) <;> simp
@[simp] theorem State.raiseChamber_lines : s.raiseChamber.lines = s.lines := by
  unfold State.raiseChamber; try dsimp only
  (repeat' split) <;> simp
@[simp] theorem State.raiseChamber_slots : s.raiseChamber.slots = s.slots := by
  unfold State.raiseChamber; try dsimp only
  (repeat' split) <;> simp
@[simp] theorem State.raiseChamber_tallies : s.raiseChamber.tallies = s.tallies := by
  unfold State.raiseChamber; try dsimp only
  (repeat' split) <;> simp
@[simp] theorem State.raiseChamber_access : s.raiseChamber.access = s.access := by
  unfold State.raiseChamber; try dsimp only
  (repeat' split) <;> simp
@[simp] theorem State.raiseChamber_arb : s.raiseChamber.arb = s.arb := by
  unfold State.raiseChamber; try dsimp only
  (repeat' split) <;> simp
@[simp] theorem State.raiseChamber_bays : s.raiseChamber.bays = s.bays := by
  unfold State.raiseChamber; try dsimp only
  (repeat' split) <;> simp
@[simp] theorem State.raiseChamber_chamber : s.raiseChamber.chamber = s.chamber := by
  unfold State.raiseChamber; try dsimp only
  (repeat' split) <;> simp
@[simp] theorem State.raiseChamber_feed : s.raiseChamber.feed = s.feed := by
  unfold State.raiseChamber; try dsimp only
  (repeat' split) <;> simp
@[simp] theorem State.raiseChamber_zones : s.raiseChamber.zones = s.zones := by
  unfold State.raiseChamber; try dsimp only
  (repeat' split) <;> simp
@[simp] theorem State.raiseChamber_detectors : s.raiseChamber.detectors = s.detectors := by
  unfold State.raiseChamber; try dsimp only
  (repeat' split) <;> simp
@[simp] theorem State.raiseChamber_sensors : s.raiseChamber.sensors = s.sensors := by
  unfold State.raiseChamber; try dsimp only
  (repeat' split) <;> simp
@[simp] theorem State.raiseChamber_settings : s.raiseChamber.settings = s.settings := by
  unfold State.raiseChamber; try dsimp only
  (repeat' split) <;> simp
@[simp] theorem State.raiseChamber_freeCount : s.raiseChamber.freeCount = s.freeCount := by
  unfold State.raiseChamber; try dsimp only
  (repeat' split) <;> simp
@[simp] theorem State.raiseChamber_pending : s.raiseChamber.pending = s.pending := by
  unfold State.raiseChamber; try dsimp only
  (repeat' split) <;> simp
@[simp] theorem State.raiseChamber_bay (b' : BayId) : s.raiseChamber.bay b' = s.bay b' := by
  unfold State.raiseChamber; try dsimp only
  (repeat' split) <;> simp
@[simp] theorem State.raiseChamber_record (j : Slot) : s.raiseChamber.record j = s.record j := by
  unfold State.raiseChamber; try dsimp only
  (repeat' split) <;> simp
@[simp] theorem State.raiseChamber_zone (z' : ZoneId) : s.raiseChamber.zone z' = s.zone z' := by
  unfold State.raiseChamber; try dsimp only
  (repeat' split) <;> simp
@[simp] theorem State.raiseChamber_detector (d' : DetId) : s.raiseChamber.detector d' = s.detector d' := by
  unfold State.raiseChamber; try dsimp only
  (repeat' split) <;> simp
@[simp] theorem State.raiseChamber_running : s.raiseChamber.running = s.running := by
  unfold State.raiseChamber; try dsimp only
  (repeat' split) <;> simp
@[simp] theorem State.raiseChamber_bayCfg (b' : BayId) : s.raiseChamber.bayCfg b' = s.bayCfg b' := by
  unfold State.raiseChamber; try dsimp only
  (repeat' split) <;> simp
@[simp] theorem State.raiseChamber_classCfg (k' : ClassId) : s.raiseChamber.classCfg k' = s.classCfg k' := by
  unfold State.raiseChamber; try dsimp only
  (repeat' split) <;> simp
@[simp] theorem State.raiseChamber_zoneCfg (z' : ZoneId) : s.raiseChamber.zoneCfg z' = s.zoneCfg z' := by
  unfold State.raiseChamber; try dsimp only
  (repeat' split) <;> simp

/-! ### raiseFeed -/

@[simp] theorem State.raiseFeed_phase : s.raiseFeed.phase = s.phase := by
  unfold State.raiseFeed; try dsimp only
  (repeat' split) <;> simp
@[simp] theorem State.raiseFeed_retention : s.raiseFeed.retention = s.retention := by
  unfold State.raiseFeed; try dsimp only
  (repeat' split) <;> simp
@[simp] theorem State.raiseFeed_lastStart : s.raiseFeed.lastStart = s.lastStart := by
  unfold State.raiseFeed; try dsimp only
  (repeat' split) <;> simp
@[simp] theorem State.raiseFeed_lines : s.raiseFeed.lines = s.lines := by
  unfold State.raiseFeed; try dsimp only
  (repeat' split) <;> simp
@[simp] theorem State.raiseFeed_slots : s.raiseFeed.slots = s.slots := by
  unfold State.raiseFeed; try dsimp only
  (repeat' split) <;> simp
@[simp] theorem State.raiseFeed_tallies : s.raiseFeed.tallies = s.tallies := by
  unfold State.raiseFeed; try dsimp only
  (repeat' split) <;> simp
@[simp] theorem State.raiseFeed_access : s.raiseFeed.access = s.access := by
  unfold State.raiseFeed; try dsimp only
  (repeat' split) <;> simp
@[simp] theorem State.raiseFeed_arb : s.raiseFeed.arb = s.arb := by
  unfold State.raiseFeed; try dsimp only
  (repeat' split) <;> simp
@[simp] theorem State.raiseFeed_bays : s.raiseFeed.bays = s.bays := by
  unfold State.raiseFeed; try dsimp only
  (repeat' split) <;> simp
@[simp] theorem State.raiseFeed_chamber : s.raiseFeed.chamber = s.chamber := by
  unfold State.raiseFeed; try dsimp only
  (repeat' split) <;> simp
@[simp] theorem State.raiseFeed_feed : s.raiseFeed.feed = s.feed := by
  unfold State.raiseFeed; try dsimp only
  (repeat' split) <;> simp
@[simp] theorem State.raiseFeed_zones : s.raiseFeed.zones = s.zones := by
  unfold State.raiseFeed; try dsimp only
  (repeat' split) <;> simp
@[simp] theorem State.raiseFeed_detectors : s.raiseFeed.detectors = s.detectors := by
  unfold State.raiseFeed; try dsimp only
  (repeat' split) <;> simp
@[simp] theorem State.raiseFeed_sensors : s.raiseFeed.sensors = s.sensors := by
  unfold State.raiseFeed; try dsimp only
  (repeat' split) <;> simp
@[simp] theorem State.raiseFeed_settings : s.raiseFeed.settings = s.settings := by
  unfold State.raiseFeed; try dsimp only
  (repeat' split) <;> simp
@[simp] theorem State.raiseFeed_freeCount : s.raiseFeed.freeCount = s.freeCount := by
  unfold State.raiseFeed; try dsimp only
  (repeat' split) <;> simp
@[simp] theorem State.raiseFeed_pending : s.raiseFeed.pending = s.pending := by
  unfold State.raiseFeed; try dsimp only
  (repeat' split) <;> simp
@[simp] theorem State.raiseFeed_bay (b' : BayId) : s.raiseFeed.bay b' = s.bay b' := by
  unfold State.raiseFeed; try dsimp only
  (repeat' split) <;> simp
@[simp] theorem State.raiseFeed_record (j : Slot) : s.raiseFeed.record j = s.record j := by
  unfold State.raiseFeed; try dsimp only
  (repeat' split) <;> simp
@[simp] theorem State.raiseFeed_zone (z' : ZoneId) : s.raiseFeed.zone z' = s.zone z' := by
  unfold State.raiseFeed; try dsimp only
  (repeat' split) <;> simp
@[simp] theorem State.raiseFeed_detector (d' : DetId) : s.raiseFeed.detector d' = s.detector d' := by
  unfold State.raiseFeed; try dsimp only
  (repeat' split) <;> simp
@[simp] theorem State.raiseFeed_running : s.raiseFeed.running = s.running := by
  unfold State.raiseFeed; try dsimp only
  (repeat' split) <;> simp
@[simp] theorem State.raiseFeed_bayCfg (b' : BayId) : s.raiseFeed.bayCfg b' = s.bayCfg b' := by
  unfold State.raiseFeed; try dsimp only
  (repeat' split) <;> simp
@[simp] theorem State.raiseFeed_classCfg (k' : ClassId) : s.raiseFeed.classCfg k' = s.classCfg k' := by
  unfold State.raiseFeed; try dsimp only
  (repeat' split) <;> simp
@[simp] theorem State.raiseFeed_zoneCfg (z' : ZoneId) : s.raiseFeed.zoneCfg z' = s.zoneCfg z' := by
  unfold State.raiseFeed; try dsimp only
  (repeat' split) <;> simp

/-! ### evalAdmission -/

@[simp] theorem State.evalAdmission_phase : s.evalAdmission.phase = s.phase := by
  unfold State.evalAdmission; try dsimp only
  (repeat' split) <;> simp
@[simp] theorem State.evalAdmission_retention : s.evalAdmission.retention = s.retention := by
  unfold State.evalAdmission; try dsimp only
  (repeat' split) <;> simp
@[simp] theorem State.evalAdmission_lastStart : s.evalAdmission.lastStart = s.lastStart := by
  unfold State.evalAdmission; try dsimp only
  (repeat' split) <;> simp
@[simp] theorem State.evalAdmission_lines : s.evalAdmission.lines = s.lines := by
  unfold State.evalAdmission; try dsimp only
  (repeat' split) <;> simp
@[simp] theorem State.evalAdmission_slots : s.evalAdmission.slots = s.slots := by
  unfold State.evalAdmission; try dsimp only
  (repeat' split) <;> simp
@[simp] theorem State.evalAdmission_tallies : s.evalAdmission.tallies = s.tallies := by
  unfold State.evalAdmission; try dsimp only
  (repeat' split) <;> simp
@[simp] theorem State.evalAdmission_access : s.evalAdmission.access = s.access := by
  unfold State.evalAdmission; try dsimp only
  (repeat' split) <;> simp
@[simp] theorem State.evalAdmission_bays : s.evalAdmission.bays = s.bays := by
  unfold State.evalAdmission; try dsimp only
  (repeat' split) <;> simp
@[simp] theorem State.evalAdmission_chamber : s.evalAdmission.chamber = s.chamber := by
  unfold State.evalAdmission; try dsimp only
  (repeat' split) <;> simp
@[simp] theorem State.evalAdmission_zones : s.evalAdmission.zones = s.zones := by
  unfold State.evalAdmission; try dsimp only
  (repeat' split) <;> simp
@[simp] theorem State.evalAdmission_detectors : s.evalAdmission.detectors = s.detectors := by
  unfold State.evalAdmission; try dsimp only
  (repeat' split) <;> simp
@[simp] theorem State.evalAdmission_sensors : s.evalAdmission.sensors = s.sensors := by
  unfold State.evalAdmission; try dsimp only
  (repeat' split) <;> simp
@[simp] theorem State.evalAdmission_settings : s.evalAdmission.settings = s.settings := by
  unfold State.evalAdmission; try dsimp only
  (repeat' split) <;> simp
@[simp] theorem State.evalAdmission_freeCount : s.evalAdmission.freeCount = s.freeCount := by
  unfold State.evalAdmission; try dsimp only
  (repeat' split) <;> simp
@[simp] theorem State.evalAdmission_pending : s.evalAdmission.pending = s.pending := by
  unfold State.evalAdmission; try dsimp only
  (repeat' split) <;> simp
@[simp] theorem State.evalAdmission_bay (b' : BayId) : s.evalAdmission.bay b' = s.bay b' := by
  unfold State.evalAdmission; try dsimp only
  (repeat' split) <;> simp
@[simp] theorem State.evalAdmission_record (j : Slot) : s.evalAdmission.record j = s.record j := by
  unfold State.evalAdmission; try dsimp only
  (repeat' split) <;> simp
@[simp] theorem State.evalAdmission_zone (z' : ZoneId) : s.evalAdmission.zone z' = s.zone z' := by
  unfold State.evalAdmission; try dsimp only
  (repeat' split) <;> simp
@[simp] theorem State.evalAdmission_detector (d' : DetId) : s.evalAdmission.detector d' = s.detector d' := by
  unfold State.evalAdmission; try dsimp only
  (repeat' split) <;> simp
@[simp] theorem State.evalAdmission_running : s.evalAdmission.running = s.running := by
  unfold State.evalAdmission; try dsimp only
  (repeat' split) <;> simp
@[simp] theorem State.evalAdmission_bayCfg (b' : BayId) : s.evalAdmission.bayCfg b' = s.bayCfg b' := by
  unfold State.evalAdmission; try dsimp only
  (repeat' split) <;> simp
@[simp] theorem State.evalAdmission_classCfg (k' : ClassId) : s.evalAdmission.classCfg k' = s.classCfg k' := by
  unfold State.evalAdmission; try dsimp only
  (repeat' split) <;> simp
@[simp] theorem State.evalAdmission_zoneCfg (z' : ZoneId) : s.evalAdmission.zoneCfg z' = s.zoneCfg z' := by
  unfold State.evalAdmission; try dsimp only
  (repeat' split) <;> simp
@[simp] theorem State.evalAdmission_port (q : Port) : s.evalAdmission.port q = s.port q := by
  unfold State.evalAdmission; try dsimp only
  (repeat' split) <;> simp

/-! ### remember -/

@[simp] theorem State.remember_phase (e : Entry) : (s.remember e).phase = s.phase := by
  unfold State.remember; try dsimp only
  (repeat' split) <;> simp
@[simp] theorem State.remember_retention (e : Entry) : (s.remember e).retention = s.retention := by
  unfold State.remember; try dsimp only
  (repeat' split) <;> simp
@[simp] theorem State.remember_lastStart (e : Entry) : (s.remember e).lastStart = s.lastStart := by
  unfold State.remember; try dsimp only
  (repeat' split) <;> simp
@[simp] theorem State.remember_lines (e : Entry) : (s.remember e).lines = s.lines := by
  unfold State.remember; try dsimp only
  (repeat' split) <;> simp
@[simp] theorem State.remember_slots (e : Entry) : (s.remember e).slots = s.slots := by
  unfold State.remember; try dsimp only
  (repeat' split) <;> simp
@[simp] theorem State.remember_tallies (e : Entry) : (s.remember e).tallies = s.tallies := by
  unfold State.remember; try dsimp only
  (repeat' split) <;> simp
@[simp] theorem State.remember_access (e : Entry) : (s.remember e).access = s.access := by
  unfold State.remember; try dsimp only
  (repeat' split) <;> simp
@[simp] theorem State.remember_arb (e : Entry) : (s.remember e).arb = s.arb := by
  unfold State.remember; try dsimp only
  (repeat' split) <;> simp
@[simp] theorem State.remember_bays (e : Entry) : (s.remember e).bays = s.bays := by
  unfold State.remember; try dsimp only
  (repeat' split) <;> simp
@[simp] theorem State.remember_chamber (e : Entry) : (s.remember e).chamber = s.chamber := by
  unfold State.remember; try dsimp only
  (repeat' split) <;> simp
@[simp] theorem State.remember_zones (e : Entry) : (s.remember e).zones = s.zones := by
  unfold State.remember; try dsimp only
  (repeat' split) <;> simp
@[simp] theorem State.remember_detectors (e : Entry) : (s.remember e).detectors = s.detectors := by
  unfold State.remember; try dsimp only
  (repeat' split) <;> simp
@[simp] theorem State.remember_sensors (e : Entry) : (s.remember e).sensors = s.sensors := by
  unfold State.remember; try dsimp only
  (repeat' split) <;> simp
@[simp] theorem State.remember_settings (e : Entry) : (s.remember e).settings = s.settings := by
  unfold State.remember; try dsimp only
  (repeat' split) <;> simp
@[simp] theorem State.remember_line (e : Entry) : (s.remember e).line = s.line := by
  unfold State.remember; try dsimp only
  (repeat' split) <;> simp
@[simp] theorem State.remember_plant (e : Entry) : (s.remember e).plant = s.plant := by
  unfold State.remember; try dsimp only
  (repeat' split) <;> simp
@[simp] theorem State.remember_freeCount (e : Entry) : (s.remember e).freeCount = s.freeCount := by
  unfold State.remember; try dsimp only
  (repeat' split) <;> simp
@[simp] theorem State.remember_pending (e : Entry) : (s.remember e).pending = s.pending := by
  unfold State.remember; try dsimp only
  (repeat' split) <;> simp
@[simp] theorem State.remember_bay (e : Entry) (b' : BayId) : (s.remember e).bay b' = s.bay b' := by
  unfold State.remember; try dsimp only
  (repeat' split) <;> simp
@[simp] theorem State.remember_record (e : Entry) (j : Slot) : (s.remember e).record j = s.record j := by
  unfold State.remember; try dsimp only
  (repeat' split) <;> simp
@[simp] theorem State.remember_zone (e : Entry) (z' : ZoneId) : (s.remember e).zone z' = s.zone z' := by
  unfold State.remember; try dsimp only
  (repeat' split) <;> simp
@[simp] theorem State.remember_detector (e : Entry) (d' : DetId) : (s.remember e).detector d' = s.detector d' := by
  unfold State.remember; try dsimp only
  (repeat' split) <;> simp
@[simp] theorem State.remember_running (e : Entry) : (s.remember e).running = s.running := by
  unfold State.remember; try dsimp only
  (repeat' split) <;> simp
@[simp] theorem State.remember_bayCfg (e : Entry) (b' : BayId) : (s.remember e).bayCfg b' = s.bayCfg b' := by
  unfold State.remember; try dsimp only
  (repeat' split) <;> simp
@[simp] theorem State.remember_classCfg (e : Entry) (k' : ClassId) : (s.remember e).classCfg k' = s.classCfg k' := by
  unfold State.remember; try dsimp only
  (repeat' split) <;> simp
@[simp] theorem State.remember_zoneCfg (e : Entry) (z' : ZoneId) : (s.remember e).zoneCfg z' = s.zoneCfg z' := by
  unfold State.remember; try dsimp only
  (repeat' split) <;> simp
@[simp] theorem State.remember_port (e : Entry) (q : Port) : (s.remember e).port q = s.port q := by
  unfold State.remember; try dsimp only
  (repeat' split) <;> simp

/-! ### forget -/

@[simp] theorem State.forget_phase (e : Entry) : (s.forget e).phase = s.phase := by
  unfold State.forget; try dsimp only
  (repeat' split) <;> simp
@[simp] theorem State.forget_retention (e : Entry) : (s.forget e).retention = s.retention := by
  unfold State.forget; try dsimp only
  (repeat' split) <;> simp
@[simp] theorem State.forget_lastStart (e : Entry) : (s.forget e).lastStart = s.lastStart := by
  unfold State.forget; try dsimp only
  (repeat' split) <;> simp
@[simp] theorem State.forget_lines (e : Entry) : (s.forget e).lines = s.lines := by
  unfold State.forget; try dsimp only
  (repeat' split) <;> simp
@[simp] theorem State.forget_slots (e : Entry) : (s.forget e).slots = s.slots := by
  unfold State.forget; try dsimp only
  (repeat' split) <;> simp
@[simp] theorem State.forget_tallies (e : Entry) : (s.forget e).tallies = s.tallies := by
  unfold State.forget; try dsimp only
  (repeat' split) <;> simp
@[simp] theorem State.forget_access (e : Entry) : (s.forget e).access = s.access := by
  unfold State.forget; try dsimp only
  (repeat' split) <;> simp
@[simp] theorem State.forget_arb (e : Entry) : (s.forget e).arb = s.arb := by
  unfold State.forget; try dsimp only
  (repeat' split) <;> simp
@[simp] theorem State.forget_bays (e : Entry) : (s.forget e).bays = s.bays := by
  unfold State.forget; try dsimp only
  (repeat' split) <;> simp
@[simp] theorem State.forget_chamber (e : Entry) : (s.forget e).chamber = s.chamber := by
  unfold State.forget; try dsimp only
  (repeat' split) <;> simp
@[simp] theorem State.forget_zones (e : Entry) : (s.forget e).zones = s.zones := by
  unfold State.forget; try dsimp only
  (repeat' split) <;> simp
@[simp] theorem State.forget_detectors (e : Entry) : (s.forget e).detectors = s.detectors := by
  unfold State.forget; try dsimp only
  (repeat' split) <;> simp
@[simp] theorem State.forget_sensors (e : Entry) : (s.forget e).sensors = s.sensors := by
  unfold State.forget; try dsimp only
  (repeat' split) <;> simp
@[simp] theorem State.forget_settings (e : Entry) : (s.forget e).settings = s.settings := by
  unfold State.forget; try dsimp only
  (repeat' split) <;> simp
@[simp] theorem State.forget_line (e : Entry) : (s.forget e).line = s.line := by
  unfold State.forget; try dsimp only
  (repeat' split) <;> simp
@[simp] theorem State.forget_plant (e : Entry) : (s.forget e).plant = s.plant := by
  unfold State.forget; try dsimp only
  (repeat' split) <;> simp
@[simp] theorem State.forget_freeCount (e : Entry) : (s.forget e).freeCount = s.freeCount := by
  unfold State.forget; try dsimp only
  (repeat' split) <;> simp
@[simp] theorem State.forget_pending (e : Entry) : (s.forget e).pending = s.pending := by
  unfold State.forget; try dsimp only
  (repeat' split) <;> simp
@[simp] theorem State.forget_bay (e : Entry) (b' : BayId) : (s.forget e).bay b' = s.bay b' := by
  unfold State.forget; try dsimp only
  (repeat' split) <;> simp
@[simp] theorem State.forget_record (e : Entry) (j : Slot) : (s.forget e).record j = s.record j := by
  unfold State.forget; try dsimp only
  (repeat' split) <;> simp
@[simp] theorem State.forget_zone (e : Entry) (z' : ZoneId) : (s.forget e).zone z' = s.zone z' := by
  unfold State.forget; try dsimp only
  (repeat' split) <;> simp
@[simp] theorem State.forget_detector (e : Entry) (d' : DetId) : (s.forget e).detector d' = s.detector d' := by
  unfold State.forget; try dsimp only
  (repeat' split) <;> simp
@[simp] theorem State.forget_running (e : Entry) : (s.forget e).running = s.running := by
  unfold State.forget; try dsimp only
  (repeat' split) <;> simp
@[simp] theorem State.forget_bayCfg (e : Entry) (b' : BayId) : (s.forget e).bayCfg b' = s.bayCfg b' := by
  unfold State.forget; try dsimp only
  (repeat' split) <;> simp
@[simp] theorem State.forget_classCfg (e : Entry) (k' : ClassId) : (s.forget e).classCfg k' = s.classCfg k' := by
  unfold State.forget; try dsimp only
  (repeat' split) <;> simp
@[simp] theorem State.forget_zoneCfg (e : Entry) (z' : ZoneId) : (s.forget e).zoneCfg z' = s.zoneCfg z' := by
  unfold State.forget; try dsimp only
  (repeat' split) <;> simp
@[simp] theorem State.forget_port (e : Entry) (q : Port) : (s.forget e).port q = s.port q := by
  unfold State.forget; try dsimp only
  (repeat' split) <;> simp

/-! ### startReturn -/

@[simp] theorem State.startReturn_phase : s.startReturn.phase = s.phase := by
  unfold State.startReturn; try dsimp only
  (repeat' split) <;> simp
@[simp] theorem State.startReturn_retention : s.startReturn.retention = s.retention := by
  unfold State.startReturn; try dsimp only
  (repeat' split) <;> simp
@[simp] theorem State.startReturn_lastStart : s.startReturn.lastStart = s.lastStart := by
  unfold State.startReturn; try dsimp only
  (repeat' split) <;> simp
@[simp] theorem State.startReturn_lines : s.startReturn.lines = s.lines := by
  unfold State.startReturn; try dsimp only
  (repeat' split) <;> simp
@[simp] theorem State.startReturn_slots : s.startReturn.slots = s.slots := by
  unfold State.startReturn; try dsimp only
  (repeat' split) <;> simp
@[simp] theorem State.startReturn_tallies : s.startReturn.tallies = s.tallies := by
  unfold State.startReturn; try dsimp only
  (repeat' split) <;> simp
@[simp] theorem State.startReturn_access : s.startReturn.access = s.access := by
  unfold State.startReturn; try dsimp only
  (repeat' split) <;> simp
@[simp] theorem State.startReturn_bays : s.startReturn.bays = s.bays := by
  unfold State.startReturn; try dsimp only
  (repeat' split) <;> simp
@[simp] theorem State.startReturn_chamber : s.startReturn.chamber = s.chamber := by
  unfold State.startReturn; try dsimp only
  (repeat' split) <;> simp
@[simp] theorem State.startReturn_zones : s.startReturn.zones = s.zones := by
  unfold State.startReturn; try dsimp only
  (repeat' split) <;> simp
@[simp] theorem State.startReturn_detectors : s.startReturn.detectors = s.detectors := by
  unfold State.startReturn; try dsimp only
  (repeat' split) <;> simp
@[simp] theorem State.startReturn_sensors : s.startReturn.sensors = s.sensors := by
  unfold State.startReturn; try dsimp only
  (repeat' split) <;> simp
@[simp] theorem State.startReturn_settings : s.startReturn.settings = s.settings := by
  unfold State.startReturn; try dsimp only
  (repeat' split) <;> simp
@[simp] theorem State.startReturn_freeCount : s.startReturn.freeCount = s.freeCount := by
  unfold State.startReturn; try dsimp only
  (repeat' split) <;> simp
@[simp] theorem State.startReturn_pending : s.startReturn.pending = s.pending := by
  unfold State.startReturn; try dsimp only
  (repeat' split) <;> simp
@[simp] theorem State.startReturn_bay (b' : BayId) : s.startReturn.bay b' = s.bay b' := by
  unfold State.startReturn; try dsimp only
  (repeat' split) <;> simp
@[simp] theorem State.startReturn_record (j : Slot) : s.startReturn.record j = s.record j := by
  unfold State.startReturn; try dsimp only
  (repeat' split) <;> simp
@[simp] theorem State.startReturn_zone (z' : ZoneId) : s.startReturn.zone z' = s.zone z' := by
  unfold State.startReturn; try dsimp only
  (repeat' split) <;> simp
@[simp] theorem State.startReturn_detector (d' : DetId) : s.startReturn.detector d' = s.detector d' := by
  unfold State.startReturn; try dsimp only
  (repeat' split) <;> simp
@[simp] theorem State.startReturn_running : s.startReturn.running = s.running := by
  unfold State.startReturn; try dsimp only
  (repeat' split) <;> simp
@[simp] theorem State.startReturn_bayCfg (b' : BayId) : s.startReturn.bayCfg b' = s.bayCfg b' := by
  unfold State.startReturn; try dsimp only
  (repeat' split) <;> simp
@[simp] theorem State.startReturn_classCfg (k' : ClassId) : s.startReturn.classCfg k' = s.classCfg k' := by
  unfold State.startReturn; try dsimp only
  (repeat' split) <;> simp
@[simp] theorem State.startReturn_zoneCfg (z' : ZoneId) : s.startReturn.zoneCfg z' = s.zoneCfg z' := by
  unfold State.startReturn; try dsimp only
  (repeat' split) <;> simp

/-! ### loseShred -/

@[simp] theorem State.loseShred_phase : s.loseShred.phase = s.phase := by
  unfold State.loseShred; try dsimp only
  (repeat' split) <;> simp
@[simp] theorem State.loseShred_retention : s.loseShred.retention = s.retention := by
  unfold State.loseShred; try dsimp only
  (repeat' split) <;> simp
@[simp] theorem State.loseShred_lastStart : s.loseShred.lastStart = s.lastStart := by
  unfold State.loseShred; try dsimp only
  (repeat' split) <;> simp
@[simp] theorem State.loseShred_lines : s.loseShred.lines = s.lines := by
  unfold State.loseShred; try dsimp only
  (repeat' split) <;> simp
@[simp] theorem State.loseShred_slots : s.loseShred.slots = s.slots := by
  unfold State.loseShred; try dsimp only
  (repeat' split) <;> simp
@[simp] theorem State.loseShred_tallies : s.loseShred.tallies = s.tallies := by
  unfold State.loseShred; try dsimp only
  (repeat' split) <;> simp
@[simp] theorem State.loseShred_access : s.loseShred.access = s.access := by
  unfold State.loseShred; try dsimp only
  (repeat' split) <;> simp
@[simp] theorem State.loseShred_bays : s.loseShred.bays = s.bays := by
  unfold State.loseShred; try dsimp only
  (repeat' split) <;> simp
@[simp] theorem State.loseShred_chamber : s.loseShred.chamber = s.chamber := by
  unfold State.loseShred; try dsimp only
  (repeat' split) <;> simp
@[simp] theorem State.loseShred_zones : s.loseShred.zones = s.zones := by
  unfold State.loseShred; try dsimp only
  (repeat' split) <;> simp
@[simp] theorem State.loseShred_detectors : s.loseShred.detectors = s.detectors := by
  unfold State.loseShred; try dsimp only
  (repeat' split) <;> simp
@[simp] theorem State.loseShred_sensors : s.loseShred.sensors = s.sensors := by
  unfold State.loseShred; try dsimp only
  (repeat' split) <;> simp
@[simp] theorem State.loseShred_settings : s.loseShred.settings = s.settings := by
  unfold State.loseShred; try dsimp only
  (repeat' split) <;> simp
@[simp] theorem State.loseShred_line : s.loseShred.line = s.line := by
  unfold State.loseShred; try dsimp only
  (repeat' split) <;> simp
@[simp] theorem State.loseShred_plant : s.loseShred.plant = s.plant := by
  unfold State.loseShred; try dsimp only
  (repeat' split) <;> simp
@[simp] theorem State.loseShred_freeCount : s.loseShred.freeCount = s.freeCount := by
  unfold State.loseShred; try dsimp only
  (repeat' split) <;> simp
@[simp] theorem State.loseShred_pending : s.loseShred.pending = s.pending := by
  unfold State.loseShred; try dsimp only
  (repeat' split) <;> simp
@[simp] theorem State.loseShred_bay (b' : BayId) : s.loseShred.bay b' = s.bay b' := by
  unfold State.loseShred; try dsimp only
  (repeat' split) <;> simp
@[simp] theorem State.loseShred_record (j : Slot) : s.loseShred.record j = s.record j := by
  unfold State.loseShred; try dsimp only
  (repeat' split) <;> simp
@[simp] theorem State.loseShred_zone (z' : ZoneId) : s.loseShred.zone z' = s.zone z' := by
  unfold State.loseShred; try dsimp only
  (repeat' split) <;> simp
@[simp] theorem State.loseShred_detector (d' : DetId) : s.loseShred.detector d' = s.detector d' := by
  unfold State.loseShred; try dsimp only
  (repeat' split) <;> simp
@[simp] theorem State.loseShred_running : s.loseShred.running = s.running := by
  unfold State.loseShred; try dsimp only
  (repeat' split) <;> simp
@[simp] theorem State.loseShred_bayCfg (b' : BayId) : s.loseShred.bayCfg b' = s.bayCfg b' := by
  unfold State.loseShred; try dsimp only
  (repeat' split) <;> simp
@[simp] theorem State.loseShred_classCfg (k' : ClassId) : s.loseShred.classCfg k' = s.classCfg k' := by
  unfold State.loseShred; try dsimp only
  (repeat' split) <;> simp
@[simp] theorem State.loseShred_zoneCfg (z' : ZoneId) : s.loseShred.zoneCfg z' = s.zoneCfg z' := by
  unfold State.loseShred; try dsimp only
  (repeat' split) <;> simp
@[simp] theorem State.loseShred_port (q : Port) : s.loseShred.port q = s.port q := by
  unfold State.loseShred; try dsimp only
  (repeat' split) <;> simp

/-! ### driveChamber -/

@[simp] theorem State.driveChamber_phase : s.driveChamber.phase = s.phase := by
  unfold State.driveChamber; try dsimp only
  (repeat' split) <;> simp
@[simp] theorem State.driveChamber_retention : s.driveChamber.retention = s.retention := by
  unfold State.driveChamber; try dsimp only
  (repeat' split) <;> simp
@[simp] theorem State.driveChamber_lastStart : s.driveChamber.lastStart = s.lastStart := by
  unfold State.driveChamber; try dsimp only
  (repeat' split) <;> simp
@[simp] theorem State.driveChamber_lines : s.driveChamber.lines = s.lines := by
  unfold State.driveChamber; try dsimp only
  (repeat' split) <;> simp
@[simp] theorem State.driveChamber_slots : s.driveChamber.slots = s.slots := by
  unfold State.driveChamber; try dsimp only
  (repeat' split) <;> simp
@[simp] theorem State.driveChamber_tallies : s.driveChamber.tallies = s.tallies := by
  unfold State.driveChamber; try dsimp only
  (repeat' split) <;> simp
@[simp] theorem State.driveChamber_access : s.driveChamber.access = s.access := by
  unfold State.driveChamber; try dsimp only
  (repeat' split) <;> simp
@[simp] theorem State.driveChamber_arb : s.driveChamber.arb = s.arb := by
  unfold State.driveChamber; try dsimp only
  (repeat' split) <;> simp
@[simp] theorem State.driveChamber_bays : s.driveChamber.bays = s.bays := by
  unfold State.driveChamber; try dsimp only
  (repeat' split) <;> simp
@[simp] theorem State.driveChamber_feed : s.driveChamber.feed = s.feed := by
  unfold State.driveChamber; try dsimp only
  (repeat' split) <;> simp
@[simp] theorem State.driveChamber_zones : s.driveChamber.zones = s.zones := by
  unfold State.driveChamber; try dsimp only
  (repeat' split) <;> simp
@[simp] theorem State.driveChamber_detectors : s.driveChamber.detectors = s.detectors := by
  unfold State.driveChamber; try dsimp only
  (repeat' split) <;> simp
@[simp] theorem State.driveChamber_sensors : s.driveChamber.sensors = s.sensors := by
  unfold State.driveChamber; try dsimp only
  (repeat' split) <;> simp
@[simp] theorem State.driveChamber_settings : s.driveChamber.settings = s.settings := by
  unfold State.driveChamber; try dsimp only
  (repeat' split) <;> simp
@[simp] theorem State.driveChamber_line : s.driveChamber.line = s.line := by
  unfold State.driveChamber; try dsimp only
  (repeat' split) <;> simp
@[simp] theorem State.driveChamber_plant : s.driveChamber.plant = s.plant := by
  unfold State.driveChamber; try dsimp only
  (repeat' split) <;> simp
@[simp] theorem State.driveChamber_freeCount : s.driveChamber.freeCount = s.freeCount := by
  unfold State.driveChamber; try dsimp only
  (repeat' split) <;> simp
@[simp] theorem State.driveChamber_pending : s.driveChamber.pending = s.pending := by
  unfold State.driveChamber; try dsimp only
  (repeat' split) <;> simp
@[simp] theorem State.driveChamber_bay (b' : BayId) : s.driveChamber.bay b' = s.bay b' := by
  unfold State.driveChamber; try dsimp only
  (repeat' split) <;> simp
@[simp] theorem State.driveChamber_record (j : Slot) : s.driveChamber.record j = s.record j := by
  unfold State.driveChamber; try dsimp only
  (repeat' split) <;> simp
@[simp] theorem State.driveChamber_zone (z' : ZoneId) : s.driveChamber.zone z' = s.zone z' := by
  unfold State.driveChamber; try dsimp only
  (repeat' split) <;> simp
@[simp] theorem State.driveChamber_detector (d' : DetId) : s.driveChamber.detector d' = s.detector d' := by
  unfold State.driveChamber; try dsimp only
  (repeat' split) <;> simp
@[simp] theorem State.driveChamber_running : s.driveChamber.running = s.running := by
  unfold State.driveChamber; try dsimp only
  (repeat' split) <;> simp
@[simp] theorem State.driveChamber_bayCfg (b' : BayId) : s.driveChamber.bayCfg b' = s.bayCfg b' := by
  unfold State.driveChamber; try dsimp only
  (repeat' split) <;> simp
@[simp] theorem State.driveChamber_classCfg (k' : ClassId) : s.driveChamber.classCfg k' = s.classCfg k' := by
  unfold State.driveChamber; try dsimp only
  (repeat' split) <;> simp
@[simp] theorem State.driveChamber_zoneCfg (z' : ZoneId) : s.driveChamber.zoneCfg z' = s.zoneCfg z' := by
  unfold State.driveChamber; try dsimp only
  (repeat' split) <;> simp
@[simp] theorem State.driveChamber_port (q : Port) : s.driveChamber.port q = s.port q := by
  unfold State.driveChamber; try dsimp only
  (repeat' split) <;> simp

/-! ### feedChamberReport -/

@[simp] theorem State.feedChamberReport_phase (old new : ChamberState) : (s.feedChamberReport old new).phase = s.phase := by
  unfold State.feedChamberReport; try dsimp only
  (repeat' split) <;> simp
@[simp] theorem State.feedChamberReport_retention (old new : ChamberState) : (s.feedChamberReport old new).retention = s.retention := by
  unfold State.feedChamberReport; try dsimp only
  (repeat' split) <;> simp
@[simp] theorem State.feedChamberReport_lastStart (old new : ChamberState) : (s.feedChamberReport old new).lastStart = s.lastStart := by
  unfold State.feedChamberReport; try dsimp only
  (repeat' split) <;> simp
@[simp] theorem State.feedChamberReport_lines (old new : ChamberState) : (s.feedChamberReport old new).lines = s.lines := by
  unfold State.feedChamberReport; try dsimp only
  (repeat' split) <;> simp
@[simp] theorem State.feedChamberReport_slots (old new : ChamberState) : (s.feedChamberReport old new).slots = s.slots := by
  unfold State.feedChamberReport; try dsimp only
  (repeat' split) <;> simp
@[simp] theorem State.feedChamberReport_tallies (old new : ChamberState) : (s.feedChamberReport old new).tallies = s.tallies := by
  unfold State.feedChamberReport; try dsimp only
  (repeat' split) <;> simp
@[simp] theorem State.feedChamberReport_access (old new : ChamberState) : (s.feedChamberReport old new).access = s.access := by
  unfold State.feedChamberReport; try dsimp only
  (repeat' split) <;> simp
@[simp] theorem State.feedChamberReport_bays (old new : ChamberState) : (s.feedChamberReport old new).bays = s.bays := by
  unfold State.feedChamberReport; try dsimp only
  (repeat' split) <;> simp
@[simp] theorem State.feedChamberReport_chamber (old new : ChamberState) : (s.feedChamberReport old new).chamber = s.chamber := by
  unfold State.feedChamberReport; try dsimp only
  (repeat' split) <;> simp
@[simp] theorem State.feedChamberReport_zones (old new : ChamberState) : (s.feedChamberReport old new).zones = s.zones := by
  unfold State.feedChamberReport; try dsimp only
  (repeat' split) <;> simp
@[simp] theorem State.feedChamberReport_detectors (old new : ChamberState) : (s.feedChamberReport old new).detectors = s.detectors := by
  unfold State.feedChamberReport; try dsimp only
  (repeat' split) <;> simp
@[simp] theorem State.feedChamberReport_sensors (old new : ChamberState) : (s.feedChamberReport old new).sensors = s.sensors := by
  unfold State.feedChamberReport; try dsimp only
  (repeat' split) <;> simp
@[simp] theorem State.feedChamberReport_settings (old new : ChamberState) : (s.feedChamberReport old new).settings = s.settings := by
  unfold State.feedChamberReport; try dsimp only
  (repeat' split) <;> simp
@[simp] theorem State.feedChamberReport_freeCount (old new : ChamberState) : (s.feedChamberReport old new).freeCount = s.freeCount := by
  unfold State.feedChamberReport; try dsimp only
  (repeat' split) <;> simp
@[simp] theorem State.feedChamberReport_pending (old new : ChamberState) : (s.feedChamberReport old new).pending = s.pending := by
  unfold State.feedChamberReport; try dsimp only
  (repeat' split) <;> simp
@[simp] theorem State.feedChamberReport_bay (old new : ChamberState) (b' : BayId) : (s.feedChamberReport old new).bay b' = s.bay b' := by
  unfold State.feedChamberReport; try dsimp only
  (repeat' split) <;> simp
@[simp] theorem State.feedChamberReport_record (old new : ChamberState) (j : Slot) : (s.feedChamberReport old new).record j = s.record j := by
  unfold State.feedChamberReport; try dsimp only
  (repeat' split) <;> simp
@[simp] theorem State.feedChamberReport_zone (old new : ChamberState) (z' : ZoneId) : (s.feedChamberReport old new).zone z' = s.zone z' := by
  unfold State.feedChamberReport; try dsimp only
  (repeat' split) <;> simp
@[simp] theorem State.feedChamberReport_detector (old new : ChamberState) (d' : DetId) : (s.feedChamberReport old new).detector d' = s.detector d' := by
  unfold State.feedChamberReport; try dsimp only
  (repeat' split) <;> simp
@[simp] theorem State.feedChamberReport_running (old new : ChamberState) : (s.feedChamberReport old new).running = s.running := by
  unfold State.feedChamberReport; try dsimp only
  (repeat' split) <;> simp
@[simp] theorem State.feedChamberReport_bayCfg (old new : ChamberState) (b' : BayId) : (s.feedChamberReport old new).bayCfg b' = s.bayCfg b' := by
  unfold State.feedChamberReport; try dsimp only
  (repeat' split) <;> simp
@[simp] theorem State.feedChamberReport_classCfg (old new : ChamberState) (k' : ClassId) : (s.feedChamberReport old new).classCfg k' = s.classCfg k' := by
  unfold State.feedChamberReport; try dsimp only
  (repeat' split) <;> simp
@[simp] theorem State.feedChamberReport_zoneCfg (old new : ChamberState) (z' : ZoneId) : (s.feedChamberReport old new).zoneCfg z' = s.zoneCfg z' := by
  unfold State.feedChamberReport; try dsimp only
  (repeat' split) <;> simp

/-! ### enterChamber -/

@[simp] theorem State.enterChamber_phase (new : ChamberState) : (s.enterChamber new).phase = s.phase := by
  unfold State.enterChamber; try dsimp only
  (repeat' split) <;> simp
@[simp] theorem State.enterChamber_retention (new : ChamberState) : (s.enterChamber new).retention = s.retention := by
  unfold State.enterChamber; try dsimp only
  (repeat' split) <;> simp
@[simp] theorem State.enterChamber_lastStart (new : ChamberState) : (s.enterChamber new).lastStart = s.lastStart := by
  unfold State.enterChamber; try dsimp only
  (repeat' split) <;> simp
@[simp] theorem State.enterChamber_lines (new : ChamberState) : (s.enterChamber new).lines = s.lines := by
  unfold State.enterChamber; try dsimp only
  (repeat' split) <;> simp
@[simp] theorem State.enterChamber_slots (new : ChamberState) : (s.enterChamber new).slots = s.slots := by
  unfold State.enterChamber; try dsimp only
  (repeat' split) <;> simp
@[simp] theorem State.enterChamber_tallies (new : ChamberState) : (s.enterChamber new).tallies = s.tallies := by
  unfold State.enterChamber; try dsimp only
  (repeat' split) <;> simp
@[simp] theorem State.enterChamber_access (new : ChamberState) : (s.enterChamber new).access = s.access := by
  unfold State.enterChamber; try dsimp only
  (repeat' split) <;> simp
@[simp] theorem State.enterChamber_bays (new : ChamberState) : (s.enterChamber new).bays = s.bays := by
  unfold State.enterChamber; try dsimp only
  (repeat' split) <;> simp
@[simp] theorem State.enterChamber_zones (new : ChamberState) : (s.enterChamber new).zones = s.zones := by
  unfold State.enterChamber; try dsimp only
  (repeat' split) <;> simp
@[simp] theorem State.enterChamber_detectors (new : ChamberState) : (s.enterChamber new).detectors = s.detectors := by
  unfold State.enterChamber; try dsimp only
  (repeat' split) <;> simp
@[simp] theorem State.enterChamber_sensors (new : ChamberState) : (s.enterChamber new).sensors = s.sensors := by
  unfold State.enterChamber; try dsimp only
  (repeat' split) <;> simp
@[simp] theorem State.enterChamber_settings (new : ChamberState) : (s.enterChamber new).settings = s.settings := by
  unfold State.enterChamber; try dsimp only
  (repeat' split) <;> simp
@[simp] theorem State.enterChamber_freeCount (new : ChamberState) : (s.enterChamber new).freeCount = s.freeCount := by
  unfold State.enterChamber; try dsimp only
  (repeat' split) <;> simp
@[simp] theorem State.enterChamber_pending (new : ChamberState) : (s.enterChamber new).pending = s.pending := by
  unfold State.enterChamber; try dsimp only
  (repeat' split) <;> simp
@[simp] theorem State.enterChamber_bay (new : ChamberState) (b' : BayId) : (s.enterChamber new).bay b' = s.bay b' := by
  unfold State.enterChamber; try dsimp only
  (repeat' split) <;> simp
@[simp] theorem State.enterChamber_record (new : ChamberState) (j : Slot) : (s.enterChamber new).record j = s.record j := by
  unfold State.enterChamber; try dsimp only
  (repeat' split) <;> simp
@[simp] theorem State.enterChamber_zone (new : ChamberState) (z' : ZoneId) : (s.enterChamber new).zone z' = s.zone z' := by
  unfold State.enterChamber; try dsimp only
  (repeat' split) <;> simp
@[simp] theorem State.enterChamber_detector (new : ChamberState) (d' : DetId) : (s.enterChamber new).detector d' = s.detector d' := by
  unfold State.enterChamber; try dsimp only
  (repeat' split) <;> simp
@[simp] theorem State.enterChamber_running (new : ChamberState) : (s.enterChamber new).running = s.running := by
  unfold State.enterChamber; try dsimp only
  (repeat' split) <;> simp
@[simp] theorem State.enterChamber_bayCfg (new : ChamberState) (b' : BayId) : (s.enterChamber new).bayCfg b' = s.bayCfg b' := by
  unfold State.enterChamber; try dsimp only
  (repeat' split) <;> simp
@[simp] theorem State.enterChamber_classCfg (new : ChamberState) (k' : ClassId) : (s.enterChamber new).classCfg k' = s.classCfg k' := by
  unfold State.enterChamber; try dsimp only
  (repeat' split) <;> simp
@[simp] theorem State.enterChamber_zoneCfg (new : ChamberState) (z' : ZoneId) : (s.enterChamber new).zoneCfg z' = s.zoneCfg z' := by
  unfold State.enterChamber; try dsimp only
  (repeat' split) <;> simp

/-! ### recompute -/

@[simp] theorem State.recompute_phase (r : Bool) : (s.recompute r).phase = s.phase := by
  unfold State.recompute; try dsimp only
  (repeat' split) <;> simp
@[simp] theorem State.recompute_retention (r : Bool) : (s.recompute r).retention = s.retention := by
  unfold State.recompute; try dsimp only
  (repeat' split) <;> simp
@[simp] theorem State.recompute_lastStart (r : Bool) : (s.recompute r).lastStart = s.lastStart := by
  unfold State.recompute; try dsimp only
  (repeat' split) <;> simp
@[simp] theorem State.recompute_lines (r : Bool) : (s.recompute r).lines = s.lines := by
  unfold State.recompute; try dsimp only
  (repeat' split) <;> simp
@[simp] theorem State.recompute_slots (r : Bool) : (s.recompute r).slots = s.slots := by
  unfold State.recompute; try dsimp only
  (repeat' split) <;> simp
@[simp] theorem State.recompute_tallies (r : Bool) : (s.recompute r).tallies = s.tallies := by
  unfold State.recompute; try dsimp only
  (repeat' split) <;> simp
@[simp] theorem State.recompute_access (r : Bool) : (s.recompute r).access = s.access := by
  unfold State.recompute; try dsimp only
  (repeat' split) <;> simp
@[simp] theorem State.recompute_bays (r : Bool) : (s.recompute r).bays = s.bays := by
  unfold State.recompute; try dsimp only
  (repeat' split) <;> simp
@[simp] theorem State.recompute_zones (r : Bool) : (s.recompute r).zones = s.zones := by
  unfold State.recompute; try dsimp only
  (repeat' split) <;> simp
@[simp] theorem State.recompute_detectors (r : Bool) : (s.recompute r).detectors = s.detectors := by
  unfold State.recompute; try dsimp only
  (repeat' split) <;> simp
@[simp] theorem State.recompute_sensors (r : Bool) : (s.recompute r).sensors = s.sensors := by
  unfold State.recompute; try dsimp only
  (repeat' split) <;> simp
@[simp] theorem State.recompute_settings (r : Bool) : (s.recompute r).settings = s.settings := by
  unfold State.recompute; try dsimp only
  (repeat' split) <;> simp
@[simp] theorem State.recompute_freeCount (r : Bool) : (s.recompute r).freeCount = s.freeCount := by
  unfold State.recompute; try dsimp only
  (repeat' split) <;> simp
@[simp] theorem State.recompute_pending (r : Bool) : (s.recompute r).pending = s.pending := by
  unfold State.recompute; try dsimp only
  (repeat' split) <;> simp
@[simp] theorem State.recompute_bay (r : Bool) (b' : BayId) : (s.recompute r).bay b' = s.bay b' := by
  unfold State.recompute; try dsimp only
  (repeat' split) <;> simp
@[simp] theorem State.recompute_record (r : Bool) (j : Slot) : (s.recompute r).record j = s.record j := by
  unfold State.recompute; try dsimp only
  (repeat' split) <;> simp
@[simp] theorem State.recompute_zone (r : Bool) (z' : ZoneId) : (s.recompute r).zone z' = s.zone z' := by
  unfold State.recompute; try dsimp only
  (repeat' split) <;> simp
@[simp] theorem State.recompute_detector (r : Bool) (d' : DetId) : (s.recompute r).detector d' = s.detector d' := by
  unfold State.recompute; try dsimp only
  (repeat' split) <;> simp
@[simp] theorem State.recompute_running (r : Bool) : (s.recompute r).running = s.running := by
  unfold State.recompute; try dsimp only
  (repeat' split) <;> simp
@[simp] theorem State.recompute_bayCfg (r : Bool) (b' : BayId) : (s.recompute r).bayCfg b' = s.bayCfg b' := by
  unfold State.recompute; try dsimp only
  (repeat' split) <;> simp
@[simp] theorem State.recompute_classCfg (r : Bool) (k' : ClassId) : (s.recompute r).classCfg k' = s.classCfg k' := by
  unfold State.recompute; try dsimp only
  (repeat' split) <;> simp
@[simp] theorem State.recompute_zoneCfg (r : Bool) (z' : ZoneId) : (s.recompute r).zoneCfg z' = s.zoneCfg z' := by
  unfold State.recompute; try dsimp only
  (repeat' split) <;> simp

/-! ### chamberFire -/

@[simp] theorem State.chamberFire_phase : s.chamberFire.phase = s.phase := by
  unfold State.chamberFire; try dsimp only
  (repeat' split) <;> simp
@[simp] theorem State.chamberFire_retention : s.chamberFire.retention = s.retention := by
  unfold State.chamberFire; try dsimp only
  (repeat' split) <;> simp
@[simp] theorem State.chamberFire_lastStart : s.chamberFire.lastStart = s.lastStart := by
  unfold State.chamberFire; try dsimp only
  (repeat' split) <;> simp
@[simp] theorem State.chamberFire_lines : s.chamberFire.lines = s.lines := by
  unfold State.chamberFire; try dsimp only
  (repeat' split) <;> simp
@[simp] theorem State.chamberFire_slots : s.chamberFire.slots = s.slots := by
  unfold State.chamberFire; try dsimp only
  (repeat' split) <;> simp
@[simp] theorem State.chamberFire_tallies : s.chamberFire.tallies = s.tallies := by
  unfold State.chamberFire; try dsimp only
  (repeat' split) <;> simp
@[simp] theorem State.chamberFire_access : s.chamberFire.access = s.access := by
  unfold State.chamberFire; try dsimp only
  (repeat' split) <;> simp
@[simp] theorem State.chamberFire_bays : s.chamberFire.bays = s.bays := by
  unfold State.chamberFire; try dsimp only
  (repeat' split) <;> simp
@[simp] theorem State.chamberFire_zones : s.chamberFire.zones = s.zones := by
  unfold State.chamberFire; try dsimp only
  (repeat' split) <;> simp
@[simp] theorem State.chamberFire_detectors : s.chamberFire.detectors = s.detectors := by
  unfold State.chamberFire; try dsimp only
  (repeat' split) <;> simp
@[simp] theorem State.chamberFire_sensors : s.chamberFire.sensors = s.sensors := by
  unfold State.chamberFire; try dsimp only
  (repeat' split) <;> simp
@[simp] theorem State.chamberFire_settings : s.chamberFire.settings = s.settings := by
  unfold State.chamberFire; try dsimp only
  (repeat' split) <;> simp
@[simp] theorem State.chamberFire_freeCount : s.chamberFire.freeCount = s.freeCount := by
  unfold State.chamberFire; try dsimp only
  (repeat' split) <;> simp
@[simp] theorem State.chamberFire_pending : s.chamberFire.pending = s.pending := by
  unfold State.chamberFire; try dsimp only
  (repeat' split) <;> simp
@[simp] theorem State.chamberFire_bay (b' : BayId) : s.chamberFire.bay b' = s.bay b' := by
  unfold State.chamberFire; try dsimp only
  (repeat' split) <;> simp
@[simp] theorem State.chamberFire_record (j : Slot) : s.chamberFire.record j = s.record j := by
  unfold State.chamberFire; try dsimp only
  (repeat' split) <;> simp
@[simp] theorem State.chamberFire_zone (z' : ZoneId) : s.chamberFire.zone z' = s.zone z' := by
  unfold State.chamberFire; try dsimp only
  (repeat' split) <;> simp
@[simp] theorem State.chamberFire_detector (d' : DetId) : s.chamberFire.detector d' = s.detector d' := by
  unfold State.chamberFire; try dsimp only
  (repeat' split) <;> simp
@[simp] theorem State.chamberFire_running : s.chamberFire.running = s.running := by
  unfold State.chamberFire; try dsimp only
  (repeat' split) <;> simp
@[simp] theorem State.chamberFire_bayCfg (b' : BayId) : s.chamberFire.bayCfg b' = s.bayCfg b' := by
  unfold State.chamberFire; try dsimp only
  (repeat' split) <;> simp
@[simp] theorem State.chamberFire_classCfg (k' : ClassId) : s.chamberFire.classCfg k' = s.classCfg k' := by
  unfold State.chamberFire; try dsimp only
  (repeat' split) <;> simp
@[simp] theorem State.chamberFire_zoneCfg (z' : ZoneId) : s.chamberFire.zoneCfg z' = s.zoneCfg z' := by
  unfold State.chamberFire; try dsimp only
  (repeat' split) <;> simp

/-! ### chamberFireExit -/

@[simp] theorem State.chamberFireExit_phase : s.chamberFireExit.phase = s.phase := by
  unfold State.chamberFireExit; try dsimp only
  (repeat' split) <;> simp
@[simp] theorem State.chamberFireExit_retention : s.chamberFireExit.retention = s.retention := by
  unfold State.chamberFireExit; try dsimp only
  (repeat' split) <;> simp
@[simp] theorem State.chamberFireExit_lastStart : s.chamberFireExit.lastStart = s.lastStart := by
  unfold State.chamberFireExit; try dsimp only
  (repeat' split) <;> simp
@[simp] theorem State.chamberFireExit_lines : s.chamberFireExit.lines = s.lines := by
  unfold State.chamberFireExit; try dsimp only
  (repeat' split) <;> simp
@[simp] theorem State.chamberFireExit_slots : s.chamberFireExit.slots = s.slots := by
  unfold State.chamberFireExit; try dsimp only
  (repeat' split) <;> simp
@[simp] theorem State.chamberFireExit_tallies : s.chamberFireExit.tallies = s.tallies := by
  unfold State.chamberFireExit; try dsimp only
  (repeat' split) <;> simp
@[simp] theorem State.chamberFireExit_access : s.chamberFireExit.access = s.access := by
  unfold State.chamberFireExit; try dsimp only
  (repeat' split) <;> simp
@[simp] theorem State.chamberFireExit_bays : s.chamberFireExit.bays = s.bays := by
  unfold State.chamberFireExit; try dsimp only
  (repeat' split) <;> simp
@[simp] theorem State.chamberFireExit_zones : s.chamberFireExit.zones = s.zones := by
  unfold State.chamberFireExit; try dsimp only
  (repeat' split) <;> simp
@[simp] theorem State.chamberFireExit_detectors : s.chamberFireExit.detectors = s.detectors := by
  unfold State.chamberFireExit; try dsimp only
  (repeat' split) <;> simp
@[simp] theorem State.chamberFireExit_sensors : s.chamberFireExit.sensors = s.sensors := by
  unfold State.chamberFireExit; try dsimp only
  (repeat' split) <;> simp
@[simp] theorem State.chamberFireExit_settings : s.chamberFireExit.settings = s.settings := by
  unfold State.chamberFireExit; try dsimp only
  (repeat' split) <;> simp
@[simp] theorem State.chamberFireExit_freeCount : s.chamberFireExit.freeCount = s.freeCount := by
  unfold State.chamberFireExit; try dsimp only
  (repeat' split) <;> simp
@[simp] theorem State.chamberFireExit_pending : s.chamberFireExit.pending = s.pending := by
  unfold State.chamberFireExit; try dsimp only
  (repeat' split) <;> simp
@[simp] theorem State.chamberFireExit_bay (b' : BayId) : s.chamberFireExit.bay b' = s.bay b' := by
  unfold State.chamberFireExit; try dsimp only
  (repeat' split) <;> simp
@[simp] theorem State.chamberFireExit_record (j : Slot) : s.chamberFireExit.record j = s.record j := by
  unfold State.chamberFireExit; try dsimp only
  (repeat' split) <;> simp
@[simp] theorem State.chamberFireExit_zone (z' : ZoneId) : s.chamberFireExit.zone z' = s.zone z' := by
  unfold State.chamberFireExit; try dsimp only
  (repeat' split) <;> simp
@[simp] theorem State.chamberFireExit_detector (d' : DetId) : s.chamberFireExit.detector d' = s.detector d' := by
  unfold State.chamberFireExit; try dsimp only
  (repeat' split) <;> simp
@[simp] theorem State.chamberFireExit_running : s.chamberFireExit.running = s.running := by
  unfold State.chamberFireExit; try dsimp only
  (repeat' split) <;> simp
@[simp] theorem State.chamberFireExit_bayCfg (b' : BayId) : s.chamberFireExit.bayCfg b' = s.bayCfg b' := by
  unfold State.chamberFireExit; try dsimp only
  (repeat' split) <;> simp
@[simp] theorem State.chamberFireExit_classCfg (k' : ClassId) : s.chamberFireExit.classCfg k' = s.classCfg k' := by
  unfold State.chamberFireExit; try dsimp only
  (repeat' split) <;> simp
@[simp] theorem State.chamberFireExit_zoneCfg (z' : ZoneId) : s.chamberFireExit.zoneCfg z' = s.zoneCfg z' := by
  unfold State.chamberFireExit; try dsimp only
  (repeat' split) <;> simp

/-! ### computeLimit -/

@[simp] theorem State.computeLimit_phase (b : BayId) : (s.computeLimit b).phase = s.phase := by
  unfold State.computeLimit; try dsimp only
  (repeat' split) <;> simp
@[simp] theorem State.computeLimit_retention (b : BayId) : (s.computeLimit b).retention = s.retention := by
  unfold State.computeLimit; try dsimp only
  (repeat' split) <;> simp
@[simp] theorem State.computeLimit_lastStart (b : BayId) : (s.computeLimit b).lastStart = s.lastStart := by
  unfold State.computeLimit; try dsimp only
  (repeat' split) <;> simp
@[simp] theorem State.computeLimit_lines (b : BayId) : (s.computeLimit b).lines = s.lines := by
  unfold State.computeLimit; try dsimp only
  (repeat' split) <;> simp
@[simp] theorem State.computeLimit_slots (b : BayId) : (s.computeLimit b).slots = s.slots := by
  unfold State.computeLimit; try dsimp only
  (repeat' split) <;> simp
@[simp] theorem State.computeLimit_tallies (b : BayId) : (s.computeLimit b).tallies = s.tallies := by
  unfold State.computeLimit; try dsimp only
  (repeat' split) <;> simp
@[simp] theorem State.computeLimit_access (b : BayId) : (s.computeLimit b).access = s.access := by
  unfold State.computeLimit; try dsimp only
  (repeat' split) <;> simp
@[simp] theorem State.computeLimit_arb (b : BayId) : (s.computeLimit b).arb = s.arb := by
  unfold State.computeLimit; try dsimp only
  (repeat' split) <;> simp
@[simp] theorem State.computeLimit_chamber (b : BayId) : (s.computeLimit b).chamber = s.chamber := by
  unfold State.computeLimit; try dsimp only
  (repeat' split) <;> simp
@[simp] theorem State.computeLimit_feed (b : BayId) : (s.computeLimit b).feed = s.feed := by
  unfold State.computeLimit; try dsimp only
  (repeat' split) <;> simp
@[simp] theorem State.computeLimit_zones (b : BayId) : (s.computeLimit b).zones = s.zones := by
  unfold State.computeLimit; try dsimp only
  (repeat' split) <;> simp
@[simp] theorem State.computeLimit_detectors (b : BayId) : (s.computeLimit b).detectors = s.detectors := by
  unfold State.computeLimit; try dsimp only
  (repeat' split) <;> simp
@[simp] theorem State.computeLimit_sensors (b : BayId) : (s.computeLimit b).sensors = s.sensors := by
  unfold State.computeLimit; try dsimp only
  (repeat' split) <;> simp
@[simp] theorem State.computeLimit_settings (b : BayId) : (s.computeLimit b).settings = s.settings := by
  unfold State.computeLimit; try dsimp only
  (repeat' split) <;> simp
@[simp] theorem State.computeLimit_line (b : BayId) : (s.computeLimit b).line = s.line := by
  unfold State.computeLimit; try dsimp only
  (repeat' split) <;> simp
@[simp] theorem State.computeLimit_plant (b : BayId) : (s.computeLimit b).plant = s.plant := by
  unfold State.computeLimit; try dsimp only
  (repeat' split) <;> simp
@[simp] theorem State.computeLimit_freeCount (b : BayId) : (s.computeLimit b).freeCount = s.freeCount := by
  unfold State.computeLimit; try dsimp only
  (repeat' split) <;> simp
@[simp] theorem State.computeLimit_pending (b : BayId) : (s.computeLimit b).pending = s.pending := by
  unfold State.computeLimit; try dsimp only
  (repeat' split) <;> simp
@[simp] theorem State.computeLimit_record (b : BayId) (j : Slot) : (s.computeLimit b).record j = s.record j := by
  unfold State.computeLimit; try dsimp only
  (repeat' split) <;> simp
@[simp] theorem State.computeLimit_zone (b : BayId) (z' : ZoneId) : (s.computeLimit b).zone z' = s.zone z' := by
  unfold State.computeLimit; try dsimp only
  (repeat' split) <;> simp
@[simp] theorem State.computeLimit_detector (b : BayId) (d' : DetId) : (s.computeLimit b).detector d' = s.detector d' := by
  unfold State.computeLimit; try dsimp only
  (repeat' split) <;> simp
@[simp] theorem State.computeLimit_running (b : BayId) : (s.computeLimit b).running = s.running := by
  unfold State.computeLimit; try dsimp only
  (repeat' split) <;> simp
@[simp] theorem State.computeLimit_bayCfg (b : BayId) (b' : BayId) : (s.computeLimit b).bayCfg b' = s.bayCfg b' := by
  unfold State.computeLimit; try dsimp only
  (repeat' split) <;> simp
@[simp] theorem State.computeLimit_classCfg (b : BayId) (k' : ClassId) : (s.computeLimit b).classCfg k' = s.classCfg k' := by
  unfold State.computeLimit; try dsimp only
  (repeat' split) <;> simp
@[simp] theorem State.computeLimit_zoneCfg (b : BayId) (z' : ZoneId) : (s.computeLimit b).zoneCfg z' = s.zoneCfg z' := by
  unfold State.computeLimit; try dsimp only
  (repeat' split) <;> simp
@[simp] theorem State.computeLimit_port (b : BayId) (q : Port) : (s.computeLimit b).port q = s.port q := by
  unfold State.computeLimit; try dsimp only
  (repeat' split) <;> simp

/-! ### askFlag -/

@[simp] theorem State.askFlag_phase (b : BayId) (f : HazardFlag) : (s.askFlag b f).phase = s.phase := by
  unfold State.askFlag; try dsimp only
  (repeat' split) <;> simp
@[simp] theorem State.askFlag_retention (b : BayId) (f : HazardFlag) : (s.askFlag b f).retention = s.retention := by
  unfold State.askFlag; try dsimp only
  (repeat' split) <;> simp
@[simp] theorem State.askFlag_lastStart (b : BayId) (f : HazardFlag) : (s.askFlag b f).lastStart = s.lastStart := by
  unfold State.askFlag; try dsimp only
  (repeat' split) <;> simp
@[simp] theorem State.askFlag_lines (b : BayId) (f : HazardFlag) : (s.askFlag b f).lines = s.lines := by
  unfold State.askFlag; try dsimp only
  (repeat' split) <;> simp
@[simp] theorem State.askFlag_slots (b : BayId) (f : HazardFlag) : (s.askFlag b f).slots = s.slots := by
  unfold State.askFlag; try dsimp only
  (repeat' split) <;> simp
@[simp] theorem State.askFlag_tallies (b : BayId) (f : HazardFlag) : (s.askFlag b f).tallies = s.tallies := by
  unfold State.askFlag; try dsimp only
  (repeat' split) <;> simp
@[simp] theorem State.askFlag_access (b : BayId) (f : HazardFlag) : (s.askFlag b f).access = s.access := by
  unfold State.askFlag; try dsimp only
  (repeat' split) <;> simp
@[simp] theorem State.askFlag_chamber (b : BayId) (f : HazardFlag) : (s.askFlag b f).chamber = s.chamber := by
  unfold State.askFlag; try dsimp only
  (repeat' split) <;> simp
@[simp] theorem State.askFlag_feed (b : BayId) (f : HazardFlag) : (s.askFlag b f).feed = s.feed := by
  unfold State.askFlag; try dsimp only
  (repeat' split) <;> simp
@[simp] theorem State.askFlag_zones (b : BayId) (f : HazardFlag) : (s.askFlag b f).zones = s.zones := by
  unfold State.askFlag; try dsimp only
  (repeat' split) <;> simp
@[simp] theorem State.askFlag_detectors (b : BayId) (f : HazardFlag) : (s.askFlag b f).detectors = s.detectors := by
  unfold State.askFlag; try dsimp only
  (repeat' split) <;> simp
@[simp] theorem State.askFlag_sensors (b : BayId) (f : HazardFlag) : (s.askFlag b f).sensors = s.sensors := by
  unfold State.askFlag; try dsimp only
  (repeat' split) <;> simp
@[simp] theorem State.askFlag_settings (b : BayId) (f : HazardFlag) : (s.askFlag b f).settings = s.settings := by
  unfold State.askFlag; try dsimp only
  (repeat' split) <;> simp
@[simp] theorem State.askFlag_line (b : BayId) (f : HazardFlag) : (s.askFlag b f).line = s.line := by
  unfold State.askFlag; try dsimp only
  (repeat' split) <;> simp
@[simp] theorem State.askFlag_plant (b : BayId) (f : HazardFlag) : (s.askFlag b f).plant = s.plant := by
  unfold State.askFlag; try dsimp only
  (repeat' split) <;> simp
@[simp] theorem State.askFlag_freeCount (b : BayId) (f : HazardFlag) : (s.askFlag b f).freeCount = s.freeCount := by
  unfold State.askFlag; try dsimp only
  (repeat' split) <;> simp
@[simp] theorem State.askFlag_pending (b : BayId) (f : HazardFlag) : (s.askFlag b f).pending = s.pending := by
  unfold State.askFlag; try dsimp only
  (repeat' split) <;> simp
@[simp] theorem State.askFlag_record (b : BayId) (f : HazardFlag) (j : Slot) : (s.askFlag b f).record j = s.record j := by
  unfold State.askFlag; try dsimp only
  (repeat' split) <;> simp
@[simp] theorem State.askFlag_zone (b : BayId) (f : HazardFlag) (z' : ZoneId) : (s.askFlag b f).zone z' = s.zone z' := by
  unfold State.askFlag; try dsimp only
  (repeat' split) <;> simp
@[simp] theorem State.askFlag_detector (b : BayId) (f : HazardFlag) (d' : DetId) : (s.askFlag b f).detector d' = s.detector d' := by
  unfold State.askFlag; try dsimp only
  (repeat' split) <;> simp
@[simp] theorem State.askFlag_running (b : BayId) (f : HazardFlag) : (s.askFlag b f).running = s.running := by
  unfold State.askFlag; try dsimp only
  (repeat' split) <;> simp
@[simp] theorem State.askFlag_bayCfg (b : BayId) (f : HazardFlag) (b' : BayId) : (s.askFlag b f).bayCfg b' = s.bayCfg b' := by
  unfold State.askFlag; try dsimp only
  (repeat' split) <;> simp
@[simp] theorem State.askFlag_classCfg (b : BayId) (f : HazardFlag) (k' : ClassId) : (s.askFlag b f).classCfg k' = s.classCfg k' := by
  unfold State.askFlag; try dsimp only
  (repeat' split) <;> simp
@[simp] theorem State.askFlag_zoneCfg (b : BayId) (f : HazardFlag) (z' : ZoneId) : (s.askFlag b f).zoneCfg z' = s.zoneCfg z' := by
  unfold State.askFlag; try dsimp only
  (repeat' split) <;> simp
@[simp] theorem State.askFlag_port (b : BayId) (f : HazardFlag) (q : Port) : (s.askFlag b f).port q = s.port q := by
  unfold State.askFlag; try dsimp only
  (repeat' split) <;> simp

/-! ### askStage -/

@[simp] theorem State.askStage_phase (b : BayId) (g g' : Stage) (r : Option (Nat × Nat)) : (s.askStage b g g' r).phase = s.phase := by
  unfold State.askStage; try dsimp only
  (repeat' split) <;> simp
@[simp] theorem State.askStage_retention (b : BayId) (g g' : Stage) (r : Option (Nat × Nat)) : (s.askStage b g g' r).retention = s.retention := by
  unfold State.askStage; try dsimp only
  (repeat' split) <;> simp
@[simp] theorem State.askStage_lastStart (b : BayId) (g g' : Stage) (r : Option (Nat × Nat)) : (s.askStage b g g' r).lastStart = s.lastStart := by
  unfold State.askStage; try dsimp only
  (repeat' split) <;> simp
@[simp] theorem State.askStage_lines (b : BayId) (g g' : Stage) (r : Option (Nat × Nat)) : (s.askStage b g g' r).lines = s.lines := by
  unfold State.askStage; try dsimp only
  (repeat' split) <;> simp
@[simp] theorem State.askStage_slots (b : BayId) (g g' : Stage) (r : Option (Nat × Nat)) : (s.askStage b g g' r).slots = s.slots := by
  unfold State.askStage; try dsimp only
  (repeat' split) <;> simp
@[simp] theorem State.askStage_tallies (b : BayId) (g g' : Stage) (r : Option (Nat × Nat)) : (s.askStage b g g' r).tallies = s.tallies := by
  unfold State.askStage; try dsimp only
  (repeat' split) <;> simp
@[simp] theorem State.askStage_access (b : BayId) (g g' : Stage) (r : Option (Nat × Nat)) : (s.askStage b g g' r).access = s.access := by
  unfold State.askStage; try dsimp only
  (repeat' split) <;> simp
@[simp] theorem State.askStage_chamber (b : BayId) (g g' : Stage) (r : Option (Nat × Nat)) : (s.askStage b g g' r).chamber = s.chamber := by
  unfold State.askStage; try dsimp only
  (repeat' split) <;> simp
@[simp] theorem State.askStage_feed (b : BayId) (g g' : Stage) (r : Option (Nat × Nat)) : (s.askStage b g g' r).feed = s.feed := by
  unfold State.askStage; try dsimp only
  (repeat' split) <;> simp
@[simp] theorem State.askStage_zones (b : BayId) (g g' : Stage) (r : Option (Nat × Nat)) : (s.askStage b g g' r).zones = s.zones := by
  unfold State.askStage; try dsimp only
  (repeat' split) <;> simp
@[simp] theorem State.askStage_detectors (b : BayId) (g g' : Stage) (r : Option (Nat × Nat)) : (s.askStage b g g' r).detectors = s.detectors := by
  unfold State.askStage; try dsimp only
  (repeat' split) <;> simp
@[simp] theorem State.askStage_sensors (b : BayId) (g g' : Stage) (r : Option (Nat × Nat)) : (s.askStage b g g' r).sensors = s.sensors := by
  unfold State.askStage; try dsimp only
  (repeat' split) <;> simp
@[simp] theorem State.askStage_settings (b : BayId) (g g' : Stage) (r : Option (Nat × Nat)) : (s.askStage b g g' r).settings = s.settings := by
  unfold State.askStage; try dsimp only
  (repeat' split) <;> simp
@[simp] theorem State.askStage_line (b : BayId) (g g' : Stage) (r : Option (Nat × Nat)) : (s.askStage b g g' r).line = s.line := by
  unfold State.askStage; try dsimp only
  (repeat' split) <;> simp
@[simp] theorem State.askStage_plant (b : BayId) (g g' : Stage) (r : Option (Nat × Nat)) : (s.askStage b g g' r).plant = s.plant := by
  unfold State.askStage; try dsimp only
  (repeat' split) <;> simp
@[simp] theorem State.askStage_freeCount (b : BayId) (g g' : Stage) (r : Option (Nat × Nat)) : (s.askStage b g g' r).freeCount = s.freeCount := by
  unfold State.askStage; try dsimp only
  (repeat' split) <;> simp
@[simp] theorem State.askStage_pending (b : BayId) (g g' : Stage) (r : Option (Nat × Nat)) : (s.askStage b g g' r).pending = s.pending := by
  unfold State.askStage; try dsimp only
  (repeat' split) <;> simp
@[simp] theorem State.askStage_record (b : BayId) (g g' : Stage) (r : Option (Nat × Nat)) (j : Slot) : (s.askStage b g g' r).record j = s.record j := by
  unfold State.askStage; try dsimp only
  (repeat' split) <;> simp
@[simp] theorem State.askStage_zone (b : BayId) (g g' : Stage) (r : Option (Nat × Nat)) (z' : ZoneId) : (s.askStage b g g' r).zone z' = s.zone z' := by
  unfold State.askStage; try dsimp only
  (repeat' split) <;> simp
@[simp] theorem State.askStage_detector (b : BayId) (g g' : Stage) (r : Option (Nat × Nat)) (d' : DetId) : (s.askStage b g g' r).detector d' = s.detector d' := by
  unfold State.askStage; try dsimp only
  (repeat' split) <;> simp
@[simp] theorem State.askStage_running (b : BayId) (g g' : Stage) (r : Option (Nat × Nat)) : (s.askStage b g g' r).running = s.running := by
  unfold State.askStage; try dsimp only
  (repeat' split) <;> simp
@[simp] theorem State.askStage_bayCfg (b : BayId) (g g' : Stage) (r : Option (Nat × Nat)) (b' : BayId) : (s.askStage b g g' r).bayCfg b' = s.bayCfg b' := by
  unfold State.askStage; try dsimp only
  (repeat' split) <;> simp
@[simp] theorem State.askStage_classCfg (b : BayId) (g g' : Stage) (r : Option (Nat × Nat)) (k' : ClassId) : (s.askStage b g g' r).classCfg k' = s.classCfg k' := by
  unfold State.askStage; try dsimp only
  (repeat' split) <;> simp
@[simp] theorem State.askStage_zoneCfg (b : BayId) (g g' : Stage) (r : Option (Nat × Nat)) (z' : ZoneId) : (s.askStage b g g' r).zoneCfg z' = s.zoneCfg z' := by
  unfold State.askStage; try dsimp only
  (repeat' split) <;> simp
@[simp] theorem State.askStage_port (b : BayId) (g g' : Stage) (r : Option (Nat × Nat)) (q : Port) : (s.askStage b g g' r).port q = s.port q := by
  unfold State.askStage; try dsimp only
  (repeat' split) <;> simp

/-! ### askUnbind -/

@[simp] theorem State.askUnbind_phase (b : BayId) (g g' : Stage) (r : Option (Nat × Nat)) (l : Bool) : (s.askUnbind b g g' r l).phase = s.phase := by
  unfold State.askUnbind; try dsimp only
  (repeat' split) <;> simp
@[simp] theorem State.askUnbind_retention (b : BayId) (g g' : Stage) (r : Option (Nat × Nat)) (l : Bool) : (s.askUnbind b g g' r l).retention = s.retention := by
  unfold State.askUnbind; try dsimp only
  (repeat' split) <;> simp
@[simp] theorem State.askUnbind_lastStart (b : BayId) (g g' : Stage) (r : Option (Nat × Nat)) (l : Bool) : (s.askUnbind b g g' r l).lastStart = s.lastStart := by
  unfold State.askUnbind; try dsimp only
  (repeat' split) <;> simp
@[simp] theorem State.askUnbind_lines (b : BayId) (g g' : Stage) (r : Option (Nat × Nat)) (l : Bool) : (s.askUnbind b g g' r l).lines = s.lines := by
  unfold State.askUnbind; try dsimp only
  (repeat' split) <;> simp
@[simp] theorem State.askUnbind_slots (b : BayId) (g g' : Stage) (r : Option (Nat × Nat)) (l : Bool) : (s.askUnbind b g g' r l).slots = s.slots := by
  unfold State.askUnbind; try dsimp only
  (repeat' split) <;> simp
@[simp] theorem State.askUnbind_tallies (b : BayId) (g g' : Stage) (r : Option (Nat × Nat)) (l : Bool) : (s.askUnbind b g g' r l).tallies = s.tallies := by
  unfold State.askUnbind; try dsimp only
  (repeat' split) <;> simp
@[simp] theorem State.askUnbind_access (b : BayId) (g g' : Stage) (r : Option (Nat × Nat)) (l : Bool) : (s.askUnbind b g g' r l).access = s.access := by
  unfold State.askUnbind; try dsimp only
  (repeat' split) <;> simp
@[simp] theorem State.askUnbind_chamber (b : BayId) (g g' : Stage) (r : Option (Nat × Nat)) (l : Bool) : (s.askUnbind b g g' r l).chamber = s.chamber := by
  unfold State.askUnbind; try dsimp only
  (repeat' split) <;> simp
@[simp] theorem State.askUnbind_feed (b : BayId) (g g' : Stage) (r : Option (Nat × Nat)) (l : Bool) : (s.askUnbind b g g' r l).feed = s.feed := by
  unfold State.askUnbind; try dsimp only
  (repeat' split) <;> simp
@[simp] theorem State.askUnbind_zones (b : BayId) (g g' : Stage) (r : Option (Nat × Nat)) (l : Bool) : (s.askUnbind b g g' r l).zones = s.zones := by
  unfold State.askUnbind; try dsimp only
  (repeat' split) <;> simp
@[simp] theorem State.askUnbind_detectors (b : BayId) (g g' : Stage) (r : Option (Nat × Nat)) (l : Bool) : (s.askUnbind b g g' r l).detectors = s.detectors := by
  unfold State.askUnbind; try dsimp only
  (repeat' split) <;> simp
@[simp] theorem State.askUnbind_sensors (b : BayId) (g g' : Stage) (r : Option (Nat × Nat)) (l : Bool) : (s.askUnbind b g g' r l).sensors = s.sensors := by
  unfold State.askUnbind; try dsimp only
  (repeat' split) <;> simp
@[simp] theorem State.askUnbind_settings (b : BayId) (g g' : Stage) (r : Option (Nat × Nat)) (l : Bool) : (s.askUnbind b g g' r l).settings = s.settings := by
  unfold State.askUnbind; try dsimp only
  (repeat' split) <;> simp
@[simp] theorem State.askUnbind_line (b : BayId) (g g' : Stage) (r : Option (Nat × Nat)) (l : Bool) : (s.askUnbind b g g' r l).line = s.line := by
  unfold State.askUnbind; try dsimp only
  (repeat' split) <;> simp
@[simp] theorem State.askUnbind_plant (b : BayId) (g g' : Stage) (r : Option (Nat × Nat)) (l : Bool) : (s.askUnbind b g g' r l).plant = s.plant := by
  unfold State.askUnbind; try dsimp only
  (repeat' split) <;> simp
@[simp] theorem State.askUnbind_freeCount (b : BayId) (g g' : Stage) (r : Option (Nat × Nat)) (l : Bool) : (s.askUnbind b g g' r l).freeCount = s.freeCount := by
  unfold State.askUnbind; try dsimp only
  (repeat' split) <;> simp
@[simp] theorem State.askUnbind_pending (b : BayId) (g g' : Stage) (r : Option (Nat × Nat)) (l : Bool) : (s.askUnbind b g g' r l).pending = s.pending := by
  unfold State.askUnbind; try dsimp only
  (repeat' split) <;> simp
@[simp] theorem State.askUnbind_record (b : BayId) (g g' : Stage) (r : Option (Nat × Nat)) (l : Bool) (j : Slot) : (s.askUnbind b g g' r l).record j = s.record j := by
  unfold State.askUnbind; try dsimp only
  (repeat' split) <;> simp
@[simp] theorem State.askUnbind_zone (b : BayId) (g g' : Stage) (r : Option (Nat × Nat)) (l : Bool) (z' : ZoneId) : (s.askUnbind b g g' r l).zone z' = s.zone z' := by
  unfold State.askUnbind; try dsimp only
  (repeat' split) <;> simp
@[simp] theorem State.askUnbind_detector (b : BayId) (g g' : Stage) (r : Option (Nat × Nat)) (l : Bool) (d' : DetId) : (s.askUnbind b g g' r l).detector d' = s.detector d' := by
  unfold State.askUnbind; try dsimp only
  (repeat' split) <;> simp
@[simp] theorem State.askUnbind_running (b : BayId) (g g' : Stage) (r : Option (Nat × Nat)) (l : Bool) : (s.askUnbind b g g' r l).running = s.running := by
  unfold State.askUnbind; try dsimp only
  (repeat' split) <;> simp
@[simp] theorem State.askUnbind_bayCfg (b : BayId) (g g' : Stage) (r : Option (Nat × Nat)) (l : Bool) (b' : BayId) : (s.askUnbind b g g' r l).bayCfg b' = s.bayCfg b' := by
  unfold State.askUnbind; try dsimp only
  (repeat' split) <;> simp
@[simp] theorem State.askUnbind_classCfg (b : BayId) (g g' : Stage) (r : Option (Nat × Nat)) (l : Bool) (k' : ClassId) : (s.askUnbind b g g' r l).classCfg k' = s.classCfg k' := by
  unfold State.askUnbind; try dsimp only
  (repeat' split) <;> simp
@[simp] theorem State.askUnbind_zoneCfg (b : BayId) (g g' : Stage) (r : Option (Nat × Nat)) (l : Bool) (z' : ZoneId) : (s.askUnbind b g g' r l).zoneCfg z' = s.zoneCfg z' := by
  unfold State.askUnbind; try dsimp only
  (repeat' split) <;> simp
@[simp] theorem State.askUnbind_port (b : BayId) (g g' : Stage) (r : Option (Nat × Nat)) (l : Bool) (q : Port) : (s.askUnbind b g g' r l).port q = s.port q := by
  unfold State.askUnbind; try dsimp only
  (repeat' split) <;> simp

/-! ### payStage -/

@[simp] theorem State.payStage_phase (b : BayId) : (s.payStage b).phase = s.phase := by
  unfold State.payStage; try dsimp only
  (repeat' split) <;> simp
@[simp] theorem State.payStage_retention (b : BayId) : (s.payStage b).retention = s.retention := by
  unfold State.payStage; try dsimp only
  (repeat' split) <;> simp
@[simp] theorem State.payStage_lastStart (b : BayId) : (s.payStage b).lastStart = s.lastStart := by
  unfold State.payStage; try dsimp only
  (repeat' split) <;> simp
@[simp] theorem State.payStage_lines (b : BayId) : (s.payStage b).lines = s.lines := by
  unfold State.payStage; try dsimp only
  (repeat' split) <;> simp
@[simp] theorem State.payStage_slots (b : BayId) : (s.payStage b).slots = s.slots := by
  unfold State.payStage; try dsimp only
  (repeat' split) <;> simp
@[simp] theorem State.payStage_tallies (b : BayId) : (s.payStage b).tallies = s.tallies := by
  unfold State.payStage; try dsimp only
  (repeat' split) <;> simp
@[simp] theorem State.payStage_access (b : BayId) : (s.payStage b).access = s.access := by
  unfold State.payStage; try dsimp only
  (repeat' split) <;> simp
@[simp] theorem State.payStage_chamber (b : BayId) : (s.payStage b).chamber = s.chamber := by
  unfold State.payStage; try dsimp only
  (repeat' split) <;> simp
@[simp] theorem State.payStage_feed (b : BayId) : (s.payStage b).feed = s.feed := by
  unfold State.payStage; try dsimp only
  (repeat' split) <;> simp
@[simp] theorem State.payStage_zones (b : BayId) : (s.payStage b).zones = s.zones := by
  unfold State.payStage; try dsimp only
  (repeat' split) <;> simp
@[simp] theorem State.payStage_detectors (b : BayId) : (s.payStage b).detectors = s.detectors := by
  unfold State.payStage; try dsimp only
  (repeat' split) <;> simp
@[simp] theorem State.payStage_sensors (b : BayId) : (s.payStage b).sensors = s.sensors := by
  unfold State.payStage; try dsimp only
  (repeat' split) <;> simp
@[simp] theorem State.payStage_settings (b : BayId) : (s.payStage b).settings = s.settings := by
  unfold State.payStage; try dsimp only
  (repeat' split) <;> simp
@[simp] theorem State.payStage_line (b : BayId) : (s.payStage b).line = s.line := by
  unfold State.payStage; try dsimp only
  (repeat' split) <;> simp
@[simp] theorem State.payStage_plant (b : BayId) : (s.payStage b).plant = s.plant := by
  unfold State.payStage; try dsimp only
  (repeat' split) <;> simp
@[simp] theorem State.payStage_freeCount (b : BayId) : (s.payStage b).freeCount = s.freeCount := by
  unfold State.payStage; try dsimp only
  (repeat' split) <;> simp
@[simp] theorem State.payStage_pending (b : BayId) : (s.payStage b).pending = s.pending := by
  unfold State.payStage; try dsimp only
  (repeat' split) <;> simp
@[simp] theorem State.payStage_record (b : BayId) (j : Slot) : (s.payStage b).record j = s.record j := by
  unfold State.payStage; try dsimp only
  (repeat' split) <;> simp
@[simp] theorem State.payStage_zone (b : BayId) (z' : ZoneId) : (s.payStage b).zone z' = s.zone z' := by
  unfold State.payStage; try dsimp only
  (repeat' split) <;> simp
@[simp] theorem State.payStage_detector (b : BayId) (d' : DetId) : (s.payStage b).detector d' = s.detector d' := by
  unfold State.payStage; try dsimp only
  (repeat' split) <;> simp
@[simp] theorem State.payStage_running (b : BayId) : (s.payStage b).running = s.running := by
  unfold State.payStage; try dsimp only
  (repeat' split) <;> simp
@[simp] theorem State.payStage_bayCfg (b : BayId) (b' : BayId) : (s.payStage b).bayCfg b' = s.bayCfg b' := by
  unfold State.payStage; try dsimp only
  (repeat' split) <;> simp
@[simp] theorem State.payStage_classCfg (b : BayId) (k' : ClassId) : (s.payStage b).classCfg k' = s.classCfg k' := by
  unfold State.payStage; try dsimp only
  (repeat' split) <;> simp
@[simp] theorem State.payStage_zoneCfg (b : BayId) (z' : ZoneId) : (s.payStage b).zoneCfg z' = s.zoneCfg z' := by
  unfold State.payStage; try dsimp only
  (repeat' split) <;> simp
@[simp] theorem State.payStage_port (b : BayId) (q : Port) : (s.payStage b).port q = s.port q := by
  unfold State.payStage; try dsimp only
  (repeat' split) <;> simp

/-! ### resume -/

@[simp] theorem State.resume_phase (b : BayId) : (s.resume b).phase = s.phase := by
  unfold State.resume; try dsimp only
  (repeat' split) <;> simp
@[simp] theorem State.resume_retention (b : BayId) : (s.resume b).retention = s.retention := by
  unfold State.resume; try dsimp only
  (repeat' split) <;> simp
@[simp] theorem State.resume_lastStart (b : BayId) : (s.resume b).lastStart = s.lastStart := by
  unfold State.resume; try dsimp only
  (repeat' split) <;> simp
@[simp] theorem State.resume_lines (b : BayId) : (s.resume b).lines = s.lines := by
  unfold State.resume; try dsimp only
  (repeat' split) <;> simp
@[simp] theorem State.resume_slots (b : BayId) : (s.resume b).slots = s.slots := by
  unfold State.resume; try dsimp only
  (repeat' split) <;> simp
@[simp] theorem State.resume_tallies (b : BayId) : (s.resume b).tallies = s.tallies := by
  unfold State.resume; try dsimp only
  (repeat' split) <;> simp
@[simp] theorem State.resume_access (b : BayId) : (s.resume b).access = s.access := by
  unfold State.resume; try dsimp only
  (repeat' split) <;> simp
@[simp] theorem State.resume_chamber (b : BayId) : (s.resume b).chamber = s.chamber := by
  unfold State.resume; try dsimp only
  (repeat' split) <;> simp
@[simp] theorem State.resume_feed (b : BayId) : (s.resume b).feed = s.feed := by
  unfold State.resume; try dsimp only
  (repeat' split) <;> simp
@[simp] theorem State.resume_zones (b : BayId) : (s.resume b).zones = s.zones := by
  unfold State.resume; try dsimp only
  (repeat' split) <;> simp
@[simp] theorem State.resume_detectors (b : BayId) : (s.resume b).detectors = s.detectors := by
  unfold State.resume; try dsimp only
  (repeat' split) <;> simp
@[simp] theorem State.resume_sensors (b : BayId) : (s.resume b).sensors = s.sensors := by
  unfold State.resume; try dsimp only
  (repeat' split) <;> simp
@[simp] theorem State.resume_settings (b : BayId) : (s.resume b).settings = s.settings := by
  unfold State.resume; try dsimp only
  (repeat' split) <;> simp
@[simp] theorem State.resume_freeCount (b : BayId) : (s.resume b).freeCount = s.freeCount := by
  unfold State.resume; try dsimp only
  (repeat' split) <;> simp
@[simp] theorem State.resume_pending (b : BayId) : (s.resume b).pending = s.pending := by
  unfold State.resume; try dsimp only
  (repeat' split) <;> simp
@[simp] theorem State.resume_record (b : BayId) (j : Slot) : (s.resume b).record j = s.record j := by
  unfold State.resume; try dsimp only
  (repeat' split) <;> simp
@[simp] theorem State.resume_zone (b : BayId) (z' : ZoneId) : (s.resume b).zone z' = s.zone z' := by
  unfold State.resume; try dsimp only
  (repeat' split) <;> simp
@[simp] theorem State.resume_detector (b : BayId) (d' : DetId) : (s.resume b).detector d' = s.detector d' := by
  unfold State.resume; try dsimp only
  (repeat' split) <;> simp
@[simp] theorem State.resume_running (b : BayId) : (s.resume b).running = s.running := by
  unfold State.resume; try dsimp only
  (repeat' split) <;> simp
@[simp] theorem State.resume_bayCfg (b : BayId) (b' : BayId) : (s.resume b).bayCfg b' = s.bayCfg b' := by
  unfold State.resume; try dsimp only
  (repeat' split) <;> simp
@[simp] theorem State.resume_classCfg (b : BayId) (k' : ClassId) : (s.resume b).classCfg k' = s.classCfg k' := by
  unfold State.resume; try dsimp only
  (repeat' split) <;> simp
@[simp] theorem State.resume_zoneCfg (b : BayId) (z' : ZoneId) : (s.resume b).zoneCfg z' = s.zoneCfg z' := by
  unfold State.resume; try dsimp only
  (repeat' split) <;> simp

/-! ### addHold -/

@[simp] theorem State.addHold_phase (b : BayId) (c : HoldCause) : (s.addHold b c).phase = s.phase := by
  unfold State.addHold; try dsimp only
  (repeat' split) <;> simp
@[simp] theorem State.addHold_retention (b : BayId) (c : HoldCause) : (s.addHold b c).retention = s.retention := by
  unfold State.addHold; try dsimp only
  (repeat' split) <;> simp
@[simp] theorem State.addHold_lastStart (b : BayId) (c : HoldCause) : (s.addHold b c).lastStart = s.lastStart := by
  unfold State.addHold; try dsimp only
  (repeat' split) <;> simp
@[simp] theorem State.addHold_lines (b : BayId) (c : HoldCause) : (s.addHold b c).lines = s.lines := by
  unfold State.addHold; try dsimp only
  (repeat' split) <;> simp
@[simp] theorem State.addHold_slots (b : BayId) (c : HoldCause) : (s.addHold b c).slots = s.slots := by
  unfold State.addHold; try dsimp only
  (repeat' split) <;> simp
@[simp] theorem State.addHold_tallies (b : BayId) (c : HoldCause) : (s.addHold b c).tallies = s.tallies := by
  unfold State.addHold; try dsimp only
  (repeat' split) <;> simp
@[simp] theorem State.addHold_access (b : BayId) (c : HoldCause) : (s.addHold b c).access = s.access := by
  unfold State.addHold; try dsimp only
  (repeat' split) <;> simp
@[simp] theorem State.addHold_arb (b : BayId) (c : HoldCause) : (s.addHold b c).arb = s.arb := by
  unfold State.addHold; try dsimp only
  (repeat' split) <;> simp
@[simp] theorem State.addHold_chamber (b : BayId) (c : HoldCause) : (s.addHold b c).chamber = s.chamber := by
  unfold State.addHold; try dsimp only
  (repeat' split) <;> simp
@[simp] theorem State.addHold_feed (b : BayId) (c : HoldCause) : (s.addHold b c).feed = s.feed := by
  unfold State.addHold; try dsimp only
  (repeat' split) <;> simp
@[simp] theorem State.addHold_zones (b : BayId) (c : HoldCause) : (s.addHold b c).zones = s.zones := by
  unfold State.addHold; try dsimp only
  (repeat' split) <;> simp
@[simp] theorem State.addHold_detectors (b : BayId) (c : HoldCause) : (s.addHold b c).detectors = s.detectors := by
  unfold State.addHold; try dsimp only
  (repeat' split) <;> simp
@[simp] theorem State.addHold_sensors (b : BayId) (c : HoldCause) : (s.addHold b c).sensors = s.sensors := by
  unfold State.addHold; try dsimp only
  (repeat' split) <;> simp
@[simp] theorem State.addHold_settings (b : BayId) (c : HoldCause) : (s.addHold b c).settings = s.settings := by
  unfold State.addHold; try dsimp only
  (repeat' split) <;> simp
@[simp] theorem State.addHold_freeCount (b : BayId) (c : HoldCause) : (s.addHold b c).freeCount = s.freeCount := by
  unfold State.addHold; try dsimp only
  (repeat' split) <;> simp
@[simp] theorem State.addHold_pending (b : BayId) (c : HoldCause) : (s.addHold b c).pending = s.pending := by
  unfold State.addHold; try dsimp only
  (repeat' split) <;> simp
@[simp] theorem State.addHold_record (b : BayId) (c : HoldCause) (j : Slot) : (s.addHold b c).record j = s.record j := by
  unfold State.addHold; try dsimp only
  (repeat' split) <;> simp
@[simp] theorem State.addHold_zone (b : BayId) (c : HoldCause) (z' : ZoneId) : (s.addHold b c).zone z' = s.zone z' := by
  unfold State.addHold; try dsimp only
  (repeat' split) <;> simp
@[simp] theorem State.addHold_detector (b : BayId) (c : HoldCause) (d' : DetId) : (s.addHold b c).detector d' = s.detector d' := by
  unfold State.addHold; try dsimp only
  (repeat' split) <;> simp
@[simp] theorem State.addHold_running (b : BayId) (c : HoldCause) : (s.addHold b c).running = s.running := by
  unfold State.addHold; try dsimp only
  (repeat' split) <;> simp
@[simp] theorem State.addHold_bayCfg (b : BayId) (c : HoldCause) (b' : BayId) : (s.addHold b c).bayCfg b' = s.bayCfg b' := by
  unfold State.addHold; try dsimp only
  (repeat' split) <;> simp
@[simp] theorem State.addHold_classCfg (b : BayId) (c : HoldCause) (k' : ClassId) : (s.addHold b c).classCfg k' = s.classCfg k' := by
  unfold State.addHold; try dsimp only
  (repeat' split) <;> simp
@[simp] theorem State.addHold_zoneCfg (b : BayId) (c : HoldCause) (z' : ZoneId) : (s.addHold b c).zoneCfg z' = s.zoneCfg z' := by
  unfold State.addHold; try dsimp only
  (repeat' split) <;> simp

/-! ### dropHold -/

@[simp] theorem State.dropHold_phase (b : BayId) (c : HoldCause) : (s.dropHold b c).phase = s.phase := by
  unfold State.dropHold; try dsimp only
  (repeat' split) <;> simp
@[simp] theorem State.dropHold_retention (b : BayId) (c : HoldCause) : (s.dropHold b c).retention = s.retention := by
  unfold State.dropHold; try dsimp only
  (repeat' split) <;> simp
@[simp] theorem State.dropHold_lastStart (b : BayId) (c : HoldCause) : (s.dropHold b c).lastStart = s.lastStart := by
  unfold State.dropHold; try dsimp only
  (repeat' split) <;> simp
@[simp] theorem State.dropHold_lines (b : BayId) (c : HoldCause) : (s.dropHold b c).lines = s.lines := by
  unfold State.dropHold; try dsimp only
  (repeat' split) <;> simp
@[simp] theorem State.dropHold_slots (b : BayId) (c : HoldCause) : (s.dropHold b c).slots = s.slots := by
  unfold State.dropHold; try dsimp only
  (repeat' split) <;> simp
@[simp] theorem State.dropHold_tallies (b : BayId) (c : HoldCause) : (s.dropHold b c).tallies = s.tallies := by
  unfold State.dropHold; try dsimp only
  (repeat' split) <;> simp
@[simp] theorem State.dropHold_access (b : BayId) (c : HoldCause) : (s.dropHold b c).access = s.access := by
  unfold State.dropHold; try dsimp only
  (repeat' split) <;> simp
@[simp] theorem State.dropHold_chamber (b : BayId) (c : HoldCause) : (s.dropHold b c).chamber = s.chamber := by
  unfold State.dropHold; try dsimp only
  (repeat' split) <;> simp
@[simp] theorem State.dropHold_feed (b : BayId) (c : HoldCause) : (s.dropHold b c).feed = s.feed := by
  unfold State.dropHold; try dsimp only
  (repeat' split) <;> simp
@[simp] theorem State.dropHold_zones (b : BayId) (c : HoldCause) : (s.dropHold b c).zones = s.zones := by
  unfold State.dropHold; try dsimp only
  (repeat' split) <;> simp
@[simp] theorem State.dropHold_detectors (b : BayId) (c : HoldCause) : (s.dropHold b c).detectors = s.detectors := by
  unfold State.dropHold; try dsimp only
  (repeat' split) <;> simp
@[simp] theorem State.dropHold_sensors (b : BayId) (c : HoldCause) : (s.dropHold b c).sensors = s.sensors := by
  unfold State.dropHold; try dsimp only
  (repeat' split) <;> simp
@[simp] theorem State.dropHold_settings (b : BayId) (c : HoldCause) : (s.dropHold b c).settings = s.settings := by
  unfold State.dropHold; try dsimp only
  (repeat' split) <;> simp
@[simp] theorem State.dropHold_freeCount (b : BayId) (c : HoldCause) : (s.dropHold b c).freeCount = s.freeCount := by
  unfold State.dropHold; try dsimp only
  (repeat' split) <;> simp
@[simp] theorem State.dropHold_pending (b : BayId) (c : HoldCause) : (s.dropHold b c).pending = s.pending := by
  unfold State.dropHold; try dsimp only
  (repeat' split) <;> simp
@[simp] theorem State.dropHold_record (b : BayId) (c : HoldCause) (j : Slot) : (s.dropHold b c).record j = s.record j := by
  unfold State.dropHold; try dsimp only
  (repeat' split) <;> simp
@[simp] theorem State.dropHold_zone (b : BayId) (c : HoldCause) (z' : ZoneId) : (s.dropHold b c).zone z' = s.zone z' := by
  unfold State.dropHold; try dsimp only
  (repeat' split) <;> simp
@[simp] theorem State.dropHold_detector (b : BayId) (c : HoldCause) (d' : DetId) : (s.dropHold b c).detector d' = s.detector d' := by
  unfold State.dropHold; try dsimp only
  (repeat' split) <;> simp
@[simp] theorem State.dropHold_running (b : BayId) (c : HoldCause) : (s.dropHold b c).running = s.running := by
  unfold State.dropHold; try dsimp only
  (repeat' split) <;> simp
@[simp] theorem State.dropHold_bayCfg (b : BayId) (c : HoldCause) (b' : BayId) : (s.dropHold b c).bayCfg b' = s.bayCfg b' := by
  unfold State.dropHold; try dsimp only
  (repeat' split) <;> simp
@[simp] theorem State.dropHold_classCfg (b : BayId) (c : HoldCause) (k' : ClassId) : (s.dropHold b c).classCfg k' = s.classCfg k' := by
  unfold State.dropHold; try dsimp only
  (repeat' split) <;> simp
@[simp] theorem State.dropHold_zoneCfg (b : BayId) (c : HoldCause) (z' : ZoneId) : (s.dropHold b c).zoneCfg z' = s.zoneCfg z' := by
  unfold State.dropHold; try dsimp only
  (repeat' split) <;> simp

/-! ### stopChanged -/

@[simp] theorem State.stopChanged_phase (b : BayId) (w : Bool) : (s.stopChanged b w).phase = s.phase := by
  unfold State.stopChanged; try dsimp only
  (repeat' split) <;> simp
@[simp] theorem State.stopChanged_retention (b : BayId) (w : Bool) : (s.stopChanged b w).retention = s.retention := by
  unfold State.stopChanged; try dsimp only
  (repeat' split) <;> simp
@[simp] theorem State.stopChanged_lastStart (b : BayId) (w : Bool) : (s.stopChanged b w).lastStart = s.lastStart := by
  unfold State.stopChanged; try dsimp only
  (repeat' split) <;> simp
@[simp] theorem State.stopChanged_lines (b : BayId) (w : Bool) : (s.stopChanged b w).lines = s.lines := by
  unfold State.stopChanged; try dsimp only
  (repeat' split) <;> simp
@[simp] theorem State.stopChanged_slots (b : BayId) (w : Bool) : (s.stopChanged b w).slots = s.slots := by
  unfold State.stopChanged; try dsimp only
  (repeat' split) <;> simp
@[simp] theorem State.stopChanged_tallies (b : BayId) (w : Bool) : (s.stopChanged b w).tallies = s.tallies := by
  unfold State.stopChanged; try dsimp only
  (repeat' split) <;> simp
@[simp] theorem State.stopChanged_access (b : BayId) (w : Bool) : (s.stopChanged b w).access = s.access := by
  unfold State.stopChanged; try dsimp only
  (repeat' split) <;> simp
@[simp] theorem State.stopChanged_chamber (b : BayId) (w : Bool) : (s.stopChanged b w).chamber = s.chamber := by
  unfold State.stopChanged; try dsimp only
  (repeat' split) <;> simp
@[simp] theorem State.stopChanged_feed (b : BayId) (w : Bool) : (s.stopChanged b w).feed = s.feed := by
  unfold State.stopChanged; try dsimp only
  (repeat' split) <;> simp
@[simp] theorem State.stopChanged_zones (b : BayId) (w : Bool) : (s.stopChanged b w).zones = s.zones := by
  unfold State.stopChanged; try dsimp only
  (repeat' split) <;> simp
@[simp] theorem State.stopChanged_detectors (b : BayId) (w : Bool) : (s.stopChanged b w).detectors = s.detectors := by
  unfold State.stopChanged; try dsimp only
  (repeat' split) <;> simp
@[simp] theorem State.stopChanged_sensors (b : BayId) (w : Bool) : (s.stopChanged b w).sensors = s.sensors := by
  unfold State.stopChanged; try dsimp only
  (repeat' split) <;> simp
@[simp] theorem State.stopChanged_settings (b : BayId) (w : Bool) : (s.stopChanged b w).settings = s.settings := by
  unfold State.stopChanged; try dsimp only
  (repeat' split) <;> simp
@[simp] theorem State.stopChanged_freeCount (b : BayId) (w : Bool) : (s.stopChanged b w).freeCount = s.freeCount := by
  unfold State.stopChanged; try dsimp only
  (repeat' split) <;> simp
@[simp] theorem State.stopChanged_pending (b : BayId) (w : Bool) : (s.stopChanged b w).pending = s.pending := by
  unfold State.stopChanged; try dsimp only
  (repeat' split) <;> simp
@[simp] theorem State.stopChanged_record (b : BayId) (w : Bool) (j : Slot) : (s.stopChanged b w).record j = s.record j := by
  unfold State.stopChanged; try dsimp only
  (repeat' split) <;> simp
@[simp] theorem State.stopChanged_zone (b : BayId) (w : Bool) (z' : ZoneId) : (s.stopChanged b w).zone z' = s.zone z' := by
  unfold State.stopChanged; try dsimp only
  (repeat' split) <;> simp
@[simp] theorem State.stopChanged_detector (b : BayId) (w : Bool) (d' : DetId) : (s.stopChanged b w).detector d' = s.detector d' := by
  unfold State.stopChanged; try dsimp only
  (repeat' split) <;> simp
@[simp] theorem State.stopChanged_running (b : BayId) (w : Bool) : (s.stopChanged b w).running = s.running := by
  unfold State.stopChanged; try dsimp only
  (repeat' split) <;> simp
@[simp] theorem State.stopChanged_bayCfg (b : BayId) (w : Bool) (b' : BayId) : (s.stopChanged b w).bayCfg b' = s.bayCfg b' := by
  unfold State.stopChanged; try dsimp only
  (repeat' split) <;> simp
@[simp] theorem State.stopChanged_classCfg (b : BayId) (w : Bool) (k' : ClassId) : (s.stopChanged b w).classCfg k' = s.classCfg k' := by
  unfold State.stopChanged; try dsimp only
  (repeat' split) <;> simp
@[simp] theorem State.stopChanged_zoneCfg (b : BayId) (w : Bool) (z' : ZoneId) : (s.stopChanged b w).zoneCfg z' = s.zoneCfg z' := by
  unfold State.stopChanged; try dsimp only
  (repeat' split) <;> simp

/-! ### raiseFault -/

@[simp] theorem State.raiseFault_phase (b : BayId) (c : FaultCause) : (s.raiseFault b c).phase = s.phase := by
  unfold State.raiseFault; try dsimp only
  (repeat' split) <;> simp
@[simp] theorem State.raiseFault_retention (b : BayId) (c : FaultCause) : (s.raiseFault b c).retention = s.retention := by
  unfold State.raiseFault; try dsimp only
  (repeat' split) <;> simp
@[simp] theorem State.raiseFault_lastStart (b : BayId) (c : FaultCause) : (s.raiseFault b c).lastStart = s.lastStart := by
  unfold State.raiseFault; try dsimp only
  (repeat' split) <;> simp
@[simp] theorem State.raiseFault_lines (b : BayId) (c : FaultCause) : (s.raiseFault b c).lines = s.lines := by
  unfold State.raiseFault; try dsimp only
  (repeat' split) <;> simp
@[simp] theorem State.raiseFault_slots (b : BayId) (c : FaultCause) : (s.raiseFault b c).slots = s.slots := by
  unfold State.raiseFault; try dsimp only
  (repeat' split) <;> simp
@[simp] theorem State.raiseFault_tallies (b : BayId) (c : FaultCause) : (s.raiseFault b c).tallies = s.tallies := by
  unfold State.raiseFault; try dsimp only
  (repeat' split) <;> simp
@[simp] theorem State.raiseFault_access (b : BayId) (c : FaultCause) : (s.raiseFault b c).access = s.access := by
  unfold State.raiseFault; try dsimp only
  (repeat' split) <;> simp
@[simp] theorem State.raiseFault_arb (b : BayId) (c : FaultCause) : (s.raiseFault b c).arb = s.arb := by
  unfold State.raiseFault; try dsimp only
  (repeat' split) <;> simp
@[simp] theorem State.raiseFault_bays (b : BayId) (c : FaultCause) : (s.raiseFault b c).bays = s.bays := by
  unfold State.raiseFault; try dsimp only
  (repeat' split) <;> simp
@[simp] theorem State.raiseFault_chamber (b : BayId) (c : FaultCause) : (s.raiseFault b c).chamber = s.chamber := by
  unfold State.raiseFault; try dsimp only
  (repeat' split) <;> simp
@[simp] theorem State.raiseFault_feed (b : BayId) (c : FaultCause) : (s.raiseFault b c).feed = s.feed := by
  unfold State.raiseFault; try dsimp only
  (repeat' split) <;> simp
@[simp] theorem State.raiseFault_zones (b : BayId) (c : FaultCause) : (s.raiseFault b c).zones = s.zones := by
  unfold State.raiseFault; try dsimp only
  (repeat' split) <;> simp
@[simp] theorem State.raiseFault_detectors (b : BayId) (c : FaultCause) : (s.raiseFault b c).detectors = s.detectors := by
  unfold State.raiseFault; try dsimp only
  (repeat' split) <;> simp
@[simp] theorem State.raiseFault_sensors (b : BayId) (c : FaultCause) : (s.raiseFault b c).sensors = s.sensors := by
  unfold State.raiseFault; try dsimp only
  (repeat' split) <;> simp
@[simp] theorem State.raiseFault_settings (b : BayId) (c : FaultCause) : (s.raiseFault b c).settings = s.settings := by
  unfold State.raiseFault; try dsimp only
  (repeat' split) <;> simp
@[simp] theorem State.raiseFault_freeCount (b : BayId) (c : FaultCause) : (s.raiseFault b c).freeCount = s.freeCount := by
  unfold State.raiseFault; try dsimp only
  (repeat' split) <;> simp
@[simp] theorem State.raiseFault_pending (b : BayId) (c : FaultCause) : (s.raiseFault b c).pending = s.pending := by
  unfold State.raiseFault; try dsimp only
  (repeat' split) <;> simp
@[simp] theorem State.raiseFault_bay (b : BayId) (c : FaultCause) (b' : BayId) : (s.raiseFault b c).bay b' = s.bay b' := by
  unfold State.raiseFault; try dsimp only
  (repeat' split) <;> simp
@[simp] theorem State.raiseFault_record (b : BayId) (c : FaultCause) (j : Slot) : (s.raiseFault b c).record j = s.record j := by
  unfold State.raiseFault; try dsimp only
  (repeat' split) <;> simp
@[simp] theorem State.raiseFault_zone (b : BayId) (c : FaultCause) (z' : ZoneId) : (s.raiseFault b c).zone z' = s.zone z' := by
  unfold State.raiseFault; try dsimp only
  (repeat' split) <;> simp
@[simp] theorem State.raiseFault_detector (b : BayId) (c : FaultCause) (d' : DetId) : (s.raiseFault b c).detector d' = s.detector d' := by
  unfold State.raiseFault; try dsimp only
  (repeat' split) <;> simp
@[simp] theorem State.raiseFault_running (b : BayId) (c : FaultCause) : (s.raiseFault b c).running = s.running := by
  unfold State.raiseFault; try dsimp only
  (repeat' split) <;> simp
@[simp] theorem State.raiseFault_bayCfg (b : BayId) (c : FaultCause) (b' : BayId) : (s.raiseFault b c).bayCfg b' = s.bayCfg b' := by
  unfold State.raiseFault; try dsimp only
  (repeat' split) <;> simp
@[simp] theorem State.raiseFault_classCfg (b : BayId) (c : FaultCause) (k' : ClassId) : (s.raiseFault b c).classCfg k' = s.classCfg k' := by
  unfold State.raiseFault; try dsimp only
  (repeat' split) <;> simp
@[simp] theorem State.raiseFault_zoneCfg (b : BayId) (c : FaultCause) (z' : ZoneId) : (s.raiseFault b c).zoneCfg z' = s.zoneCfg z' := by
  unfold State.raiseFault; try dsimp only
  (repeat' split) <;> simp

/-! ### takeFault -/

@[simp] theorem State.takeFault_phase (b : BayId) (c : FaultCause) : (s.takeFault b c).phase = s.phase := by
  unfold State.takeFault; try dsimp only
  (repeat' split) <;> simp
@[simp] theorem State.takeFault_retention (b : BayId) (c : FaultCause) : (s.takeFault b c).retention = s.retention := by
  unfold State.takeFault; try dsimp only
  (repeat' split) <;> simp
@[simp] theorem State.takeFault_lastStart (b : BayId) (c : FaultCause) : (s.takeFault b c).lastStart = s.lastStart := by
  unfold State.takeFault; try dsimp only
  (repeat' split) <;> simp
@[simp] theorem State.takeFault_lines (b : BayId) (c : FaultCause) : (s.takeFault b c).lines = s.lines := by
  unfold State.takeFault; try dsimp only
  (repeat' split) <;> simp
@[simp] theorem State.takeFault_slots (b : BayId) (c : FaultCause) : (s.takeFault b c).slots = s.slots := by
  unfold State.takeFault; try dsimp only
  (repeat' split) <;> simp
@[simp] theorem State.takeFault_tallies (b : BayId) (c : FaultCause) : (s.takeFault b c).tallies = s.tallies := by
  unfold State.takeFault; try dsimp only
  (repeat' split) <;> simp
@[simp] theorem State.takeFault_access (b : BayId) (c : FaultCause) : (s.takeFault b c).access = s.access := by
  unfold State.takeFault; try dsimp only
  (repeat' split) <;> simp
@[simp] theorem State.takeFault_chamber (b : BayId) (c : FaultCause) : (s.takeFault b c).chamber = s.chamber := by
  unfold State.takeFault; try dsimp only
  (repeat' split) <;> simp
@[simp] theorem State.takeFault_feed (b : BayId) (c : FaultCause) : (s.takeFault b c).feed = s.feed := by
  unfold State.takeFault; try dsimp only
  (repeat' split) <;> simp
@[simp] theorem State.takeFault_zones (b : BayId) (c : FaultCause) : (s.takeFault b c).zones = s.zones := by
  unfold State.takeFault; try dsimp only
  (repeat' split) <;> simp
@[simp] theorem State.takeFault_detectors (b : BayId) (c : FaultCause) : (s.takeFault b c).detectors = s.detectors := by
  unfold State.takeFault; try dsimp only
  (repeat' split) <;> simp
@[simp] theorem State.takeFault_sensors (b : BayId) (c : FaultCause) : (s.takeFault b c).sensors = s.sensors := by
  unfold State.takeFault; try dsimp only
  (repeat' split) <;> simp
@[simp] theorem State.takeFault_settings (b : BayId) (c : FaultCause) : (s.takeFault b c).settings = s.settings := by
  unfold State.takeFault; try dsimp only
  (repeat' split) <;> simp
@[simp] theorem State.takeFault_freeCount (b : BayId) (c : FaultCause) : (s.takeFault b c).freeCount = s.freeCount := by
  unfold State.takeFault; try dsimp only
  (repeat' split) <;> simp
@[simp] theorem State.takeFault_pending (b : BayId) (c : FaultCause) : (s.takeFault b c).pending = s.pending := by
  unfold State.takeFault; try dsimp only
  (repeat' split) <;> simp
@[simp] theorem State.takeFault_record (b : BayId) (c : FaultCause) (j : Slot) : (s.takeFault b c).record j = s.record j := by
  unfold State.takeFault; try dsimp only
  (repeat' split) <;> simp
@[simp] theorem State.takeFault_zone (b : BayId) (c : FaultCause) (z' : ZoneId) : (s.takeFault b c).zone z' = s.zone z' := by
  unfold State.takeFault; try dsimp only
  (repeat' split) <;> simp
@[simp] theorem State.takeFault_detector (b : BayId) (c : FaultCause) (d' : DetId) : (s.takeFault b c).detector d' = s.detector d' := by
  unfold State.takeFault; try dsimp only
  (repeat' split) <;> simp
@[simp] theorem State.takeFault_running (b : BayId) (c : FaultCause) : (s.takeFault b c).running = s.running := by
  unfold State.takeFault; try dsimp only
  (repeat' split) <;> simp
@[simp] theorem State.takeFault_bayCfg (b : BayId) (c : FaultCause) (b' : BayId) : (s.takeFault b c).bayCfg b' = s.bayCfg b' := by
  unfold State.takeFault; try dsimp only
  (repeat' split) <;> simp
@[simp] theorem State.takeFault_classCfg (b : BayId) (c : FaultCause) (k' : ClassId) : (s.takeFault b c).classCfg k' = s.classCfg k' := by
  unfold State.takeFault; try dsimp only
  (repeat' split) <;> simp
@[simp] theorem State.takeFault_zoneCfg (b : BayId) (c : FaultCause) (z' : ZoneId) : (s.takeFault b c).zoneCfg z' = s.zoneCfg z' := by
  unfold State.takeFault; try dsimp only
  (repeat' split) <;> simp

/-! ### endRetry -/

@[simp] theorem State.endRetry_phase (b : BayId) : (s.endRetry b).phase = s.phase := by
  unfold State.endRetry; try dsimp only
  (repeat' split) <;> simp
@[simp] theorem State.endRetry_retention (b : BayId) : (s.endRetry b).retention = s.retention := by
  unfold State.endRetry; try dsimp only
  (repeat' split) <;> simp
@[simp] theorem State.endRetry_lastStart (b : BayId) : (s.endRetry b).lastStart = s.lastStart := by
  unfold State.endRetry; try dsimp only
  (repeat' split) <;> simp
@[simp] theorem State.endRetry_lines (b : BayId) : (s.endRetry b).lines = s.lines := by
  unfold State.endRetry; try dsimp only
  (repeat' split) <;> simp
@[simp] theorem State.endRetry_slots (b : BayId) : (s.endRetry b).slots = s.slots := by
  unfold State.endRetry; try dsimp only
  (repeat' split) <;> simp
@[simp] theorem State.endRetry_tallies (b : BayId) : (s.endRetry b).tallies = s.tallies := by
  unfold State.endRetry; try dsimp only
  (repeat' split) <;> simp
@[simp] theorem State.endRetry_access (b : BayId) : (s.endRetry b).access = s.access := by
  unfold State.endRetry; try dsimp only
  (repeat' split) <;> simp
@[simp] theorem State.endRetry_arb (b : BayId) : (s.endRetry b).arb = s.arb := by
  unfold State.endRetry; try dsimp only
  (repeat' split) <;> simp
@[simp] theorem State.endRetry_chamber (b : BayId) : (s.endRetry b).chamber = s.chamber := by
  unfold State.endRetry; try dsimp only
  (repeat' split) <;> simp
@[simp] theorem State.endRetry_feed (b : BayId) : (s.endRetry b).feed = s.feed := by
  unfold State.endRetry; try dsimp only
  (repeat' split) <;> simp
@[simp] theorem State.endRetry_zones (b : BayId) : (s.endRetry b).zones = s.zones := by
  unfold State.endRetry; try dsimp only
  (repeat' split) <;> simp
@[simp] theorem State.endRetry_detectors (b : BayId) : (s.endRetry b).detectors = s.detectors := by
  unfold State.endRetry; try dsimp only
  (repeat' split) <;> simp
@[simp] theorem State.endRetry_sensors (b : BayId) : (s.endRetry b).sensors = s.sensors := by
  unfold State.endRetry; try dsimp only
  (repeat' split) <;> simp
@[simp] theorem State.endRetry_settings (b : BayId) : (s.endRetry b).settings = s.settings := by
  unfold State.endRetry; try dsimp only
  (repeat' split) <;> simp
@[simp] theorem State.endRetry_freeCount (b : BayId) : (s.endRetry b).freeCount = s.freeCount := by
  unfold State.endRetry; try dsimp only
  (repeat' split) <;> simp
@[simp] theorem State.endRetry_pending (b : BayId) : (s.endRetry b).pending = s.pending := by
  unfold State.endRetry; try dsimp only
  (repeat' split) <;> simp
@[simp] theorem State.endRetry_record (b : BayId) (j : Slot) : (s.endRetry b).record j = s.record j := by
  unfold State.endRetry; try dsimp only
  (repeat' split) <;> simp
@[simp] theorem State.endRetry_zone (b : BayId) (z' : ZoneId) : (s.endRetry b).zone z' = s.zone z' := by
  unfold State.endRetry; try dsimp only
  (repeat' split) <;> simp
@[simp] theorem State.endRetry_detector (b : BayId) (d' : DetId) : (s.endRetry b).detector d' = s.detector d' := by
  unfold State.endRetry; try dsimp only
  (repeat' split) <;> simp
@[simp] theorem State.endRetry_running (b : BayId) : (s.endRetry b).running = s.running := by
  unfold State.endRetry; try dsimp only
  (repeat' split) <;> simp
@[simp] theorem State.endRetry_bayCfg (b : BayId) (b' : BayId) : (s.endRetry b).bayCfg b' = s.bayCfg b' := by
  unfold State.endRetry; try dsimp only
  (repeat' split) <;> simp
@[simp] theorem State.endRetry_classCfg (b : BayId) (k' : ClassId) : (s.endRetry b).classCfg k' = s.classCfg k' := by
  unfold State.endRetry; try dsimp only
  (repeat' split) <;> simp
@[simp] theorem State.endRetry_zoneCfg (b : BayId) (z' : ZoneId) : (s.endRetry b).zoneCfg z' = s.zoneCfg z' := by
  unfold State.endRetry; try dsimp only
  (repeat' split) <;> simp

/-! ### feedZoneAlarm -/

@[simp] theorem State.feedZoneAlarm_phase (z : ZoneId) : (s.feedZoneAlarm z).phase = s.phase := by
  unfold State.feedZoneAlarm; try dsimp only
  (repeat' split) <;> simp
@[simp] theorem State.feedZoneAlarm_retention (z : ZoneId) : (s.feedZoneAlarm z).retention = s.retention := by
  unfold State.feedZoneAlarm; try dsimp only
  (repeat' split) <;> simp
@[simp] theorem State.feedZoneAlarm_lastStart (z : ZoneId) : (s.feedZoneAlarm z).lastStart = s.lastStart := by
  unfold State.feedZoneAlarm; try dsimp only
  (repeat' split) <;> simp
@[simp] theorem State.feedZoneAlarm_lines (z : ZoneId) : (s.feedZoneAlarm z).lines = s.lines := by
  unfold State.feedZoneAlarm; try dsimp only
  (repeat' split) <;> simp
@[simp] theorem State.feedZoneAlarm_slots (z : ZoneId) : (s.feedZoneAlarm z).slots = s.slots := by
  unfold State.feedZoneAlarm; try dsimp only
  (repeat' split) <;> simp
@[simp] theorem State.feedZoneAlarm_tallies (z : ZoneId) : (s.feedZoneAlarm z).tallies = s.tallies := by
  unfold State.feedZoneAlarm; try dsimp only
  (repeat' split) <;> simp
@[simp] theorem State.feedZoneAlarm_access (z : ZoneId) : (s.feedZoneAlarm z).access = s.access := by
  unfold State.feedZoneAlarm; try dsimp only
  (repeat' split) <;> simp
@[simp] theorem State.feedZoneAlarm_arb (z : ZoneId) : (s.feedZoneAlarm z).arb = s.arb := by
  unfold State.feedZoneAlarm; try dsimp only
  (repeat' split) <;> simp
@[simp] theorem State.feedZoneAlarm_bays (z : ZoneId) : (s.feedZoneAlarm z).bays = s.bays := by
  unfold State.feedZoneAlarm; try dsimp only
  (repeat' split) <;> simp
@[simp] theorem State.feedZoneAlarm_chamber (z : ZoneId) : (s.feedZoneAlarm z).chamber = s.chamber := by
  unfold State.feedZoneAlarm; try dsimp only
  (repeat' split) <;> simp
@[simp] theorem State.feedZoneAlarm_zones (z : ZoneId) : (s.feedZoneAlarm z).zones = s.zones := by
  unfold State.feedZoneAlarm; try dsimp only
  (repeat' split) <;> simp
@[simp] theorem State.feedZoneAlarm_detectors (z : ZoneId) : (s.feedZoneAlarm z).detectors = s.detectors := by
  unfold State.feedZoneAlarm; try dsimp only
  (repeat' split) <;> simp
@[simp] theorem State.feedZoneAlarm_sensors (z : ZoneId) : (s.feedZoneAlarm z).sensors = s.sensors := by
  unfold State.feedZoneAlarm; try dsimp only
  (repeat' split) <;> simp
@[simp] theorem State.feedZoneAlarm_settings (z : ZoneId) : (s.feedZoneAlarm z).settings = s.settings := by
  unfold State.feedZoneAlarm; try dsimp only
  (repeat' split) <;> simp
@[simp] theorem State.feedZoneAlarm_line (z : ZoneId) : (s.feedZoneAlarm z).line = s.line := by
  unfold State.feedZoneAlarm; try dsimp only
  (repeat' split) <;> simp
@[simp] theorem State.feedZoneAlarm_plant (z : ZoneId) : (s.feedZoneAlarm z).plant = s.plant := by
  unfold State.feedZoneAlarm; try dsimp only
  (repeat' split) <;> simp
@[simp] theorem State.feedZoneAlarm_freeCount (z : ZoneId) : (s.feedZoneAlarm z).freeCount = s.freeCount := by
  unfold State.feedZoneAlarm; try dsimp only
  (repeat' split) <;> simp
@[simp] theorem State.feedZoneAlarm_pending (z : ZoneId) : (s.feedZoneAlarm z).pending = s.pending := by
  unfold State.feedZoneAlarm; try dsimp only
  (repeat' split) <;> simp
@[simp] theorem State.feedZoneAlarm_bay (z : ZoneId) (b' : BayId) : (s.feedZoneAlarm z).bay b' = s.bay b' := by
  unfold State.feedZoneAlarm; try dsimp only
  (repeat' split) <;> simp
@[simp] theorem State.feedZoneAlarm_record (z : ZoneId) (j : Slot) : (s.feedZoneAlarm z).record j = s.record j := by
  unfold State.feedZoneAlarm; try dsimp only
  (repeat' split) <;> simp
@[simp] theorem State.feedZoneAlarm_zone (z : ZoneId) (z' : ZoneId) : (s.feedZoneAlarm z).zone z' = s.zone z' := by
  unfold State.feedZoneAlarm; try dsimp only
  (repeat' split) <;> simp
@[simp] theorem State.feedZoneAlarm_detector (z : ZoneId) (d' : DetId) : (s.feedZoneAlarm z).detector d' = s.detector d' := by
  unfold State.feedZoneAlarm; try dsimp only
  (repeat' split) <;> simp
@[simp] theorem State.feedZoneAlarm_running (z : ZoneId) : (s.feedZoneAlarm z).running = s.running := by
  unfold State.feedZoneAlarm; try dsimp only
  (repeat' split) <;> simp
@[simp] theorem State.feedZoneAlarm_bayCfg (z : ZoneId) (b' : BayId) : (s.feedZoneAlarm z).bayCfg b' = s.bayCfg b' := by
  unfold State.feedZoneAlarm; try dsimp only
  (repeat' split) <;> simp
@[simp] theorem State.feedZoneAlarm_classCfg (z : ZoneId) (k' : ClassId) : (s.feedZoneAlarm z).classCfg k' = s.classCfg k' := by
  unfold State.feedZoneAlarm; try dsimp only
  (repeat' split) <;> simp
@[simp] theorem State.feedZoneAlarm_zoneCfg (z : ZoneId) (z' : ZoneId) : (s.feedZoneAlarm z).zoneCfg z' = s.zoneCfg z' := by
  unfold State.feedZoneAlarm; try dsimp only
  (repeat' split) <;> simp
@[simp] theorem State.feedZoneAlarm_port (z : ZoneId) (q : Port) : (s.feedZoneAlarm z).port q = s.port q := by
  unfold State.feedZoneAlarm; try dsimp only
  (repeat' split) <;> simp

/-! ### feedZoneClear -/

@[simp] theorem State.feedZoneClear_phase (z : ZoneId) : (s.feedZoneClear z).phase = s.phase := by
  unfold State.feedZoneClear; try dsimp only
  (repeat' split) <;> simp
@[simp] theorem State.feedZoneClear_retention (z : ZoneId) : (s.feedZoneClear z).retention = s.retention := by
  unfold State.feedZoneClear; try dsimp only
  (repeat' split) <;> simp
@[simp] theorem State.feedZoneClear_lastStart (z : ZoneId) : (s.feedZoneClear z).lastStart = s.lastStart := by
  unfold State.feedZoneClear; try dsimp only
  (repeat' split) <;> simp
@[simp] theorem State.feedZoneClear_lines (z : ZoneId) : (s.feedZoneClear z).lines = s.lines := by
  unfold State.feedZoneClear; try dsimp only
  (repeat' split) <;> simp
@[simp] theorem State.feedZoneClear_slots (z : ZoneId) : (s.feedZoneClear z).slots = s.slots := by
  unfold State.feedZoneClear; try dsimp only
  (repeat' split) <;> simp
@[simp] theorem State.feedZoneClear_tallies (z : ZoneId) : (s.feedZoneClear z).tallies = s.tallies := by
  unfold State.feedZoneClear; try dsimp only
  (repeat' split) <;> simp
@[simp] theorem State.feedZoneClear_access (z : ZoneId) : (s.feedZoneClear z).access = s.access := by
  unfold State.feedZoneClear; try dsimp only
  (repeat' split) <;> simp
@[simp] theorem State.feedZoneClear_bays (z : ZoneId) : (s.feedZoneClear z).bays = s.bays := by
  unfold State.feedZoneClear; try dsimp only
  (repeat' split) <;> simp
@[simp] theorem State.feedZoneClear_chamber (z : ZoneId) : (s.feedZoneClear z).chamber = s.chamber := by
  unfold State.feedZoneClear; try dsimp only
  (repeat' split) <;> simp
@[simp] theorem State.feedZoneClear_zones (z : ZoneId) : (s.feedZoneClear z).zones = s.zones := by
  unfold State.feedZoneClear; try dsimp only
  (repeat' split) <;> simp
@[simp] theorem State.feedZoneClear_detectors (z : ZoneId) : (s.feedZoneClear z).detectors = s.detectors := by
  unfold State.feedZoneClear; try dsimp only
  (repeat' split) <;> simp
@[simp] theorem State.feedZoneClear_sensors (z : ZoneId) : (s.feedZoneClear z).sensors = s.sensors := by
  unfold State.feedZoneClear; try dsimp only
  (repeat' split) <;> simp
@[simp] theorem State.feedZoneClear_settings (z : ZoneId) : (s.feedZoneClear z).settings = s.settings := by
  unfold State.feedZoneClear; try dsimp only
  (repeat' split) <;> simp
@[simp] theorem State.feedZoneClear_line (z : ZoneId) : (s.feedZoneClear z).line = s.line := by
  unfold State.feedZoneClear; try dsimp only
  (repeat' split) <;> simp
@[simp] theorem State.feedZoneClear_plant (z : ZoneId) : (s.feedZoneClear z).plant = s.plant := by
  unfold State.feedZoneClear; try dsimp only
  (repeat' split) <;> simp
@[simp] theorem State.feedZoneClear_freeCount (z : ZoneId) : (s.feedZoneClear z).freeCount = s.freeCount := by
  unfold State.feedZoneClear; try dsimp only
  (repeat' split) <;> simp
@[simp] theorem State.feedZoneClear_pending (z : ZoneId) : (s.feedZoneClear z).pending = s.pending := by
  unfold State.feedZoneClear; try dsimp only
  (repeat' split) <;> simp
@[simp] theorem State.feedZoneClear_bay (z : ZoneId) (b' : BayId) : (s.feedZoneClear z).bay b' = s.bay b' := by
  unfold State.feedZoneClear; try dsimp only
  (repeat' split) <;> simp
@[simp] theorem State.feedZoneClear_record (z : ZoneId) (j : Slot) : (s.feedZoneClear z).record j = s.record j := by
  unfold State.feedZoneClear; try dsimp only
  (repeat' split) <;> simp
@[simp] theorem State.feedZoneClear_zone (z : ZoneId) (z' : ZoneId) : (s.feedZoneClear z).zone z' = s.zone z' := by
  unfold State.feedZoneClear; try dsimp only
  (repeat' split) <;> simp
@[simp] theorem State.feedZoneClear_detector (z : ZoneId) (d' : DetId) : (s.feedZoneClear z).detector d' = s.detector d' := by
  unfold State.feedZoneClear; try dsimp only
  (repeat' split) <;> simp
@[simp] theorem State.feedZoneClear_running (z : ZoneId) : (s.feedZoneClear z).running = s.running := by
  unfold State.feedZoneClear; try dsimp only
  (repeat' split) <;> simp
@[simp] theorem State.feedZoneClear_bayCfg (z : ZoneId) (b' : BayId) : (s.feedZoneClear z).bayCfg b' = s.bayCfg b' := by
  unfold State.feedZoneClear; try dsimp only
  (repeat' split) <;> simp
@[simp] theorem State.feedZoneClear_classCfg (z : ZoneId) (k' : ClassId) : (s.feedZoneClear z).classCfg k' = s.classCfg k' := by
  unfold State.feedZoneClear; try dsimp only
  (repeat' split) <;> simp
@[simp] theorem State.feedZoneClear_zoneCfg (z : ZoneId) (z' : ZoneId) : (s.feedZoneClear z).zoneCfg z' = s.zoneCfg z' := by
  unfold State.feedZoneClear; try dsimp only
  (repeat' split) <;> simp
@[simp] theorem State.feedZoneClear_port (z : ZoneId) (q : Port) : (s.feedZoneClear z).port q = s.port q := by
  unfold State.feedZoneClear; try dsimp only
  (repeat' split) <;> simp

/-! ### enterAlarm -/

@[simp] theorem State.enterAlarm_phase (z : ZoneId) : (s.enterAlarm z).phase = s.phase := by
  have hf := foldl_frame (fun t => t.phase) (fun t b => t.addHold b .zoneAlarm) (fun t b => by simp) (zoneBays z)
  unfold State.enterAlarm; dsimp only; repeat' split
  all_goals simp [hf]
@[simp] theorem State.enterAlarm_retention (z : ZoneId) : (s.enterAlarm z).retention = s.retention := by
  have hf := foldl_frame (fun t => t.retention) (fun t b => t.addHold b .zoneAlarm) (fun t b => by simp) (zoneBays z)
  unfold State.enterAlarm; dsimp only; repeat' split
  all_goals simp [hf]
@[simp] theorem State.enterAlarm_lastStart (z : ZoneId) : (s.enterAlarm z).lastStart = s.lastStart := by
  have hf := foldl_frame (fun t => t.lastStart) (fun t b => t.addHold b .zoneAlarm) (fun t b => by simp) (zoneBays z)
  unfold State.enterAlarm; dsimp only; repeat' split
  all_goals simp [hf]
@[simp] theorem State.enterAlarm_lines (z : ZoneId) : (s.enterAlarm z).lines = s.lines := by
  have hf := foldl_frame (fun t => t.lines) (fun t b => t.addHold b .zoneAlarm) (fun t b => by simp) (zoneBays z)
  unfold State.enterAlarm; dsimp only; repeat' split
  all_goals simp [hf]
@[simp] theorem State.enterAlarm_slots (z : ZoneId) : (s.enterAlarm z).slots = s.slots := by
  have hf := foldl_frame (fun t => t.slots) (fun t b => t.addHold b .zoneAlarm) (fun t b => by simp) (zoneBays z)
  unfold State.enterAlarm; dsimp only; repeat' split
  all_goals simp [hf]
@[simp] theorem State.enterAlarm_tallies (z : ZoneId) : (s.enterAlarm z).tallies = s.tallies := by
  have hf := foldl_frame (fun t => t.tallies) (fun t b => t.addHold b .zoneAlarm) (fun t b => by simp) (zoneBays z)
  unfold State.enterAlarm; dsimp only; repeat' split
  all_goals simp [hf]
@[simp] theorem State.enterAlarm_access (z : ZoneId) : (s.enterAlarm z).access = s.access := by
  have hf := foldl_frame (fun t => t.access) (fun t b => t.addHold b .zoneAlarm) (fun t b => by simp) (zoneBays z)
  unfold State.enterAlarm; dsimp only; repeat' split
  all_goals simp [hf]
@[simp] theorem State.enterAlarm_detectors (z : ZoneId) : (s.enterAlarm z).detectors = s.detectors := by
  have hf := foldl_frame (fun t => t.detectors) (fun t b => t.addHold b .zoneAlarm) (fun t b => by simp) (zoneBays z)
  unfold State.enterAlarm; dsimp only; repeat' split
  all_goals simp [hf]
@[simp] theorem State.enterAlarm_sensors (z : ZoneId) : (s.enterAlarm z).sensors = s.sensors := by
  have hf := foldl_frame (fun t => t.sensors) (fun t b => t.addHold b .zoneAlarm) (fun t b => by simp) (zoneBays z)
  unfold State.enterAlarm; dsimp only; repeat' split
  all_goals simp [hf]
@[simp] theorem State.enterAlarm_settings (z : ZoneId) : (s.enterAlarm z).settings = s.settings := by
  have hf := foldl_frame (fun t => t.settings) (fun t b => t.addHold b .zoneAlarm) (fun t b => by simp) (zoneBays z)
  unfold State.enterAlarm; dsimp only; repeat' split
  all_goals simp [hf]
@[simp] theorem State.enterAlarm_freeCount (z : ZoneId) : (s.enterAlarm z).freeCount = s.freeCount := by
  have hf := foldl_frame (fun t => t.freeCount) (fun t b => t.addHold b .zoneAlarm) (fun t b => by simp) (zoneBays z)
  unfold State.enterAlarm; dsimp only; repeat' split
  all_goals simp [hf]
@[simp] theorem State.enterAlarm_pending (z : ZoneId) : (s.enterAlarm z).pending = s.pending := by
  have hf := foldl_frame (fun t => t.pending) (fun t b => t.addHold b .zoneAlarm) (fun t b => by simp) (zoneBays z)
  unfold State.enterAlarm; dsimp only; repeat' split
  all_goals simp [hf]
@[simp] theorem State.enterAlarm_record (z : ZoneId) (j : Slot) : (s.enterAlarm z).record j = s.record j := by
  have hf := foldl_frame (fun t => t.record j) (fun t b => t.addHold b .zoneAlarm) (fun t b => by simp) (zoneBays z)
  unfold State.enterAlarm; dsimp only; repeat' split
  all_goals simp [hf]
@[simp] theorem State.enterAlarm_detector (z : ZoneId) (d' : DetId) : (s.enterAlarm z).detector d' = s.detector d' := by
  have hf := foldl_frame (fun t => t.detector d') (fun t b => t.addHold b .zoneAlarm) (fun t b => by simp) (zoneBays z)
  unfold State.enterAlarm; dsimp only; repeat' split
  all_goals simp [hf]
@[simp] theorem State.enterAlarm_running (z : ZoneId) : (s.enterAlarm z).running = s.running := by
  have hf := foldl_frame (fun t => t.running) (fun t b => t.addHold b .zoneAlarm) (fun t b => by simp) (zoneBays z)
  unfold State.enterAlarm; dsimp only; repeat' split
  all_goals simp [hf]
@[simp] theorem State.enterAlarm_bayCfg (z : ZoneId) (b' : BayId) : (s.enterAlarm z).bayCfg b' = s.bayCfg b' := by
  have hf := foldl_frame (fun t => t.bayCfg b') (fun t b => t.addHold b .zoneAlarm) (fun t b => by simp) (zoneBays z)
  unfold State.enterAlarm; dsimp only; repeat' split
  all_goals simp [hf]
@[simp] theorem State.enterAlarm_classCfg (z : ZoneId) (k' : ClassId) : (s.enterAlarm z).classCfg k' = s.classCfg k' := by
  have hf := foldl_frame (fun t => t.classCfg k') (fun t b => t.addHold b .zoneAlarm) (fun t b => by simp) (zoneBays z)
  unfold State.enterAlarm; dsimp only; repeat' split
  all_goals simp [hf]
@[simp] theorem State.enterAlarm_zoneCfg (z : ZoneId) (z' : ZoneId) : (s.enterAlarm z).zoneCfg z' = s.zoneCfg z' := by
  have hf := foldl_frame (fun t => t.zoneCfg z') (fun t b => t.addHold b .zoneAlarm) (fun t b => by simp) (zoneBays z)
  unfold State.enterAlarm; dsimp only; repeat' split
  all_goals simp [hf]

/-! ### vote -/

@[simp] theorem State.vote_phase (z : ZoneId) : (s.vote z).phase = s.phase := by
  unfold State.vote; try dsimp only
  (repeat' split) <;> simp
@[simp] theorem State.vote_retention (z : ZoneId) : (s.vote z).retention = s.retention := by
  unfold State.vote; try dsimp only
  (repeat' split) <;> simp
@[simp] theorem State.vote_lastStart (z : ZoneId) : (s.vote z).lastStart = s.lastStart := by
  unfold State.vote; try dsimp only
  (repeat' split) <;> simp
@[simp] theorem State.vote_lines (z : ZoneId) : (s.vote z).lines = s.lines := by
  unfold State.vote; try dsimp only
  (repeat' split) <;> simp
@[simp] theorem State.vote_slots (z : ZoneId) : (s.vote z).slots = s.slots := by
  unfold State.vote; try dsimp only
  (repeat' split) <;> simp
@[simp] theorem State.vote_tallies (z : ZoneId) : (s.vote z).tallies = s.tallies := by
  unfold State.vote; try dsimp only
  (repeat' split) <;> simp
@[simp] theorem State.vote_access (z : ZoneId) : (s.vote z).access = s.access := by
  unfold State.vote; try dsimp only
  (repeat' split) <;> simp
@[simp] theorem State.vote_detectors (z : ZoneId) : (s.vote z).detectors = s.detectors := by
  unfold State.vote; try dsimp only
  (repeat' split) <;> simp
@[simp] theorem State.vote_sensors (z : ZoneId) : (s.vote z).sensors = s.sensors := by
  unfold State.vote; try dsimp only
  (repeat' split) <;> simp
@[simp] theorem State.vote_settings (z : ZoneId) : (s.vote z).settings = s.settings := by
  unfold State.vote; try dsimp only
  (repeat' split) <;> simp
@[simp] theorem State.vote_freeCount (z : ZoneId) : (s.vote z).freeCount = s.freeCount := by
  unfold State.vote; try dsimp only
  (repeat' split) <;> simp
@[simp] theorem State.vote_pending (z : ZoneId) : (s.vote z).pending = s.pending := by
  unfold State.vote; try dsimp only
  (repeat' split) <;> simp
@[simp] theorem State.vote_record (z : ZoneId) (j : Slot) : (s.vote z).record j = s.record j := by
  unfold State.vote; try dsimp only
  (repeat' split) <;> simp
@[simp] theorem State.vote_detector (z : ZoneId) (d' : DetId) : (s.vote z).detector d' = s.detector d' := by
  unfold State.vote; try dsimp only
  (repeat' split) <;> simp
@[simp] theorem State.vote_running (z : ZoneId) : (s.vote z).running = s.running := by
  unfold State.vote; try dsimp only
  (repeat' split) <;> simp
@[simp] theorem State.vote_bayCfg (z : ZoneId) (b' : BayId) : (s.vote z).bayCfg b' = s.bayCfg b' := by
  unfold State.vote; try dsimp only
  (repeat' split) <;> simp
@[simp] theorem State.vote_classCfg (z : ZoneId) (k' : ClassId) : (s.vote z).classCfg k' = s.classCfg k' := by
  unfold State.vote; try dsimp only
  (repeat' split) <;> simp
@[simp] theorem State.vote_zoneCfg (z : ZoneId) (z' : ZoneId) : (s.vote z).zoneCfg z' = s.zoneCfg z' := by
  unfold State.vote; try dsimp only
  (repeat' split) <;> simp

/-! ### channelMoved -/

@[simp] theorem State.channelMoved_phase (z : ZoneId) (m : BitVec 32) (x y : ChanState) : (s.channelMoved z m x y).phase = s.phase := by
  unfold State.channelMoved; try dsimp only
  (repeat' split) <;> simp
@[simp] theorem State.channelMoved_retention (z : ZoneId) (m : BitVec 32) (x y : ChanState) : (s.channelMoved z m x y).retention = s.retention := by
  unfold State.channelMoved; try dsimp only
  (repeat' split) <;> simp
@[simp] theorem State.channelMoved_lastStart (z : ZoneId) (m : BitVec 32) (x y : ChanState) : (s.channelMoved z m x y).lastStart = s.lastStart := by
  unfold State.channelMoved; try dsimp only
  (repeat' split) <;> simp
@[simp] theorem State.channelMoved_lines (z : ZoneId) (m : BitVec 32) (x y : ChanState) : (s.channelMoved z m x y).lines = s.lines := by
  unfold State.channelMoved; try dsimp only
  (repeat' split) <;> simp
@[simp] theorem State.channelMoved_slots (z : ZoneId) (m : BitVec 32) (x y : ChanState) : (s.channelMoved z m x y).slots = s.slots := by
  unfold State.channelMoved; try dsimp only
  (repeat' split) <;> simp
@[simp] theorem State.channelMoved_tallies (z : ZoneId) (m : BitVec 32) (x y : ChanState) : (s.channelMoved z m x y).tallies = s.tallies := by
  unfold State.channelMoved; try dsimp only
  (repeat' split) <;> simp
@[simp] theorem State.channelMoved_access (z : ZoneId) (m : BitVec 32) (x y : ChanState) : (s.channelMoved z m x y).access = s.access := by
  unfold State.channelMoved; try dsimp only
  (repeat' split) <;> simp
@[simp] theorem State.channelMoved_detectors (z : ZoneId) (m : BitVec 32) (x y : ChanState) : (s.channelMoved z m x y).detectors = s.detectors := by
  unfold State.channelMoved; try dsimp only
  (repeat' split) <;> simp
@[simp] theorem State.channelMoved_sensors (z : ZoneId) (m : BitVec 32) (x y : ChanState) : (s.channelMoved z m x y).sensors = s.sensors := by
  unfold State.channelMoved; try dsimp only
  (repeat' split) <;> simp
@[simp] theorem State.channelMoved_settings (z : ZoneId) (m : BitVec 32) (x y : ChanState) : (s.channelMoved z m x y).settings = s.settings := by
  unfold State.channelMoved; try dsimp only
  (repeat' split) <;> simp
@[simp] theorem State.channelMoved_freeCount (z : ZoneId) (m : BitVec 32) (x y : ChanState) : (s.channelMoved z m x y).freeCount = s.freeCount := by
  unfold State.channelMoved; try dsimp only
  (repeat' split) <;> simp
@[simp] theorem State.channelMoved_pending (z : ZoneId) (m : BitVec 32) (x y : ChanState) : (s.channelMoved z m x y).pending = s.pending := by
  unfold State.channelMoved; try dsimp only
  (repeat' split) <;> simp
@[simp] theorem State.channelMoved_record (z : ZoneId) (m : BitVec 32) (x y : ChanState) (j : Slot) : (s.channelMoved z m x y).record j = s.record j := by
  unfold State.channelMoved; try dsimp only
  (repeat' split) <;> simp
@[simp] theorem State.channelMoved_detector (z : ZoneId) (m : BitVec 32) (x y : ChanState) (d' : DetId) : (s.channelMoved z m x y).detector d' = s.detector d' := by
  unfold State.channelMoved; try dsimp only
  (repeat' split) <;> simp
@[simp] theorem State.channelMoved_running (z : ZoneId) (m : BitVec 32) (x y : ChanState) : (s.channelMoved z m x y).running = s.running := by
  unfold State.channelMoved; try dsimp only
  (repeat' split) <;> simp
@[simp] theorem State.channelMoved_bayCfg (z : ZoneId) (m : BitVec 32) (x y : ChanState) (b' : BayId) : (s.channelMoved z m x y).bayCfg b' = s.bayCfg b' := by
  unfold State.channelMoved; try dsimp only
  (repeat' split) <;> simp
@[simp] theorem State.channelMoved_classCfg (z : ZoneId) (m : BitVec 32) (x y : ChanState) (k' : ClassId) : (s.channelMoved z m x y).classCfg k' = s.classCfg k' := by
  unfold State.channelMoved; try dsimp only
  (repeat' split) <;> simp
@[simp] theorem State.channelMoved_zoneCfg (z : ZoneId) (m : BitVec 32) (x y : ChanState) (z' : ZoneId) : (s.channelMoved z m x y).zoneCfg z' = s.zoneCfg z' := by
  unfold State.channelMoved; try dsimp only
  (repeat' split) <;> simp

/-! ### movePack -/

@[simp] theorem State.movePack_phase (b : BayId) (x y : Chan) : (s.movePack b x y).phase = s.phase := by
  unfold State.movePack; try dsimp only
  (repeat' split) <;> simp
@[simp] theorem State.movePack_retention (b : BayId) (x y : Chan) : (s.movePack b x y).retention = s.retention := by
  unfold State.movePack; try dsimp only
  (repeat' split) <;> simp
@[simp] theorem State.movePack_lastStart (b : BayId) (x y : Chan) : (s.movePack b x y).lastStart = s.lastStart := by
  unfold State.movePack; try dsimp only
  (repeat' split) <;> simp
@[simp] theorem State.movePack_lines (b : BayId) (x y : Chan) : (s.movePack b x y).lines = s.lines := by
  unfold State.movePack; try dsimp only
  (repeat' split) <;> simp
@[simp] theorem State.movePack_slots (b : BayId) (x y : Chan) : (s.movePack b x y).slots = s.slots := by
  unfold State.movePack; try dsimp only
  (repeat' split) <;> simp
@[simp] theorem State.movePack_tallies (b : BayId) (x y : Chan) : (s.movePack b x y).tallies = s.tallies := by
  unfold State.movePack; try dsimp only
  (repeat' split) <;> simp
@[simp] theorem State.movePack_access (b : BayId) (x y : Chan) : (s.movePack b x y).access = s.access := by
  unfold State.movePack; try dsimp only
  (repeat' split) <;> simp
@[simp] theorem State.movePack_detectors (b : BayId) (x y : Chan) : (s.movePack b x y).detectors = s.detectors := by
  unfold State.movePack; try dsimp only
  (repeat' split) <;> simp
@[simp] theorem State.movePack_sensors (b : BayId) (x y : Chan) : (s.movePack b x y).sensors = s.sensors := by
  unfold State.movePack; try dsimp only
  (repeat' split) <;> simp
@[simp] theorem State.movePack_settings (b : BayId) (x y : Chan) : (s.movePack b x y).settings = s.settings := by
  unfold State.movePack; try dsimp only
  (repeat' split) <;> simp
@[simp] theorem State.movePack_freeCount (b : BayId) (x y : Chan) : (s.movePack b x y).freeCount = s.freeCount := by
  unfold State.movePack; try dsimp only
  (repeat' split) <;> simp
@[simp] theorem State.movePack_pending (b : BayId) (x y : Chan) : (s.movePack b x y).pending = s.pending := by
  unfold State.movePack; try dsimp only
  (repeat' split) <;> simp
@[simp] theorem State.movePack_record (b : BayId) (x y : Chan) (j : Slot) : (s.movePack b x y).record j = s.record j := by
  unfold State.movePack; try dsimp only
  (repeat' split) <;> simp
@[simp] theorem State.movePack_detector (b : BayId) (x y : Chan) (d' : DetId) : (s.movePack b x y).detector d' = s.detector d' := by
  unfold State.movePack; try dsimp only
  (repeat' split) <;> simp
@[simp] theorem State.movePack_running (b : BayId) (x y : Chan) : (s.movePack b x y).running = s.running := by
  unfold State.movePack; try dsimp only
  (repeat' split) <;> simp
@[simp] theorem State.movePack_bayCfg (b : BayId) (x y : Chan) (b' : BayId) : (s.movePack b x y).bayCfg b' = s.bayCfg b' := by
  unfold State.movePack; try dsimp only
  (repeat' split) <;> simp
@[simp] theorem State.movePack_classCfg (b : BayId) (x y : Chan) (k' : ClassId) : (s.movePack b x y).classCfg k' = s.classCfg k' := by
  unfold State.movePack; try dsimp only
  (repeat' split) <;> simp
@[simp] theorem State.movePack_zoneCfg (b : BayId) (x y : Chan) (z' : ZoneId) : (s.movePack b x y).zoneCfg z' = s.zoneCfg z' := by
  unfold State.movePack; try dsimp only
  (repeat' split) <;> simp

/-! ### packReading -/

@[simp] theorem State.packReading_phase (b : BayId) (t : Int) : (s.packReading b t).phase = s.phase := by
  unfold State.packReading; try dsimp only
  (repeat' split) <;> simp
@[simp] theorem State.packReading_retention (b : BayId) (t : Int) : (s.packReading b t).retention = s.retention := by
  unfold State.packReading; try dsimp only
  (repeat' split) <;> simp
@[simp] theorem State.packReading_lastStart (b : BayId) (t : Int) : (s.packReading b t).lastStart = s.lastStart := by
  unfold State.packReading; try dsimp only
  (repeat' split) <;> simp
@[simp] theorem State.packReading_lines (b : BayId) (t : Int) : (s.packReading b t).lines = s.lines := by
  unfold State.packReading; try dsimp only
  (repeat' split) <;> simp
@[simp] theorem State.packReading_slots (b : BayId) (t : Int) : (s.packReading b t).slots = s.slots := by
  unfold State.packReading; try dsimp only
  (repeat' split) <;> simp
@[simp] theorem State.packReading_tallies (b : BayId) (t : Int) : (s.packReading b t).tallies = s.tallies := by
  unfold State.packReading; try dsimp only
  (repeat' split) <;> simp
@[simp] theorem State.packReading_access (b : BayId) (t : Int) : (s.packReading b t).access = s.access := by
  unfold State.packReading; try dsimp only
  (repeat' split) <;> simp
@[simp] theorem State.packReading_detectors (b : BayId) (t : Int) : (s.packReading b t).detectors = s.detectors := by
  unfold State.packReading; try dsimp only
  (repeat' split) <;> simp
@[simp] theorem State.packReading_sensors (b : BayId) (t : Int) : (s.packReading b t).sensors = s.sensors := by
  unfold State.packReading; try dsimp only
  (repeat' split) <;> simp
@[simp] theorem State.packReading_settings (b : BayId) (t : Int) : (s.packReading b t).settings = s.settings := by
  unfold State.packReading; try dsimp only
  (repeat' split) <;> simp
@[simp] theorem State.packReading_freeCount (b : BayId) (t : Int) : (s.packReading b t).freeCount = s.freeCount := by
  unfold State.packReading; try dsimp only
  (repeat' split) <;> simp
@[simp] theorem State.packReading_pending (b : BayId) (t : Int) : (s.packReading b t).pending = s.pending := by
  unfold State.packReading; try dsimp only
  (repeat' split) <;> simp
@[simp] theorem State.packReading_record (b : BayId) (t : Int) (j : Slot) : (s.packReading b t).record j = s.record j := by
  unfold State.packReading; try dsimp only
  (repeat' split) <;> simp
@[simp] theorem State.packReading_detector (b : BayId) (t : Int) (d' : DetId) : (s.packReading b t).detector d' = s.detector d' := by
  unfold State.packReading; try dsimp only
  (repeat' split) <;> simp
@[simp] theorem State.packReading_running (b : BayId) (t : Int) : (s.packReading b t).running = s.running := by
  unfold State.packReading; try dsimp only
  (repeat' split) <;> simp
@[simp] theorem State.packReading_bayCfg (b : BayId) (t : Int) (b' : BayId) : (s.packReading b t).bayCfg b' = s.bayCfg b' := by
  unfold State.packReading; try dsimp only
  (repeat' split) <;> simp
@[simp] theorem State.packReading_classCfg (b : BayId) (t : Int) (k' : ClassId) : (s.packReading b t).classCfg k' = s.classCfg k' := by
  unfold State.packReading; try dsimp only
  (repeat' split) <;> simp
@[simp] theorem State.packReading_zoneCfg (b : BayId) (t : Int) (z' : ZoneId) : (s.packReading b t).zoneCfg z' = s.zoneCfg z' := by
  unfold State.packReading; try dsimp only
  (repeat' split) <;> simp

/-! ### packLost -/

@[simp] theorem State.packLost_phase (b : BayId) : (s.packLost b).phase = s.phase := by
  unfold State.packLost; try dsimp only
  (repeat' split) <;> simp
@[simp] theorem State.packLost_retention (b : BayId) : (s.packLost b).retention = s.retention := by
  unfold State.packLost; try dsimp only
  (repeat' split) <;> simp
@[simp] theorem State.packLost_lastStart (b : BayId) : (s.packLost b).lastStart = s.lastStart := by
  unfold State.packLost; try dsimp only
  (repeat' split) <;> simp
@[simp] theorem State.packLost_lines (b : BayId) : (s.packLost b).lines = s.lines := by
  unfold State.packLost; try dsimp only
  (repeat' split) <;> simp
@[simp] theorem State.packLost_slots (b : BayId) : (s.packLost b).slots = s.slots := by
  unfold State.packLost; try dsimp only
  (repeat' split) <;> simp
@[simp] theorem State.packLost_tallies (b : BayId) : (s.packLost b).tallies = s.tallies := by
  unfold State.packLost; try dsimp only
  (repeat' split) <;> simp
@[simp] theorem State.packLost_access (b : BayId) : (s.packLost b).access = s.access := by
  unfold State.packLost; try dsimp only
  (repeat' split) <;> simp
@[simp] theorem State.packLost_detectors (b : BayId) : (s.packLost b).detectors = s.detectors := by
  unfold State.packLost; try dsimp only
  (repeat' split) <;> simp
@[simp] theorem State.packLost_sensors (b : BayId) : (s.packLost b).sensors = s.sensors := by
  unfold State.packLost; try dsimp only
  (repeat' split) <;> simp
@[simp] theorem State.packLost_settings (b : BayId) : (s.packLost b).settings = s.settings := by
  unfold State.packLost; try dsimp only
  (repeat' split) <;> simp
@[simp] theorem State.packLost_freeCount (b : BayId) : (s.packLost b).freeCount = s.freeCount := by
  unfold State.packLost; try dsimp only
  (repeat' split) <;> simp
@[simp] theorem State.packLost_pending (b : BayId) : (s.packLost b).pending = s.pending := by
  unfold State.packLost; try dsimp only
  (repeat' split) <;> simp
@[simp] theorem State.packLost_record (b : BayId) (j : Slot) : (s.packLost b).record j = s.record j := by
  unfold State.packLost; try dsimp only
  (repeat' split) <;> simp
@[simp] theorem State.packLost_detector (b : BayId) (d' : DetId) : (s.packLost b).detector d' = s.detector d' := by
  unfold State.packLost; try dsimp only
  (repeat' split) <;> simp
@[simp] theorem State.packLost_running (b : BayId) : (s.packLost b).running = s.running := by
  unfold State.packLost; try dsimp only
  (repeat' split) <;> simp
@[simp] theorem State.packLost_bayCfg (b : BayId) (b' : BayId) : (s.packLost b).bayCfg b' = s.bayCfg b' := by
  unfold State.packLost; try dsimp only
  (repeat' split) <;> simp
@[simp] theorem State.packLost_classCfg (b : BayId) (k' : ClassId) : (s.packLost b).classCfg k' = s.classCfg k' := by
  unfold State.packLost; try dsimp only
  (repeat' split) <;> simp
@[simp] theorem State.packLost_zoneCfg (b : BayId) (z' : ZoneId) : (s.packLost b).zoneCfg z' = s.zoneCfg z' := by
  unfold State.packLost; try dsimp only
  (repeat' split) <;> simp

/-! ### scanFlame -/

@[simp] theorem State.scanFlame_phase (z : ZoneId) (l : Bool) : (s.scanFlame z l).phase = s.phase := by
  unfold State.scanFlame; try dsimp only
  (repeat' split) <;> simp
@[simp] theorem State.scanFlame_retention (z : ZoneId) (l : Bool) : (s.scanFlame z l).retention = s.retention := by
  unfold State.scanFlame; try dsimp only
  (repeat' split) <;> simp
@[simp] theorem State.scanFlame_lastStart (z : ZoneId) (l : Bool) : (s.scanFlame z l).lastStart = s.lastStart := by
  unfold State.scanFlame; try dsimp only
  (repeat' split) <;> simp
@[simp] theorem State.scanFlame_lines (z : ZoneId) (l : Bool) : (s.scanFlame z l).lines = s.lines := by
  unfold State.scanFlame; try dsimp only
  (repeat' split) <;> simp
@[simp] theorem State.scanFlame_slots (z : ZoneId) (l : Bool) : (s.scanFlame z l).slots = s.slots := by
  unfold State.scanFlame; try dsimp only
  (repeat' split) <;> simp
@[simp] theorem State.scanFlame_tallies (z : ZoneId) (l : Bool) : (s.scanFlame z l).tallies = s.tallies := by
  unfold State.scanFlame; try dsimp only
  (repeat' split) <;> simp
@[simp] theorem State.scanFlame_access (z : ZoneId) (l : Bool) : (s.scanFlame z l).access = s.access := by
  unfold State.scanFlame; try dsimp only
  (repeat' split) <;> simp
@[simp] theorem State.scanFlame_detectors (z : ZoneId) (l : Bool) : (s.scanFlame z l).detectors = s.detectors := by
  unfold State.scanFlame; try dsimp only
  (repeat' split) <;> simp
@[simp] theorem State.scanFlame_sensors (z : ZoneId) (l : Bool) : (s.scanFlame z l).sensors = s.sensors := by
  unfold State.scanFlame; try dsimp only
  (repeat' split) <;> simp
@[simp] theorem State.scanFlame_settings (z : ZoneId) (l : Bool) : (s.scanFlame z l).settings = s.settings := by
  unfold State.scanFlame; try dsimp only
  (repeat' split) <;> simp
@[simp] theorem State.scanFlame_freeCount (z : ZoneId) (l : Bool) : (s.scanFlame z l).freeCount = s.freeCount := by
  unfold State.scanFlame; try dsimp only
  (repeat' split) <;> simp
@[simp] theorem State.scanFlame_pending (z : ZoneId) (l : Bool) : (s.scanFlame z l).pending = s.pending := by
  unfold State.scanFlame; try dsimp only
  (repeat' split) <;> simp
@[simp] theorem State.scanFlame_record (z : ZoneId) (l : Bool) (j : Slot) : (s.scanFlame z l).record j = s.record j := by
  unfold State.scanFlame; try dsimp only
  (repeat' split) <;> simp
@[simp] theorem State.scanFlame_detector (z : ZoneId) (l : Bool) (d' : DetId) : (s.scanFlame z l).detector d' = s.detector d' := by
  unfold State.scanFlame; try dsimp only
  (repeat' split) <;> simp
@[simp] theorem State.scanFlame_running (z : ZoneId) (l : Bool) : (s.scanFlame z l).running = s.running := by
  unfold State.scanFlame; try dsimp only
  (repeat' split) <;> simp
@[simp] theorem State.scanFlame_bayCfg (z : ZoneId) (l : Bool) (b' : BayId) : (s.scanFlame z l).bayCfg b' = s.bayCfg b' := by
  unfold State.scanFlame; try dsimp only
  (repeat' split) <;> simp
@[simp] theorem State.scanFlame_classCfg (z : ZoneId) (l : Bool) (k' : ClassId) : (s.scanFlame z l).classCfg k' = s.classCfg k' := by
  unfold State.scanFlame; try dsimp only
  (repeat' split) <;> simp
@[simp] theorem State.scanFlame_zoneCfg (z : ZoneId) (l : Bool) (z' : ZoneId) : (s.scanFlame z l).zoneCfg z' = s.zoneCfg z' := by
  unfold State.scanFlame; try dsimp only
  (repeat' split) <;> simp

/-! ### clearZone -/

@[simp] theorem State.clearZone_phase (z : ZoneId) : (s.clearZone z).phase = s.phase := by
  have hf := foldl_frame (fun t => t.phase) (fun t b => t.dropHold b .zoneAlarm) (fun t b => by simp) (zoneBays z)
  unfold State.clearZone; dsimp only; repeat' split
  all_goals simp [hf]
@[simp] theorem State.clearZone_retention (z : ZoneId) : (s.clearZone z).retention = s.retention := by
  have hf := foldl_frame (fun t => t.retention) (fun t b => t.dropHold b .zoneAlarm) (fun t b => by simp) (zoneBays z)
  unfold State.clearZone; dsimp only; repeat' split
  all_goals simp [hf]
@[simp] theorem State.clearZone_lastStart (z : ZoneId) : (s.clearZone z).lastStart = s.lastStart := by
  have hf := foldl_frame (fun t => t.lastStart) (fun t b => t.dropHold b .zoneAlarm) (fun t b => by simp) (zoneBays z)
  unfold State.clearZone; dsimp only; repeat' split
  all_goals simp [hf]
@[simp] theorem State.clearZone_lines (z : ZoneId) : (s.clearZone z).lines = s.lines := by
  have hf := foldl_frame (fun t => t.lines) (fun t b => t.dropHold b .zoneAlarm) (fun t b => by simp) (zoneBays z)
  unfold State.clearZone; dsimp only; repeat' split
  all_goals simp [hf]
@[simp] theorem State.clearZone_slots (z : ZoneId) : (s.clearZone z).slots = s.slots := by
  have hf := foldl_frame (fun t => t.slots) (fun t b => t.dropHold b .zoneAlarm) (fun t b => by simp) (zoneBays z)
  unfold State.clearZone; dsimp only; repeat' split
  all_goals simp [hf]
@[simp] theorem State.clearZone_tallies (z : ZoneId) : (s.clearZone z).tallies = s.tallies := by
  have hf := foldl_frame (fun t => t.tallies) (fun t b => t.dropHold b .zoneAlarm) (fun t b => by simp) (zoneBays z)
  unfold State.clearZone; dsimp only; repeat' split
  all_goals simp [hf]
@[simp] theorem State.clearZone_access (z : ZoneId) : (s.clearZone z).access = s.access := by
  have hf := foldl_frame (fun t => t.access) (fun t b => t.dropHold b .zoneAlarm) (fun t b => by simp) (zoneBays z)
  unfold State.clearZone; dsimp only; repeat' split
  all_goals simp [hf]
@[simp] theorem State.clearZone_detectors (z : ZoneId) : (s.clearZone z).detectors = s.detectors := by
  have hf := foldl_frame (fun t => t.detectors) (fun t b => t.dropHold b .zoneAlarm) (fun t b => by simp) (zoneBays z)
  unfold State.clearZone; dsimp only; repeat' split
  all_goals simp [hf]
@[simp] theorem State.clearZone_sensors (z : ZoneId) : (s.clearZone z).sensors = s.sensors := by
  have hf := foldl_frame (fun t => t.sensors) (fun t b => t.dropHold b .zoneAlarm) (fun t b => by simp) (zoneBays z)
  unfold State.clearZone; dsimp only; repeat' split
  all_goals simp [hf]
@[simp] theorem State.clearZone_settings (z : ZoneId) : (s.clearZone z).settings = s.settings := by
  have hf := foldl_frame (fun t => t.settings) (fun t b => t.dropHold b .zoneAlarm) (fun t b => by simp) (zoneBays z)
  unfold State.clearZone; dsimp only; repeat' split
  all_goals simp [hf]
@[simp] theorem State.clearZone_freeCount (z : ZoneId) : (s.clearZone z).freeCount = s.freeCount := by
  have hf := foldl_frame (fun t => t.freeCount) (fun t b => t.dropHold b .zoneAlarm) (fun t b => by simp) (zoneBays z)
  unfold State.clearZone; dsimp only; repeat' split
  all_goals simp [hf]
@[simp] theorem State.clearZone_pending (z : ZoneId) : (s.clearZone z).pending = s.pending := by
  have hf := foldl_frame (fun t => t.pending) (fun t b => t.dropHold b .zoneAlarm) (fun t b => by simp) (zoneBays z)
  unfold State.clearZone; dsimp only; repeat' split
  all_goals simp [hf]
@[simp] theorem State.clearZone_record (z : ZoneId) (j : Slot) : (s.clearZone z).record j = s.record j := by
  have hf := foldl_frame (fun t => t.record j) (fun t b => t.dropHold b .zoneAlarm) (fun t b => by simp) (zoneBays z)
  unfold State.clearZone; dsimp only; repeat' split
  all_goals simp [hf]
@[simp] theorem State.clearZone_detector (z : ZoneId) (d' : DetId) : (s.clearZone z).detector d' = s.detector d' := by
  have hf := foldl_frame (fun t => t.detector d') (fun t b => t.dropHold b .zoneAlarm) (fun t b => by simp) (zoneBays z)
  unfold State.clearZone; dsimp only; repeat' split
  all_goals simp [hf]
@[simp] theorem State.clearZone_running (z : ZoneId) : (s.clearZone z).running = s.running := by
  have hf := foldl_frame (fun t => t.running) (fun t b => t.dropHold b .zoneAlarm) (fun t b => by simp) (zoneBays z)
  unfold State.clearZone; dsimp only; repeat' split
  all_goals simp [hf]
@[simp] theorem State.clearZone_bayCfg (z : ZoneId) (b' : BayId) : (s.clearZone z).bayCfg b' = s.bayCfg b' := by
  have hf := foldl_frame (fun t => t.bayCfg b') (fun t b => t.dropHold b .zoneAlarm) (fun t b => by simp) (zoneBays z)
  unfold State.clearZone; dsimp only; repeat' split
  all_goals simp [hf]
@[simp] theorem State.clearZone_classCfg (z : ZoneId) (k' : ClassId) : (s.clearZone z).classCfg k' = s.classCfg k' := by
  have hf := foldl_frame (fun t => t.classCfg k') (fun t b => t.dropHold b .zoneAlarm) (fun t b => by simp) (zoneBays z)
  unfold State.clearZone; dsimp only; repeat' split
  all_goals simp [hf]
@[simp] theorem State.clearZone_zoneCfg (z : ZoneId) (z' : ZoneId) : (s.clearZone z).zoneCfg z' = s.zoneCfg z' := by
  have hf := foldl_frame (fun t => t.zoneCfg z') (fun t b => t.dropHold b .zoneAlarm) (fun t b => by simp) (zoneBays z)
  unfold State.clearZone; dsimp only; repeat' split
  all_goals simp [hf]

/-! ### creditEnergy -/

@[simp] theorem State.creditEnergy_phase (i : Slot) (r : Rec) (n : Nat) : (s.creditEnergy i r n).phase = s.phase := by
  unfold State.creditEnergy; try dsimp only
  (repeat' split) <;> simp
@[simp] theorem State.creditEnergy_retention (i : Slot) (r : Rec) (n : Nat) : (s.creditEnergy i r n).retention = s.retention := by
  unfold State.creditEnergy; try dsimp only
  (repeat' split) <;> simp
@[simp] theorem State.creditEnergy_lastStart (i : Slot) (r : Rec) (n : Nat) : (s.creditEnergy i r n).lastStart = s.lastStart := by
  unfold State.creditEnergy; try dsimp only
  (repeat' split) <;> simp
@[simp] theorem State.creditEnergy_lines (i : Slot) (r : Rec) (n : Nat) : (s.creditEnergy i r n).lines = s.lines := by
  unfold State.creditEnergy; try dsimp only
  (repeat' split) <;> simp
@[simp] theorem State.creditEnergy_access (i : Slot) (r : Rec) (n : Nat) : (s.creditEnergy i r n).access = s.access := by
  unfold State.creditEnergy; try dsimp only
  (repeat' split) <;> simp
@[simp] theorem State.creditEnergy_arb (i : Slot) (r : Rec) (n : Nat) : (s.creditEnergy i r n).arb = s.arb := by
  unfold State.creditEnergy; try dsimp only
  (repeat' split) <;> simp
@[simp] theorem State.creditEnergy_bays (i : Slot) (r : Rec) (n : Nat) : (s.creditEnergy i r n).bays = s.bays := by
  unfold State.creditEnergy; try dsimp only
  (repeat' split) <;> simp
@[simp] theorem State.creditEnergy_chamber (i : Slot) (r : Rec) (n : Nat) : (s.creditEnergy i r n).chamber = s.chamber := by
  unfold State.creditEnergy; try dsimp only
  (repeat' split) <;> simp
@[simp] theorem State.creditEnergy_feed (i : Slot) (r : Rec) (n : Nat) : (s.creditEnergy i r n).feed = s.feed := by
  unfold State.creditEnergy; try dsimp only
  (repeat' split) <;> simp
@[simp] theorem State.creditEnergy_zones (i : Slot) (r : Rec) (n : Nat) : (s.creditEnergy i r n).zones = s.zones := by
  unfold State.creditEnergy; try dsimp only
  (repeat' split) <;> simp
@[simp] theorem State.creditEnergy_detectors (i : Slot) (r : Rec) (n : Nat) : (s.creditEnergy i r n).detectors = s.detectors := by
  unfold State.creditEnergy; try dsimp only
  (repeat' split) <;> simp
@[simp] theorem State.creditEnergy_sensors (i : Slot) (r : Rec) (n : Nat) : (s.creditEnergy i r n).sensors = s.sensors := by
  unfold State.creditEnergy; try dsimp only
  (repeat' split) <;> simp
@[simp] theorem State.creditEnergy_settings (i : Slot) (r : Rec) (n : Nat) : (s.creditEnergy i r n).settings = s.settings := by
  unfold State.creditEnergy; try dsimp only
  (repeat' split) <;> simp
@[simp] theorem State.creditEnergy_line (i : Slot) (r : Rec) (n : Nat) : (s.creditEnergy i r n).line = s.line := by
  unfold State.creditEnergy; try dsimp only
  (repeat' split) <;> simp
@[simp] theorem State.creditEnergy_plant (i : Slot) (r : Rec) (n : Nat) : (s.creditEnergy i r n).plant = s.plant := by
  unfold State.creditEnergy; try dsimp only
  (repeat' split) <;> simp
@[simp] theorem State.creditEnergy_freeCount (i : Slot) (r : Rec) (n : Nat) : (s.creditEnergy i r n).freeCount = s.freeCount := by
  unfold State.creditEnergy; try dsimp only
  (repeat' split) <;> simp
@[simp] theorem State.creditEnergy_pending (i : Slot) (r : Rec) (n : Nat) : (s.creditEnergy i r n).pending = s.pending := by
  unfold State.creditEnergy; try dsimp only
  (repeat' split) <;> simp
@[simp] theorem State.creditEnergy_bay (i : Slot) (r : Rec) (n : Nat) (b' : BayId) : (s.creditEnergy i r n).bay b' = s.bay b' := by
  unfold State.creditEnergy; try dsimp only
  (repeat' split) <;> simp
@[simp] theorem State.creditEnergy_zone (i : Slot) (r : Rec) (n : Nat) (z' : ZoneId) : (s.creditEnergy i r n).zone z' = s.zone z' := by
  unfold State.creditEnergy; try dsimp only
  (repeat' split) <;> simp
@[simp] theorem State.creditEnergy_detector (i : Slot) (r : Rec) (n : Nat) (d' : DetId) : (s.creditEnergy i r n).detector d' = s.detector d' := by
  unfold State.creditEnergy; try dsimp only
  (repeat' split) <;> simp
@[simp] theorem State.creditEnergy_running (i : Slot) (r : Rec) (n : Nat) : (s.creditEnergy i r n).running = s.running := by
  unfold State.creditEnergy; try dsimp only
  (repeat' split) <;> simp
@[simp] theorem State.creditEnergy_bayCfg (i : Slot) (r : Rec) (n : Nat) (b' : BayId) : (s.creditEnergy i r n).bayCfg b' = s.bayCfg b' := by
  unfold State.creditEnergy; try dsimp only
  (repeat' split) <;> simp
@[simp] theorem State.creditEnergy_classCfg (i : Slot) (r : Rec) (n : Nat) (k' : ClassId) : (s.creditEnergy i r n).classCfg k' = s.classCfg k' := by
  unfold State.creditEnergy; try dsimp only
  (repeat' split) <;> simp
@[simp] theorem State.creditEnergy_zoneCfg (i : Slot) (r : Rec) (n : Nat) (z' : ZoneId) : (s.creditEnergy i r n).zoneCfg z' = s.zoneCfg z' := by
  unfold State.creditEnergy; try dsimp only
  (repeat' split) <;> simp
@[simp] theorem State.creditEnergy_port (i : Slot) (r : Rec) (n : Nat) (q : Port) : (s.creditEnergy i r n).port q = s.port q := by
  unfold State.creditEnergy; try dsimp only
  (repeat' split) <;> simp

/-! ### unuseClass -/

@[simp] theorem State.unuseClass_phase (c : ClassId) : (s.unuseClass c).phase = s.phase := by
  unfold State.unuseClass; try dsimp only
  (repeat' split) <;> simp
@[simp] theorem State.unuseClass_retention (c : ClassId) : (s.unuseClass c).retention = s.retention := by
  unfold State.unuseClass; try dsimp only
  (repeat' split) <;> simp
@[simp] theorem State.unuseClass_lastStart (c : ClassId) : (s.unuseClass c).lastStart = s.lastStart := by
  unfold State.unuseClass; try dsimp only
  (repeat' split) <;> simp
@[simp] theorem State.unuseClass_lines (c : ClassId) : (s.unuseClass c).lines = s.lines := by
  unfold State.unuseClass; try dsimp only
  (repeat' split) <;> simp
@[simp] theorem State.unuseClass_slots (c : ClassId) : (s.unuseClass c).slots = s.slots := by
  unfold State.unuseClass; try dsimp only
  (repeat' split) <;> simp
@[simp] theorem State.unuseClass_tallies (c : ClassId) : (s.unuseClass c).tallies = s.tallies := by
  unfold State.unuseClass; try dsimp only
  (repeat' split) <;> simp
@[simp] theorem State.unuseClass_access (c : ClassId) : (s.unuseClass c).access = s.access := by
  unfold State.unuseClass; try dsimp only
  (repeat' split) <;> simp
@[simp] theorem State.unuseClass_arb (c : ClassId) : (s.unuseClass c).arb = s.arb := by
  unfold State.unuseClass; try dsimp only
  (repeat' split) <;> simp
@[simp] theorem State.unuseClass_bays (c : ClassId) : (s.unuseClass c).bays = s.bays := by
  unfold State.unuseClass; try dsimp only
  (repeat' split) <;> simp
@[simp] theorem State.unuseClass_chamber (c : ClassId) : (s.unuseClass c).chamber = s.chamber := by
  unfold State.unuseClass; try dsimp only
  (repeat' split) <;> simp
@[simp] theorem State.unuseClass_feed (c : ClassId) : (s.unuseClass c).feed = s.feed := by
  unfold State.unuseClass; try dsimp only
  (repeat' split) <;> simp
@[simp] theorem State.unuseClass_zones (c : ClassId) : (s.unuseClass c).zones = s.zones := by
  unfold State.unuseClass; try dsimp only
  (repeat' split) <;> simp
@[simp] theorem State.unuseClass_detectors (c : ClassId) : (s.unuseClass c).detectors = s.detectors := by
  unfold State.unuseClass; try dsimp only
  (repeat' split) <;> simp
@[simp] theorem State.unuseClass_sensors (c : ClassId) : (s.unuseClass c).sensors = s.sensors := by
  unfold State.unuseClass; try dsimp only
  (repeat' split) <;> simp
@[simp] theorem State.unuseClass_line (c : ClassId) : (s.unuseClass c).line = s.line := by
  unfold State.unuseClass; try dsimp only
  (repeat' split) <;> simp
@[simp] theorem State.unuseClass_plant (c : ClassId) : (s.unuseClass c).plant = s.plant := by
  unfold State.unuseClass; try dsimp only
  (repeat' split) <;> simp
@[simp] theorem State.unuseClass_freeCount (c : ClassId) : (s.unuseClass c).freeCount = s.freeCount := by
  unfold State.unuseClass; try dsimp only
  (repeat' split) <;> simp
@[simp] theorem State.unuseClass_pending (c : ClassId) : (s.unuseClass c).pending = s.pending := by
  unfold State.unuseClass; try dsimp only
  (repeat' split) <;> simp
@[simp] theorem State.unuseClass_bay (c : ClassId) (b' : BayId) : (s.unuseClass c).bay b' = s.bay b' := by
  unfold State.unuseClass; try dsimp only
  (repeat' split) <;> simp
@[simp] theorem State.unuseClass_record (c : ClassId) (j : Slot) : (s.unuseClass c).record j = s.record j := by
  unfold State.unuseClass; try dsimp only
  (repeat' split) <;> simp
@[simp] theorem State.unuseClass_zone (c : ClassId) (z' : ZoneId) : (s.unuseClass c).zone z' = s.zone z' := by
  unfold State.unuseClass; try dsimp only
  (repeat' split) <;> simp
@[simp] theorem State.unuseClass_detector (c : ClassId) (d' : DetId) : (s.unuseClass c).detector d' = s.detector d' := by
  unfold State.unuseClass; try dsimp only
  (repeat' split) <;> simp
@[simp] theorem State.unuseClass_running (c : ClassId) : (s.unuseClass c).running = s.running := by
  unfold State.unuseClass; try dsimp only
  (repeat' split) <;> simp
@[simp] theorem State.unuseClass_port (c : ClassId) (q : Port) : (s.unuseClass c).port q = s.port q := by
  unfold State.unuseClass; try dsimp only
  (repeat' split) <;> simp

/-! ### useClass -/

@[simp] theorem State.useClass_phase (c : ClassId) : (s.useClass c).phase = s.phase := by
  unfold State.useClass; try dsimp only
  (repeat' split) <;> simp
@[simp] theorem State.useClass_retention (c : ClassId) : (s.useClass c).retention = s.retention := by
  unfold State.useClass; try dsimp only
  (repeat' split) <;> simp
@[simp] theorem State.useClass_lastStart (c : ClassId) : (s.useClass c).lastStart = s.lastStart := by
  unfold State.useClass; try dsimp only
  (repeat' split) <;> simp
@[simp] theorem State.useClass_lines (c : ClassId) : (s.useClass c).lines = s.lines := by
  unfold State.useClass; try dsimp only
  (repeat' split) <;> simp
@[simp] theorem State.useClass_slots (c : ClassId) : (s.useClass c).slots = s.slots := by
  unfold State.useClass; try dsimp only
  (repeat' split) <;> simp
@[simp] theorem State.useClass_tallies (c : ClassId) : (s.useClass c).tallies = s.tallies := by
  unfold State.useClass; try dsimp only
  (repeat' split) <;> simp
@[simp] theorem State.useClass_access (c : ClassId) : (s.useClass c).access = s.access := by
  unfold State.useClass; try dsimp only
  (repeat' split) <;> simp
@[simp] theorem State.useClass_arb (c : ClassId) : (s.useClass c).arb = s.arb := by
  unfold State.useClass; try dsimp only
  (repeat' split) <;> simp
@[simp] theorem State.useClass_bays (c : ClassId) : (s.useClass c).bays = s.bays := by
  unfold State.useClass; try dsimp only
  (repeat' split) <;> simp
@[simp] theorem State.useClass_chamber (c : ClassId) : (s.useClass c).chamber = s.chamber := by
  unfold State.useClass; try dsimp only
  (repeat' split) <;> simp
@[simp] theorem State.useClass_feed (c : ClassId) : (s.useClass c).feed = s.feed := by
  unfold State.useClass; try dsimp only
  (repeat' split) <;> simp
@[simp] theorem State.useClass_zones (c : ClassId) : (s.useClass c).zones = s.zones := by
  unfold State.useClass; try dsimp only
  (repeat' split) <;> simp
@[simp] theorem State.useClass_detectors (c : ClassId) : (s.useClass c).detectors = s.detectors := by
  unfold State.useClass; try dsimp only
  (repeat' split) <;> simp
@[simp] theorem State.useClass_sensors (c : ClassId) : (s.useClass c).sensors = s.sensors := by
  unfold State.useClass; try dsimp only
  (repeat' split) <;> simp
@[simp] theorem State.useClass_line (c : ClassId) : (s.useClass c).line = s.line := by
  unfold State.useClass; try dsimp only
  (repeat' split) <;> simp
@[simp] theorem State.useClass_plant (c : ClassId) : (s.useClass c).plant = s.plant := by
  unfold State.useClass; try dsimp only
  (repeat' split) <;> simp
@[simp] theorem State.useClass_freeCount (c : ClassId) : (s.useClass c).freeCount = s.freeCount := by
  unfold State.useClass; try dsimp only
  (repeat' split) <;> simp
@[simp] theorem State.useClass_pending (c : ClassId) : (s.useClass c).pending = s.pending := by
  unfold State.useClass; try dsimp only
  (repeat' split) <;> simp
@[simp] theorem State.useClass_bay (c : ClassId) (b' : BayId) : (s.useClass c).bay b' = s.bay b' := by
  unfold State.useClass; try dsimp only
  (repeat' split) <;> simp
@[simp] theorem State.useClass_record (c : ClassId) (j : Slot) : (s.useClass c).record j = s.record j := by
  unfold State.useClass; try dsimp only
  (repeat' split) <;> simp
@[simp] theorem State.useClass_zone (c : ClassId) (z' : ZoneId) : (s.useClass c).zone z' = s.zone z' := by
  unfold State.useClass; try dsimp only
  (repeat' split) <;> simp
@[simp] theorem State.useClass_detector (c : ClassId) (d' : DetId) : (s.useClass c).detector d' = s.detector d' := by
  unfold State.useClass; try dsimp only
  (repeat' split) <;> simp
@[simp] theorem State.useClass_running (c : ClassId) : (s.useClass c).running = s.running := by
  unfold State.useClass; try dsimp only
  (repeat' split) <;> simp
@[simp] theorem State.useClass_port (c : ClassId) (q : Port) : (s.useClass c).port q = s.port q := by
  unfold State.useClass; try dsimp only
  (repeat' split) <;> simp

end Sys2Proof.Machine
end

