-- ==== Sys2Proof/Laws/Zones.lean ====
section
/-!
SUPPORT. What the vote of a zone and the entry to ALARM do (R162, R164), and what holds do to a bay channel (R54 to R57).
-/

namespace Sys2Proof.Machine

variable (s : State)

/-! ### Holds -/

/-- A bay channel after another channel's hold. -/
theorem State.addHold_bay_other (b b' : BayId) (c : HoldCause) (h : b' ≠ b) : (s.addHold b c).bay b' = s.bay b' := by
  unfold State.addHold; dsimp only
  (repeat' split) <;> simp [State.bay_setBay, h]

/-- A hold cause joins a bound channel's set, and leaves its binding, its pack-temperature channel and its waiting writes
(R54, R55). -/
theorem State.addHold_bay_same (b : BayId) (c : HoldCause) :
    ((s.addHold b c).bay b).binding = (s.bay b).binding ∧ ((s.addHold b c).bay b).pack = (s.bay b).pack
    ∧ ((s.addHold b c).bay b).writes = (s.bay b).writes ∧ ((s.addHold b c).bay b).frac = (s.bay b).frac
    ∧ ((s.bay b).binding ≠ none → ((s.addHold b c).bay b).holds = (s.bay b).holds.put true c) := by
  unfold State.addHold; dsimp only
  (repeat' split) <;> simp_all

/-- A hold leaves every pack-temperature channel. -/
theorem State.addHold_pack (b b' : BayId) (c : HoldCause) : ((s.addHold b c).bay b').pack = (s.bay b').pack := by
  by_cases h : b' = b
  · subst h; exact (s.addHold_bay_same b' c).2.1
  · rw [s.addHold_bay_other b b' c h]

/-- A resume leaves the other channels, and its own channel's binding and pack-temperature channel. -/
theorem State.resume_bay (b b' : BayId) :
    (b' ≠ b → (s.resume b).bay b' = s.bay b') ∧ ((s.resume b).bay b').binding = (s.bay b').binding
    ∧ ((s.resume b).bay b').pack = (s.bay b').pack ∧ ((s.resume b).bay b').holds = (s.bay b').holds := by
  by_cases h : b' = b
  · subst h
    refine ⟨fun h => absurd rfl h, ?_⟩
    unfold State.resume; dsimp only
    (repeat' split) <;>
      simp [State.modBay, State.payStage, State.askStage, State.askBay, Bay.resumeReleasing, Bay.enterActive, Bay.beginRetry]
    (repeat' split) <;> simp
  · have hb : (s.resume b).bay b' = s.bay b' := by
      unfold State.resume; dsimp only
      (repeat' split) <;>
        simp [State.modBay, State.payStage, State.askStage, State.askBay, State.bay_setBay, h]
      (repeat' split) <;> simp [State.bay_setBay, h]
    rw [hb]; exact ⟨fun _ => rfl, rfl, rfl, rfl⟩

/-- A hold cause leaves a bound channel's set (R54, R56); bindings and pack-temperature channels stay. -/
theorem State.dropHold_bay (b b' : BayId) (c : HoldCause) :
    (b' ≠ b → (s.dropHold b c).bay b' = s.bay b') ∧ ((s.dropHold b c).bay b').binding = (s.bay b').binding
    ∧ ((s.dropHold b c).bay b').pack = (s.bay b').pack
    ∧ ((s.bay b).binding ≠ none → ((s.dropHold b c).bay b).holds = (s.bay b).holds.put false c) := by
  unfold State.dropHold
  cases hb : (s.bay b).binding with
  | none => simp
  | some e =>
    dsimp only
    have hx : ∀ a, (s.modBay b (fun x => { x with holds := x.holds.put false c })).bay a
        = if a = b then { s.bay b with holds := (s.bay b).holds.put false c } else s.bay a := fun a => s.bay_setBay b a _
    generalize s.modBay b (fun x => { x with holds := x.holds.put false c }) = t at hx
    obtain ⟨r1, r2, r3, r4⟩ := t.resume_bay b b'
    obtain ⟨-, -, -, q4⟩ := t.resume_bay b b
    by_cases h : b' = b
    · subst h
      split <;> simp_all
    · split <;> simp_all

/-! ### The entry to ALARM -/

/-- What holding the bays of a list does to each bay channel. -/
theorem State.holdAll_bay (c : HoldCause) (l : List BayId) (b : BayId) :
    (b ∉ l → (l.foldl (fun t a => t.addHold a c) s).bay b = s.bay b)
    ∧ ((l.foldl (fun t a => t.addHold a c) s).bay b).binding = (s.bay b).binding
    ∧ ((l.foldl (fun t a => t.addHold a c) s).bay b).pack = (s.bay b).pack
    ∧ (b ∈ l → (s.bay b).binding ≠ none →
        ((l.foldl (fun t a => t.addHold a c) s).bay b).holds = (s.bay b).holds.put true c) := by
  induction l generalizing s with
  | nil => simp
  | cons a l ih =>
    obtain ⟨h1, h2, h3, h4⟩ := ih (s.addHold a c)
    simp only [List.foldl_cons]
    by_cases hab : b = a
    · subst hab
      obtain ⟨g1, g2, _, _, g5⟩ := s.addHold_bay_same b c
      refine ⟨fun h => absurd (List.mem_cons_self) h, h2.trans g1, h3.trans g2, fun _ hb => ?_⟩
      by_cases hl : b ∈ l
      · rw [h4 hl (by rw [g1]; exact hb), g5 hb]; cases c <;> rfl
      · rw [h1 hl, g5 hb]
    · have g := s.addHold_bay_other a b c hab
      rw [g] at h1 h2 h3 h4
      refine ⟨fun h => h1 (fun hl => h (List.mem_cons_of_mem _ hl)), h2, h3, fun hm hb => ?_⟩
      rcases List.mem_cons.mp hm with hm | hm
      · exact absurd hm hab
      · exact h4 hm hb

/-- The bays of a zone (Table 8-1). -/
theorem mem_zoneBays (z : ZoneId) (b : BayId) : b ∈ zoneBays z ↔ bayZone b = z := by
  simp [zoneBays, Bank.places]

/-- The entry to ALARM leaves the other bays, and holds the bound bays of the zone (R164). -/
theorem State.enterAlarm_bay (z : ZoneId) (b : BayId) :
    (bayZone b ≠ z → (s.enterAlarm z).bay b = s.bay b)
    ∧ ((s.enterAlarm z).bay b).binding = (s.bay b).binding ∧ ((s.enterAlarm z).bay b).pack = (s.bay b).pack
    ∧ (bayZone b = z → (s.bay b).binding ≠ none →
        ((s.enterAlarm z).bay b).holds = (s.bay b).holds.put true .zoneAlarm) := by
  obtain ⟨s1, h1, h2⟩ : ∃ s1 : State, (∀ b', s1.bay b' = s.bay b')
      ∧ (s.enterAlarm z).bay b = ((zoneBays z).foldl (fun t a => t.addHold a .zoneAlarm) s1).bay b := by
    refine ⟨if (s.zone z).sweepWaiting then s
      else (s.setZone z { s.zone z with sweepWaiting := true }).askSweep z, ?_, ?_⟩
    · intro b'; split <;> simp
    · unfold State.enterAlarm; dsimp only
      split <;> simp
      all_goals ((repeat' split) <;> simp)
  have h := s1.holdAll_bay .zoneAlarm (zoneBays z) b
  rw [← h2, mem_zoneBays, h1] at h
  exact h

/-- The entry to ALARM changes of the zones only the sweep that waits (R164). -/
theorem State.enterAlarm_zone (z y : ZoneId) :
    (s.enterAlarm z).zone y = if y = z then { s.zone z with sweepWaiting := true } else s.zone y := by
  have hz := foldl_frame (fun t => t.zone y) (fun (t : State) (b : BayId) => t.addHold b .zoneAlarm) (fun t b => by simp) (zoneBays z)
  unfold State.enterAlarm; dsimp only
  by_cases hw : (s.zone z).sweepWaiting = true
  · have hs : { s.zone z with sweepWaiting := true } = s.zone z := by rw [← hw]
    have hy : (if y = z then s.zone z else s.zone y) = s.zone y := by split <;> simp_all
    rw [hs, if_pos hw, hy]; clear hs hy
    (repeat' split) <;> simp [hz]
  · (repeat' split) <;> simp_all [State.zone_setZone]

/-- Zone 6 in ALARM sends the chamber to FIRE (R128, R164). -/
theorem State.enterChamber_state (g : ChamberState) : (s.enterChamber g).chamber.state = g := by
  unfold State.enterChamber
  split
  · assumption
  · simp [State.driveChamber, Chamber.drive]

theorem State.chamberFire_state : s.chamberFire.chamber.state = .fire := by
  unfold State.chamberFire
  split
  · assumption
  · exact State.enterChamber_state _ _

theorem State.enterAlarm_fire : (s.enterAlarm 6).chamber.state = .fire := by
  unfold State.enterAlarm; dsimp only
  simp [State.chamberFire_state]

/-! ### The filter -/

/-- A valid reading in NORMAL, WARN or ALARM_LEVEL: the three runs are counted and the channel is judged (R156). -/
theorem Chan.take_judged (c : Chan) (W A Q : Int) (w : Nat) (v : Int) (h : c.state ≠ .fault) :
  let run := fun (n : Nat) (b : Bool) => if b then min 15 (n + 1) else 0
        let alarmRun := run c.alarmRun (decide (A ≤ v))
        let warnRun := run c.warnRun (decide (W ≤ v))
        let quietRun := run c.quietRun (decide (v < Q ∧ v < A))
        c.take ⟨W, A, Q⟩ w v = { { c with reading := some v, alarmRun := alarmRun, warnRun := warnRun, quietRun := quietRun} with state := match c.state with
          | .normal => if w ≤ alarmRun then .alarmLevel else if w ≤ warnRun then .warn else .normal
          | .warn => if w ≤ alarmRun then .alarmLevel else if w ≤ quietRun then .normal else .warn
          | .alarmLevel => if w ≤ quietRun then .normal else .alarmLevel
          | .fault => .fault } := by
  obtain ⟨st, rd, a1, a2, a3, gd⟩ := c
  have e : (decide (v < Q ∧ v < A)) = (decide (v < Q) && decide (v < A)) := by simp
  simp only [Chan.take, Chan.countRuns, runStep, e]
  generalize (if decide (A ≤ v) = true then min 15 (a1 + 1) else 0) = ra
  generalize (if decide (W ≤ v) = true then min 15 (a2 + 1) else 0) = rw
  generalize (if (decide (v < Q) && decide (v < A)) = true then min 15 (a3 + 1) else 0) = rq
  cases st <;> simp only [Chan.judge] <;> (repeat' split) <;> simp_all

/-- A valid reading in FAULT: the first is counted, the second in a row leaves FAULT for NORMAL and is judged (R158). -/
theorem Chan.take_fault (c : Chan) (W A Q : Int) (w : Nat) (v : Int) (h : c.state = .fault)  :
  let run := fun (n : Nat) (b : Bool) => if b then min 15 (n + 1) else 0
        let alarmRun := run c.alarmRun (decide (A ≤ v))
        let warnRun := run c.warnRun (decide (W ≤ v))
        let quietRun := run c.quietRun (decide (v < Q ∧ v < A))
        c.take ⟨W, A, Q⟩ w v = if c.good = 0 then { { c with reading := some v, alarmRun := alarmRun, warnRun := warnRun, quietRun := quietRun} with good := 1 } else
          { { c with reading := some v, alarmRun := alarmRun, warnRun := warnRun, quietRun := quietRun} with good := 0, state := if w ≤ alarmRun then .alarmLevel else if w ≤ warnRun then .warn else .normal } := by
  obtain ⟨st, rd, a1, a2, a3, gd⟩ := c
  have e : (decide (v < Q ∧ v < A)) = (decide (v < Q) && decide (v < A)) := by simp
  simp only [Chan.take, Chan.countRuns, runStep, e]
  generalize (if decide (A ≤ v) = true then min 15 (a1 + 1) else 0) = ra
  generalize (if decide (W ≤ v) = true then min 15 (a2 + 1) else 0) = rw
  generalize (if (decide (v < Q) && decide (v < A)) = true then min 15 (a3 + 1) else 0) = rq
  simp only at h; subst h
  simp only [Chan.judge] 
  (repeat' split) <;> simp_all

/-! ### Accepted sensor frames -/

/-- A repeat from an address that a channel uses is ignored (R117, R157). -/
theorem State.takeReading_repeat {r : Reading} (hu : s.usesAddress r.address = true)
    (ht : (s.sensors.get r.address).toggle = some r.toggle) : s.takeReading r = s := by
  simp [State.takeReading, hu, ht]

/-- A frame with a new toggle is kept and delivered (R157). -/
theorem State.takeReading_new {r : Reading} (ht : (s.sensors.get r.address).toggle ≠ some r.toggle) :
    s.takeReading r = (s.setSensor r.address { toggle := some r.toggle, value := some r.value }).deliver r := by
  simp [State.takeReading, ht]

/-- A frame from an address that no channel uses is kept, whatever its toggle, and does nothing else (R157). -/
theorem State.takeReading_unused {r : Reading} (hu : s.usesAddress r.address = false) :
    s.takeReading r = s.setSensor r.address { toggle := some r.toggle, value := some r.value } := by
  unfold State.usesAddress at hu
  simp only [State.takeReading, State.usesAddress, hu, Bool.false_eq_true, false_and, if_false, State.deliver]
  split at hu
  · next h =>
    rw [dif_pos h]
    simp only [State.detectorReading, State.setSensor_settings]
    simp only [Option.isSome_eq_false_iff, Option.isNone_iff_eq_none] at hu
    rw [hu]
  · next h =>
    simp only [decide_eq_false_iff_not] at hu
    rw [dif_neg h, if_neg (by omega), if_neg (by omega)]

/-! ### The vote -/

/-- A vote on channels that stand as they are settles the zone (R162). -/
theorem voteOf_twice (g : ZoneState) (cs : List ChanState) : voteOf (voteOf g cs) cs = voteOf g cs := by
  unfold voteOf
  by_cases h1 : g = .alarm <;> by_cases h2 : alarming cs = true <;> by_cases h3 : warnCount cs = 1 <;> simp [h1, h2, h3]

/-- The states of a zone's channels depend on its flame channel, the map, the detectors and the pack channels alone. -/
theorem State.channelStates_congr {s t : State} (z : ZoneId) (hf : (t.zone z).flame = (s.zone z).flame)
    (hm : t.settings.detectors = s.settings.detectors) (hd : t.detectors = s.detectors)
    (hp : ∀ b, (t.bay b).pack = (s.bay b).pack) : t.channelStates z = s.channelStates z := by
  simp only [State.channelStates, hf, hp, State.mappedTo, hm, State.detector, hd]

/-- A vote leaves every pack-temperature channel. -/
theorem State.vote_pack (z : ZoneId) (b : BayId) : ((s.vote z).bay b).pack = (s.bay b).pack := by
  unfold State.vote; dsimp only
  (repeat' split) <;> simp [(State.enterAlarm_bay _ z b).2.2.1]

/-- What a vote makes of the zones (R162, R164). -/
theorem State.vote_zone (z y : ZoneId) :
    (s.vote z).zone y = if y = z then
      { s.zone z with
        state := voteOf (s.zone z).state (s.channelStates z), degraded := degradedOf (s.channelStates z)
        sweepWaiting := (s.zone z).sweepWaiting
          || (decide (voteOf (s.zone z).state (s.channelStates z) = .alarm) && decide ((s.zone z).state ≠ .alarm)) }
      else s.zone y := by
  unfold State.vote; dsimp only
  (repeat' split) <;> simp [State.enterAlarm_zone, State.zone_setZone] <;> grind

/-- A vote leaves every channel. -/
theorem State.vote_channelStates (z y : ZoneId) : (s.vote z).channelStates y = s.channelStates y := by
  refine State.channelStates_congr y ?_ (by simp) (by simp) (fun b => s.vote_pack z b)
  rw [s.vote_zone]; split
  · next h => subst h; rfl
  · rfl

/-- After its vote a zone stands as voted. -/
theorem State.vote_voted (z : ZoneId) : (s.vote z).Voted z := by
  unfold State.Voted
  rw [s.vote_channelStates, s.vote_zone]
  simp [voteOf_twice]

end Sys2Proof.Machine
end

