-- ==== Sys2Proof/Tests/Slice0.lean ====
section
/-!
SUPPORT. Tests: ill-formed commands, steps of the worked sequences of spec/, and for each statement with hypotheses a
witness: concrete values that meet them, one for each clause.
-/

namespace Sys2Proof.Tests

open Sys2Proof Sys2Proof.Machine

set_option maxRecDepth 20000

/-! ### Small states -/

/-- What a command makes of a state. -/
def after (i : Instr) (s : State) : State :=
  match exec i s with
  | .next t => t
  | .fault _ | .refused _ => s

/-- The status and the results that a port has ready. -/
def reply (p : Port) (s : State) : Option (Status × Results) :=
  match (s.port p).inFlight with
  | some (.answered a _) => some (a.status, a.results)
  | some (.waiting _) | none => none

/-- The pack of section 4.10.1. -/
def pack : Rec :=
  { tag := 40220, origin := .line, cls := 2, cells := 96, capacity := 1500, declared := 53000, mass := 4120
    flags := { damaged := true } }

/-- The class of section 4.10.1. -/
def class2 : ClassCfg :=
  { cRate := 10, endV := 2800, safeV := 3000, permille := 50, warnT := 45, shutT := 60, restSec := 60 }

/-- Reset, with class 2 set. -/
def base : State :=
  State.reset.setSettings { State.reset.settings with classes := State.reset.settings.classes.set 2 (some class2) }

/-- One record, in slot 3. -/
def holding (r : Rec) : State :=
  ((base.setRecord 3 (some r)).setSettings { base.settings with useCount := base.settings.useCount.set 2 1 }).setTallies
    { registered := 1 }

theorem holding_only (r : Rec) {i : Slot} {q : Rec} (h : (holding r).record i = some q) : i = 3 ∧ q = r := by
  by_cases hi : i = 3
  · subst hi
    simp [holding, base, State.record, State.setTallies, State.setSettings, State.setRecord] at h
    exact ⟨rfl, h.symm⟩
  · have : (holding r).record i = State.reset.record i := by
      simp [holding, base, State.record, State.setTallies, State.setSettings, State.setRecord, Bank.get_set, hi]
    rw [this] at h
    simp [State.record, State.reset] at h

theorem holding_tags (r : Rec) : (holding r).TagsUnique := by
  intro i j q1 q2 h1 h2 _
  rw [(holding_only r h1).1, (holding_only r h2).1]

/-- The entry that names the record. -/
def named : Entry := { slot := 3, tag := 40220 }

/-- Bay 8 of section 4.10.1, bound and ACTIVE, rating 2000 and cap 12; `f` makes another bay of it. -/
def bay8 : Bay :=
  { mode := .active, binding := some named, copies := some { cls := 2, cells := 96, capacity := 1500, damaged := true }
    level := 9, softStop := false, link := .receiving, toggle := some false, periods := 1, limit := some 750
    sample := some { v := 3652, i := 702, t := 25, comparator := false, loadFault := false }, lastStage := .discharging
    pack := some {} }

/-- A state with a record and bay 8. -/
def working (r : Rec) (x : Bay) : State :=
  let s := (holding r).setBay 8 x
  s.setSettings { s.settings with bays := s.settings.bays.set 8 { rating := some 2000, cap := 12 } }

/-- The record in a bound stage of bay 8. -/
def inBay (g : Stage) : Rec := { pack with stage := g, bay := some 8 }

/-- A sample frame of bay 8 (Table 10-2). -/
def sample (toggle comparator loadFault : Bool) (v i : Nat) (t : Int) : List Byte :=
  let data := [8, BitVec.ofBool loadFault ++ BitVec.ofBool comparator ++ BitVec.ofBool toggle |>.setWidth 8]
    ++ numBytes 2 v ++ numBytes 2 i ++ numBytes 2 (intCode 2 t)
  0xC3 :: data ++ crcBytes data

/-- A sensor frame (Table 10-2). -/
def reading (address : Byte) (toggle fault : Bool) (value : Int) : List Byte :=
  let data := [address, BitVec.ofBool fault ++ BitVec.ofBool toggle |>.setWidth 8] ++ numBytes 2 (intCode 2 value)
  0xC3 :: data ++ crcBytes data

/-- The Feed Controller with the record at the gate. -/
def atGate : Feed := { queue := [named], gate := some named, gateOpen := true, gateTimer := some ⟨0, 2000⟩ }

/-- The Feed Controller with the record in the shredder. -/
def shredding : Feed :=
  { shred := some named, shredTimer := some ⟨0, 9000⟩
    path := [{ slot := 3, tag := 40220, residual := 53000, unconfirmed := false }] }

/-- The chamber INERT with both analysers fresh, throat EMPTY. -/
def inerted : Chamber :=
  { state := .inert, loaded := false, a := { value := some 150, fresh := true }, b := { value := some 160, fresh := true }
    condition := .agreed, eff := some 160, permit := true, nitrogen := true }

/-- Zone `z` in ALARM. -/
def alarmIn (s : State) (z : ZoneId) : State := s.setZone z { s.zone z with state := .alarm }

/-- An engine holds the table. -/
def engine (s : State) (e : Engine) : State := s.setAccess (.engine e)

/-- The discharged pack of section 1.9, step 3. -/
def discharged : Rec := { pack with stage := .discharged, energy := 50600, rest := some 2850 }

/-! ### Ill-formed commands -/

theorem test_every_operand_of_a_request_is_checked :
    [Instr.setAttentionMask .line 256, .setAccess .line 256 8 255 255 63 0, .setAccess .line 0 256 255 255 63 0,
      .setAccess .line 0 8 256 255 63 0, .setAccess .line 0 8 255 256 63 0, .setAccess .line 0 8 255 255 256 0,
      .setAccess .line 0 8 255 255 63 256, .register .line 281474976710656 0 1 1 0 1 0, .register .line 1 256 1 1 0 1 0,
      .register .line 1 0 256 1 0 1 0, .register .line 1 0 1 65536 0 1 0, .register .line 1 0 1 1 16777216 1 0,
      .register .line 1 0 1 1 0 65536 0, .register .line 1 0 1 1 0 1 256, .readRecord .line 256,
      .find .line 281474976710656, .scan .line 256 0, .scan .line 0 256, .amend .line 256 1 0 0,
      .amend .line 0 281474976710656 0 0, .amend .line 0 1 256 0, .amend .line 0 1 0 16777216,
      .retire .line 281474976710656, .quarantine .line 281474976710656, .liftQuarantine .plant 281474976710656,
      .confirmShred .plant 281474976710656 0, .confirmShred .plant 1 256, .assignBay .line 281474976710656 0,
      .assignBay .line 1 256, .abortBay .line 256, .setSoftStop .line 256 0, .setSoftStop .line 0 256,
      .setLevelCap .line 256 1, .setLevelCap .line 0 256, .clearFault .line 256, .readBay .line 256,
      .enqueue .line 281474976710656, .withdraw .line 281474976710656, .clearAlarm .plant 256, .readZone .line 256].all
      (fun i => !i.wf) = true := by decide

theorem test_every_operand_of_a_setting_is_checked :
    [Instr.setClass .line 256 1 1000 1001 0 0 5 10, .setClass .line 0 256 1000 1001 0 0 5 10,
      .setClass .line 0 1 65536 1001 0 0 5 10, .setClass .line 0 1 1000 65536 0 0 5 10,
      .setClass .line 0 1 1000 1001 256 0 5 10, .setClass .line 0 1 1000 1001 0 256 5 10,
      .setClass .line 0 1 1000 1001 0 0 256 10, .setClass .line 0 1 1000 1001 0 0 5 65536,
      .setBayConfig .line 256 10 1 1 32 0 0 1, .setBayConfig .line 0 65536 1 1 32 0 0 1,
      .setBayConfig .line 0 10 256 1 32 0 0 1, .setBayConfig .line 0 10 1 256 32 0 0 1,
      .setBayConfig .line 0 10 1 1 65536 0 0 1, .setBayConfig .line 0 10 1 1 32 256 0 1,
      .setBayConfig .line 0 10 1 1 32 0 256 1, .setBayConfig .line 0 10 1 1 32 0 0 256,
      .setZoneConfig .line 256 70 90 10 300 800 50 3, .setZoneConfig .line 0 32768 90 10 300 800 50 3,
      .setZoneConfig .line 0 70 (-32769) 10 300 800 50 3, .setZoneConfig .line 0 70 90 256 300 800 50 3,
      .setZoneConfig .line 0 70 90 10 65536 800 50 3, .setZoneConfig .line 0 70 90 10 300 65536 50 3,
      .setZoneConfig .line 0 70 90 10 300 800 65536 3, .setZoneConfig .line 0 70 90 10 300 800 50 256,
      .setDetectorMap .line 256 1 0 0, .setDetectorMap .line 0 256 0 0, .setDetectorMap .line 0 1 256 0,
      .setDetectorMap .line 0 1 0 256, .setChamberConfig .line 65536 400 50 30 600, .setChamberConfig .line 200 65536 50 30 600,
      .setChamberConfig .line 200 400 65536 30 600, .setChamberConfig .line 200 400 50 256 600,
      .setChamberConfig .line 200 400 50 30 65536, .setTiming .line (some 255) none none none none,
      .setTiming .line none (some 65535) none none none, .setTiming .line none none (some 255) none none,
      .setTiming .line none none none (some 255) none, .setTiming .line none none none none (some 65535),
      .readSetting .line 256 ⟨0, 0⟩, .readSetting .line 0 ⟨256, 0⟩,
      .readSetting .line 0 ⟨0, 256⟩].all (fun i => !i.wf) = true := by decide

/-- R181: an index is sent in the groups CLASS, BAY and ZONE, in its range, and is absent in the others. -/
theorem test_read_setting_takes_its_index :
    operandsOk (.readSetting .line 1 ⟨1, 11⟩) = true ∧ operandsOk (.readSetting .line 1 ⟨0, 11⟩) = false
      ∧ operandsOk (.readSetting .line 1 ⟨1, 12⟩) = false ∧ operandsOk (.readSetting .line 5 ⟨0, 0⟩) = true
      ∧ operandsOk (.readSetting .line 5 ⟨2, 0⟩) = false := by decide

/-! ### Steps of the worked sequences -/

/-- Section 1.9, step 1. -/
theorem test_register_takes_slot_0 :
    reply .line (after (.register .line 40117 2 96 1500 53000 4120 1) base) = some (.ok, .slot 0) := by decide

/-- Section 1.9, step 2, with the window at base 4, count 4: the lowest free slot of segment 4. -/
theorem test_plant_registers_in_its_window :
    reply .plant (after (.register .plant 52006 2 108 600 0 2950 0) { base with access := { base := 4, count := 4 } })
      = some (.ok, .slot 128) := by decide

/-- Section 1.9, step 3: 2,400 Wh, 2968 mV, zone 4, no position. -/
theorem test_read_record_derives_its_values :
    reply .line (after (.readRecord .line 3) (holding discharged)) = some (.ok, .record
      { slot := 3, record := discharged, residual := 2400, perCell := some 2968, zone := 4, position := none }) := by decide

/-- Section 1.9, step 4: the residual of 2,400 is within the allowance of 2,650. -/
theorem test_enqueue_within_the_allowance :
    ((after (.enqueue .line 40220) (holding discharged)).record 3).map Rec.stage = some .queued := by decide

/-- Section 2.6 at 120 ms: REGISTER under the other port's lock. -/
theorem test_register_under_the_other_lock :
    reply .line (after (.register .line 40117 2 96 1500 53000 4120 1)
      (base.setArb { base.arb with lock := some ⟨.plant, 50, 12⟩ })) = some (.locked, .empty) := by decide

/-- Section 4.10.1: two periods at 3652 and 748 add 5,463,392 units; one carry is asked for. -/
theorem test_energy_over_a_gap :
    let t := after (.sampleFrame 8 (sample true false false 3652 748 41))
      (working (inBay .discharging) { bay8 with level := 11, frac := 32000000, periods := 2 })
    (t.bay 8).frac = 1463392 ∧ (t.bay 8).writes = [.carry named] ∧ (t.bay 8).level = 11 := by decide

/-- Section 4.10.2: a voltage code of 9400 is clamped; three carries. -/
theorem test_energy_at_full_voltage :
    let t := after (.sampleFrame 8 (sample true false false 9400 2000 25))
      (working (inBay .discharging) { bay8 with frac := 30000000, periods := 5 })
    (t.bay 8).frac = 12000000 ∧ (t.bay 8).writes = [.carry named, .carry named, .carry named] := by decide

/-- Section 4.10.3, fresh b: above the limit the level falls and the hold-off of 3 periods starts. -/
theorem test_hold_off_begins :
    let t := after (.sampleFrame 8 (sample true false false 3652 771 25)) (working (inBay .discharging) bay8)
    (t.bay 8).level = 8 ∧ (t.bay 8).blanking = 2 ∧ (t.bay 8).holdOff = some 3 := by decide

/-- Section 4.10.3, the first expiry: 758 is above the limit, so the hold-off is extended. -/
theorem test_hold_off_is_extended :
    let t := after (.holdOffExpiry 8) (working (inBay .discharging)
      { bay8 with level := 8, holdOff := some 1, sample := some ⟨3652, 758, 25, false, false⟩ })
    (t.bay 8).level = 7 ∧ (t.bay 8).holdOff = some 3 ∧ (t.bay 8).extensions = 1 := by decide

/-- Section 3.7, f9: three results 1 are OPEN, and attempt 2 begins at step 1. -/
theorem test_probe_that_ends_open :
    let t := after (.sampleFrame 8 (sample true true false 3652 0 25)) (working (inBay .probing)
      { bay8 with mode := .probing, level := 0, probe := { step := 3, count := 2, results := [true, true] } })
    (t.bay 8).probe.attempt = 2 ∧ (t.bay 8).probe.step = 1 ∧ (t.bay 8).probe.last = some .opened
      ∧ (t.bay 8).sent = some ⟨.ack, 0, 1⟩ := by decide

/-- Section 3.8: the STOP line takes the bay to HELD from ACTIVE at level 0. -/
theorem test_stop_holds_the_bay :
    let t := after (.stopLineChange 8 true) (working (inBay .discharging) bay8)
    (t.bay 8).mode = .held ∧ (t.bay 8).heldFrom = some .active ∧ (t.bay 8).level = 0 := by decide

/-- Section 3.9: the loss of the link leaves the period count at the link timeout. -/
theorem test_link_loss :
    let t := after (.linkTimeout 8) (working (inBay .discharging) bay8)
    (t.bay 8).mode = .faulted ∧ (t.bay 8).periods = 5 ∧ (t.bay 8).binding = some named := by decide

/-- Section 10.10, step 4: a frame over a request in flight is counted and not answered. -/
theorem test_overrun_is_counted :
    let t := after (.readBay .line 0) (base.setPort .line { base.line with inFlight := some (.waiting (.assignBay .line 1 0)) })
    t.line.overruns = 1 ∧ t.line.inFlight = some (.waiting (.assignBay .line 1 0)) := by decide

/-- R193: the CRC of the nine digits "123456789" with this polynomial and start value is 0x29B1 (PRESUMED: the check value
usual for it, which the spec does not give). -/
theorem test_crc_of_the_digits :
    crcBytes [0x31, 0x32, 0x33, 0x34, 0x35, 0x36, 0x37, 0x38, 0x39] = [0x29, 0xB1] := by decide

/-- R181 and Table 10-4: FIND of tag 1 is length 7, code 0x12 and six bytes. -/
theorem test_find_frame :
    (encodeRequest (.find .line 1)).map (List.take 9) = some [0xA5, 7, 0x12, 0, 0, 0, 0, 0, 1] := by decide

/-- R186: a refused request is answered with length 3. -/
theorem test_refusal_has_length_3 :
    (Answer.bytes { echo := 0x11, status := .notFound, lockExpired := false, restart := true, results := .empty }).take 5
      = [0xA5, 3, 0x11, 4, 2] := by decide

/-- R181: an item of a READ_ZONE entry that may be absent has its presence byte: here a flame line with one scan taken, and a
detector whose reading of -1 °C was delivered 7 periods ago. -/
theorem test_read_zone_entries :
    ({ kind := .flame, source := 4, state := .normal, reading := none, alarmRun := 0, warnRun := 0, quietRun := 0
       age := none, scans := some (some true, none) } : ChanView).bytes = [2, 4, 0, 0, 0, 0, 0, 0, 0, 0, 0, 1, 1, 0, 0]
      ∧ ({ kind := .heat, source := 9, state := .normal, reading := some (-1), alarmRun := 1, warnRun := 2, quietRun := 0
           age := some 7, scans := none } : ChanView).bytes = [0, 9, 0, 1, 255, 255, 1, 2, 0, 1, 7, 0, 0, 0, 0] := by decide

/-- R181 and Table 3-1: a soft stop ASSERTED is sent as 0 and RELEASED as 1; R180: a rating that is none is sent absent. -/
theorem test_forms_of_the_soft_stop_and_the_rating :
    (Results.stops true false true).bytes = [0, 0, 1] ∧ (Results.stops false true true).bytes = [1, 1, 1]
      ∧ ({ rating := none, cap := 15 } : BayCfg).bytes.take 4 = [0, 0, 0, 15]
      ∧ ({ rating := some 2000, cap := 12 } : BayCfg).bytes.take 4 = [1, 7, 0xD0, 12] := by decide

/-- R183: the answer byte by byte from its second byte, and 0x00 after its seventh; 0x00 while none is ready. -/
theorem test_bytes_returned_on_the_line :
    let a : Answer := { echo := 0x11, status := .notFound, lockExpired := false, restart := true, results := .empty }
    let s := base.setPort .line { base.line with inFlight := some (.answered a false) }
    ((s.lineReturns 1 8).take 4 = [3, 0x11, 4, 2]) ∧ (s.lineReturns 1 8).drop 6 = [0, 0] ∧ base.lineReturns 0 3 = [0, 0, 0] := by
  decide

/-- Section 6.10 at 110.0 s: 195 and 262 are DISAGREE, EFF 262, and the confirm timer stops. -/
theorem test_analysers_that_disagree :
    let t := after (.sensorFrame (reading 31 true false 262)) (base.setChamber { inerted with
      state := .purging, permit := false, confirm := some 1400, purgeTimer := some 11000
      a := { value := some 195, fresh := true }, b := { value := some 190, fresh := true }, eff := some 195 })
    t.chamber.condition = .disagree ∧ t.chamber.eff = some 262 ∧ t.chamber.confirm = none
      ∧ t.chamber.state = .purging := by decide

/-- Section 6.11 at 1.0 s: B lapses; SINGLE (A), 150, HOLD, and the permit stays on. -/
theorem test_analyser_lapse_while_shredding :
    let t := after (.analyserFreshnessLapse .b) (base.setChamber { inerted with state := .shredding, loaded := true })
    t.chamber.condition = .single .a ∧ t.chamber.eff = some 150 ∧ t.chamber.state = .hold ∧ t.chamber.permit = true := by
  decide

/-- Section 7.9, step 5: the pass write adds 2,400 Wh and 412.0 kg to the admitted tallies. -/
theorem test_pass_write_counts_the_pack :
    let s := (holding { discharged with stage := .atGate }).setFeed { shredding with queue := [named], passPending := true, path := [] }
    let t := after .passWrite (engine (s.setArb { s.arb with feedWrites := [.pass named] }) .feed)
    t.tallies.residualAdmitted = 2400 ∧ t.tallies.massAdmitted = 4120 ∧ t.feed.queue = []
      ∧ (t.record 3).map Rec.stage = some .inShredder := by decide

/-- Section 7.10 at 20 s: the gate timer's expiry keeps the record in the memory with the whole window of 20 s. -/
theorem test_gate_timeout :
    let t := after .gateTimeout ((holding { discharged with stage := .atGate }).setFeed atGate)
    t.feed.gateOpen = false ∧ t.feed.faults.gateTimeout = true ∧ t.feed.memory = some ⟨3, 40220, 2000⟩ := by decide

/-- Section 8.9: the second asserted scan of FLAME6 takes the chamber to FIRE, and a sweep of zone 6 is asked for. -/
theorem test_flame_in_the_chamber :
    let s := base.setChamber { inerted with state := .shredding, loaded := true }
    let t := after (.flameScan 0x40) (s.setZone 6 { flame := { last := some true } })
    t.chamber.state = .fire ∧ t.chamber.flood = true ∧ t.arb.sweeps = [6] ∧ t.feed.block.z6 = true := by decide

/-- Section 11.5: a bound record is WAITING and INTERRUPTED after a warm start, with one watt-hour more at F 19,000,000. -/
theorem test_warm_start_reconciles_a_bound_record :
    let t := after .powerUp { working (inBay .discharging) { bay8 with frac := 19000000 } with phase := .off }
    (t.record 3).map (fun r => (r.stage, r.energy, r.flags.interrupted, r.bay)) = some (.waiting, 1, true, none)
      ∧ t.tallies.energyTotal = 1 := by decide

/-! ### Witnesses: the machine and the laws -/

theorem working_tags (r : Rec) (x : Bay) : (working r x).TagsUnique := holding_tags r

/-- Each clause, at the last period before its end and at its end. -/
theorem witness_AnEmptyQueueTakesOnePeriod :
    let s := fun (x : Bay) => working (inBay .resting) x
    let wait := fun n => { bay8 with mode := .retrying, level := 0, retry := some .overcurrent, retryWait := n }
    let c := fun (n : Nat) => base.setChamber { inerted with confirm := some n, purgeTimer := some n, a := { inerted.a with age := n } }
    let d := fun (n : Nat) => (base.setSettings { base.settings with
      detectors := base.settings.detectors.set 27 (some ⟨6, .gas⟩) }).setDetector 27 { age := n }
    let f := fun (n : Nat) => base.setFeed { gateTimer := some ⟨n, 2000⟩, shredTimer := some ⟨n, 2000⟩, memory := some ⟨3, 40220, n⟩ }
    (base.pending = [] ∧ { base with phase := .off }.running = false ∧ base.running = true ∧ base.arb.lock = none)
    ∧ (∀ n, n = 48 ∨ n = 49 → (base.setArb { base.arb with lock := some ⟨.plant, 50, n⟩ }).arb.lock = some ⟨.plant, 50, n⟩)
    ∧ ((s bay8).running = true ∧ ((s bay8).bay 8).periods < 5 ∧ (s bay8).settings.timing.link = 5
      ∧ (s { bay8 with periods := 5 }).settings.timing.link ≤ ((s { bay8 with periods := 5 }).bay 8).periods
      ∧ (base.bay 8).mode = .unconfigured ∧ ((s { bay8 with link := .lost }).bay 8).link = .lost)
    ∧ [{ bay8 with holdOff := some 1 }, { bay8 with holdOff := some 2 }, bay8, { bay8 with mode := .faulted, level := 0 }
        , { bay8 with mode := .resting, level := 0, restElapsed := 5998 }, { bay8 with mode := .resting, level := 0, restElapsed := 5999 }
        , { bay8 with mode := .resting, level := 0, releasePending := true }, wait 498, wait 499
        , { wait 0 with retry := some .overtemp }, { wait 0 with releasePending := true }].all (fun x =>
          decide (((s x).tickLink 8).bay 8 = { x with periods := 2 })) = true
    ∧ ((s bay8).bayCfg 8).retrySec * 100 = 500 ∧ class2.restSec * 100 = 6000
    ∧ ((d 98).settings.detectors.get 27 ≠ none ∧ ((d 98).detector 27).age < 99 ∧ ((d 99).detector 27).age = 99
      ∧ 100 ≤ ((d 100).detector 27).age ∧ base.settings.detectors.get 27 = none)
    ∧ (((c 98).chamber.analyser .a).fresh = true ∧ ((c 98).chamber.analyser .a).age < 99 ∧ 99 ≤ ((c 99).chamber.analyser .a).age
      ∧ (base.chamber.analyser .a).fresh = false)
    ∧ ((c 2998).chamber.confirm = some 2998 ∧ (c 59999).chamber.purgeTimer = some 59999 ∧ base.chamber.confirm = none
      ∧ base.settings.chamber.confirmSec * 100 = 3000 ∧ base.settings.chamber.purgeSec * 100 = 60000)
    ∧ ((f 1).feed.memory = some ⟨3, 40220, 1⟩ ∧ (f 2).feed.memory = some ⟨3, 40220, 2⟩ ∧ (f 1999).feed.gateTimer = some ⟨1999, 2000⟩
      ∧ (f 1998).feed.shredTimer = some ⟨1998, 2000⟩ ∧ base.feed.gateTimer = none) := by
  refine ⟨by decide, ?_, by decide, by decide, by decide, by decide, by decide, by decide, by decide, by decide⟩
  rintro n (rfl | rfl) <;> decide

theorem witness_RequestFramesReadBack :
    let i := Instr.setZoneConfig .line 6 (-32768) 32767 255 65535 65535 65535 255
    let j := Instr.setTiming .line (some 254) none (some 254) (some 254) (some 65534)
    i.wf = true ∧ i.port = some .line ∧ (encodeRequest i).isSome = true
      ∧ j.wf = true ∧ j.port = some .line ∧ (encodeRequest j).isSome = true := by decide

/-- The laws hold of a state with a record in a bay, and its step answers a next state. -/
theorem witness_of_the_laws :
    let s := working (inBay .discharging) bay8
    s.TagsUnique ∧ s.TallyLaw ∧ s.UseLaw ∧ s.LevelsLegal ∧ s.EnergyLaw ∧ s.OutputsLaw ∧ s.AttentionLaw ∧ s.ZonesVoted
      ∧ s.BindingLaw ∧ step s = .next s.tick := by
  refine ⟨working_tags _ _, ?_, ?_, ?_, ?_, ?_, ?_, ?_, ?_, rfl⟩
  · unfold State.TallyLaw; decide
  · unfold State.UseLaw; decide
  · unfold State.LevelsLegal Bay.LevelLegal; decide
  · unfold State.EnergyLaw; decide
  · unfold State.OutputsLaw; decide
  · unfold State.AttentionLaw PortState.LineFollows; decide
  · unfold State.ZonesVoted; decide
  · have other : ∀ b : BayId, b ≠ 8 → ((working (inBay .discharging) bay8).bay b).binding = none := by decide
    have writes : ∀ b, ((working (inBay .discharging) bay8).bay b).writes = [] := by decide
    refine ⟨?_, ?_, ?_, by decide, by decide, by intro k h; simp [working, holding, base, State.reset] at h, ?_⟩
    · intro b e h
      by_cases hb : b = 8
      · subst hb
        cases h
        exact ⟨inBay .discharging, by decide, rfl, rfl, rfl⟩
      · simp [other b hb] at h
    · intro i r b h hb
      obtain ⟨rfl, rfl⟩ := holding_only _ h
      cases hb
      decide
    · intro i r h
      obtain ⟨rfl, rfl⟩ := holding_only _ h
      rfl
    · intro b w h
      simp [writes b] at h

/-- The state with a record in the feed, at the stage `g`. -/
def feeding (g : Stage) (f : Feed) : State := ((holding { discharged with stage := g }).setFeed f).setChamber inerted

/-- A state in which no bay is bound and the record stands in no bay keeps the bindings. -/
theorem feeding_binds_nothing (g : Stage) (f : Feed) (hg : g.bound = false) : (feeding g f).BindingLaw := by
  have none_ : ∀ b, ((feeding g f).bay b).binding = none ∧ ((feeding g f).bay b).writes = []
      ∧ ((feeding g f).bay b).mode = .unconfigured := by
    intro b
    simp [feeding, holding, base, State.bay, State.reset]
  refine ⟨?_, ?_, ?_, ?_, ?_, ?_, ?_⟩
  · intro b e h; simp [(none_ b).1] at h
  · intro i r b h hb
    obtain ⟨rfl, rfl⟩ := holding_only _ h
    cases hb
  · intro i r h
    obtain ⟨rfl, rfl⟩ := holding_only _ h
    exact hg.symm
  · intro _ b _; exact (none_ b).1
  · intro _ b h; simp [(none_ b).2.2] at h
  · intro _ _ b; exact (none_ b).1
  · intro b w h; simp [(none_ b).2.1] at h

/-- The feed law holds with the record at the gate, and its step answers a next state; so does the law of the outputs. -/
theorem witness_TheFeedFollowsTheRecords :
    let s := feeding .atGate atGate
    s.BindingLaw ∧ s.FeedLaw ∧ s.QuarantineLaw ∧ s.feed.queue.length ≤ 8 ∧ s.OutputsLaw ∧ step s = .next s.tick := by
  refine ⟨feeding_binds_nothing _ _ rfl, ⟨?_, ?_, ?_⟩, ?_, by decide, ?_, rfl⟩
  · refine ⟨by decide, by decide, ?_, ?_, ?_⟩
    · intro e h
      have : e = named := by simpa [feeding, atGate] using h
      subst this
      exact ⟨{ discharged with stage := .atGate }, by decide, rfl, .inr rfl⟩
    · intro i r h _
      obtain ⟨rfl, rfl⟩ := holding_only _ h
      decide
    · intro i r h _
      obtain ⟨rfl, rfl⟩ := holding_only _ h
      decide
  · refine ⟨by decide, by decide, by intro x h; simp [feeding, atGate] at h, ?_⟩
    intro i r h hs
    obtain ⟨rfl, rfl⟩ := holding_only _ h
    simp at hs
  · refine ⟨?_, fun _ _ _ _ => rfl, ?_, by decide, ?_, ?_, fun _ => rfl⟩
    · intro e h
      have : named = e := by simpa [feeding, atGate] using h
      subst this
      exact ⟨{ discharged with stage := .atGate }, by decide, rfl, rfl⟩
    · intro _ w h; simp [feeding, holding, base, State.reset] at h
    · simp [feeding, holding, base, State.reset]
    · intro e r h; simp [State.recalls, feeding, atGate, holding, base, State.reset] at h
  · intro i r h hq
    obtain ⟨rfl, rfl⟩ := holding_only _ h
    cases hq
  · unfold State.OutputsLaw; decide

/-- The second law of R25, with the record in the shredder, and the latch of R163, each with a next state. -/
theorem witness_of_the_mass_law_and_the_alarm_latch :
    (let s := (feeding .inShredder shredding).setTallies { registered := 1, massAdmitted := 4120 }
     s.BindingLaw ∧ (∀ i r, s.record i = some r → r.mass ≤ 10000) ∧ s.pathMass ≤ s.tallies.massAdmitted
      ∧ s.tallies.massAdmitted + 2560000 ≤ 4294967295 ∧ s.line.waitingRequest = none ∧ s.plant.waitingRequest = none
      ∧ ¬ s.countsAnew ∧ step s = .next s.tick)
    ∧ ((alarmIn base 6).zone 6).state = .alarm ∧ step (alarmIn base 6) = .next (alarmIn base 6).tick := by
  refine ⟨⟨?_, ?_, by decide, by decide, by decide, by decide, ?_, rfl⟩, by decide, rfl⟩
  · have h := feeding_binds_nothing .inShredder shredding rfl
    exact ⟨h.bound, h.named, h.stages, h.unbound, h.faulted, h.starting, h.writes⟩
  · intro i r h
    obtain ⟨rfl, rfl⟩ := holding_only _ h
    decide
  · rintro ⟨i, rest, h, _⟩
    simp [feeding, holding, base, State.reset] at h

/-! ### Witnesses: requests in general -/

theorem witness_RequestsAreCheckedBeforeAnythingElse :
    (let i := Instr.resetTallies .plant
     i.isRequest = true ∧ i.port = some .plant ∧ base.Takes .plant ∧ portAccepts i = false)
    ∧ (let i := Instr.setLevelCap .line 11 16
       i.isRequest = true ∧ i.port = some .line ∧ base.Takes .line ∧ portAccepts i = true ∧ operandsOk i = false)
    ∧ (let s := base.setPort .line { base.line with inFlight := some (.waiting (.readTallies .line)) }
       s.takesFrame .line = true ∧ s.inFlight .line = true) := by decide

theorem witness_RequestsWaitForTheTable :
    let s := engine (base.setArb { base.arb with sweeps := [0] }) .fire
    s.Takes .line ∧ s.arb.access ≠ .parked
      ∧ (let i := Instr.readSetting .line 6 ⟨0, 255⟩
         i.isRequest = true ∧ i.port = some .line ∧ portAccepts i = true ∧ operandsOk i = true ∧ takesGrant i = true)
      ∧ (let i := Instr.readSetting .line 5 ⟨1, 255⟩
         i.isRequest = true ∧ i.port = some .line ∧ portAccepts i = true ∧ operandsOk i = true ∧ takesGrant i = false) := by
  decide

theorem witness_RecordRequestsAreCheckedInOrder :
    let s := base.setArb { base.arb with lock := some ⟨.plant, 50, 0⟩ }
    let only := { holding pack with access := { linePerm := 0xFE } }
    s.Free .line ∧ [Instr.register .line 1 7 240 5000 150000 10000 1, .amend .line 1 255 5 1, .retire .line 1,
      .quarantine .line 281474976710655, .assignBay .line 1 11, .abortBay .line 11, .enqueue .line 1, .withdraw .line 1].all
        (fun i => changesRecords i && operandsOk i && decide (i.port = some .line)) = true
      ∧ base.Free .plant ∧ base.lockedOut .plant = false ∧ (∀ k, base.record k = none)
      ∧ [Instr.amend .plant 0 40220 5 1, .retire .plant 40220, .quarantine .plant 40220, .assignBay .plant 40220 0,
          .enqueue .plant 40220, .withdraw .plant 40220].all (fun i => operandsOk i && decide (namedTag i = some 40220)) = true
      ∧ only.Free .line ∧ only.lockedOut .line = false ∧ only.record 3 = some pack ∧ only.sees .line 3 = true
      ∧ only.mayChange .line 3 = false ∧ operandsOk (.amend .line 1 255 0 7) = true := by decide

/-! ### Witnesses: custody records -/

theorem witness_ReadsReportTheRecords :
    (holding discharged).TagsUnique ∧ (holding discharged).Free .plant
      ∧ (holding discharged).record 3 = some discharged ∧ (holding discharged).sees .plant 3 = true ∧ tagOk 40220 = true
      ∧ (holding discharged).record 255 = none
      ∧ { holding discharged with access := { base := 7, count := 1 } }.sees .plant 3 = false
      ∧ tagOk 281474976710655 = true ∧ (∀ r, (holding discharged).record 3 = some r → r.tag ≠ 281474976710655)
      ∧ stageOf 8 = some .shredUnconfirmed ∧ (holding discharged).Takes .line := by
  refine ⟨holding_tags _, by decide, by decide, by decide, by decide, by decide, by decide, by decide, ?_, by decide⟩
  intro r h
  have : (holding discharged).record 3 = some discharged := by decide
  rw [this] at h
  cases h
  decide

/-- For the statements on READ_TALLIES, RESET_TALLIES and READ_SETTING of the access group. -/
theorem witness_of_free_and_waiting_reads :
    (holding discharged).Free .line ∧ (holding discharged).Free .plant
      ∧ (let s := engine base .feed
         s.Takes .plant ∧ s.Takes .line ∧ s.arb.access ≠ .parked) := by decide

theorem witness_RecordsAreRegisteredAndRetired :
    let ok := fun cls => operandsOk (.register .line 40220 cls 240 5000 150000 10000 1)
    (holding pack).Free .line ∧ ok 2 = true ∧ (holding pack).lockedOut .line = false
      ∧ (∃ i r, (holding pack).record i = some r ∧ r.tag = 40220)
      ∧ (base.Free .line ∧ ok 7 = true ∧ base.lockedOut .line = false ∧ (∀ i, base.record i = none)
          ∧ base.settings.classes.get 7 = none)
      ∧ (let s := { base with access := { linePerm := 0 } }
         s.Free .line ∧ s.settings.classes.get 2 ≠ none ∧ ∀ i, ¬ (s.record i = none ∧ s.sees .line i = true ∧ s.mayChange .line i = true))
      ∧ (let s := { base with access := { linePerm := 0x80 } }
         s.Free .line ∧ s.settings.classes.get 2 ≠ none ∧ s.record 224 = none ∧ s.sees .line 224 = true ∧ s.mayChange .line 224 = true
          ∧ ∀ j, j < 224 → ¬ (s.mayChange .line j = true)) := by
  refine ⟨by decide, by decide, by decide, ⟨3, pack, by decide, rfl⟩, by decide, by decide, by decide⟩

theorem witness_AmendGivesTheFieldItsValue :
    (holding pack).TagsUnique ∧ (holding pack).Free .line ∧ (holding pack).MayAct .line 3 pack
      ∧ [Instr.amend .line 0 40220 0 2, .amend .line 1 3 1 240, .amend .line 1 3 2 5000, .amend .line 1 3 3 150000,
          .amend .line 1 3 4 10000, .amend .line 1 3 5 1, .amend .line 1 3 0 7].all operandsOk = true
      ∧ ((holding pack).fieldMask .line).getLsbD 5 = true ∧ ((holding pack).fieldMask .plant).getLsbD 5 = false
      ∧ (holding pack).Free .plant ∧ (holding pack).MayAct .plant 3 pack
      ∧ (holding discharged).Free .line ∧ (holding discharged).MayAct .line 3 discharged
      ∧ (holding pack).settings.classes.get 2 ≠ none ∧ (holding pack).settings.classes.get 7 = none := by
  refine ⟨holding_tags _, ?_⟩
  decide

/-- The records of the statements on RETIRE, QUARANTINE, LIFT_QUARANTINE and CONFIRM_SHRED. -/
theorem witness_of_named_records :
    [pack, discharged, inBay .resting, { discharged with stage := .queued }, { discharged with stage := .atGate },
      { discharged with stage := .inShredder }, { discharged with stage := .shredUnconfirmed },
      { discharged with flags := { quarantine := true } }].all (fun r =>
        decide ((holding r).Free .line ∧ (holding r).Free .plant ∧ (holding r).MayAct .line 3 r
          ∧ (holding r).MayAct .plant 3 r ∧ tagOk r.tag = true)) = true
      ∧ ∀ r, (holding r).TagsUnique := ⟨by decide, holding_tags⟩

theorem witness_QuarantineIsSetAndLifted :
    let r := { inBay .resting with flags := { quarantine := true } }
    (holding r).TagsUnique ∧ (holding r).Free .plant ∧ (holding r).record 3 = some r
      ∧ ((alarmIn (holding r) 2).zone r.zone).state = .alarm ∧ (alarmIn (holding r) 2).Free .plant
      ∧ ((holding r).zone r.zone).state ≠ .alarm ∧ r.bay = some 8 := by
  refine ⟨holding_tags _, ?_⟩
  decide

/-! ### Witnesses: the lock and the access settings -/

theorem witness_AccessSettingsAreSetAndRead :
    base.Free .line ∧ 7 ≤ 7 ∧ 1 ≤ 1 ∧ 7 + 1 ≤ 8 ∧ 255 < 256 ∧ 63 < 64 := by decide

/-- For the statements on LOCK_TABLE, UNLOCK_TABLE and the expiry of the lock. -/
theorem witness_of_the_lock :
    let own := base.setArb { base.arb with lock := some ⟨.line, 50, 49⟩ }
    let other := base.setArb { base.arb with lock := some ⟨.plant, 50, 0⟩ }
    base.Free .line ∧ base.arb.lock = none ∧ own.Free .line ∧ own.arb.lock = some ⟨.line, 50, 49⟩
      ∧ other.Free .line ∧ other.arb.lock = some ⟨.plant, 50, 0⟩ ∧ own.running = true
      ∧ ((engine base .fire).Takes .line ∧ (engine base .fire).arb.access ≠ .parked) := by decide

theorem witness_GrantsPassOnInOrder :
    let port := fun (s : State) p i => s.setPort p { s.port p with inFlight := some (.waiting i) }
    (base.setArb { base.arb with sweeps := [6] }).arb.sweeps ≠ []
      ∧ (let s := base.setArb { base.arb with feedWrites := [.pass named] }
         s.arb.sweeps = [] ∧ s.arb.feedWrites ≠ [])
      ∧ (let s := base.setBay 11 { bay8 with writes := [.carry named] }
         s.arb.sweeps = [] ∧ s.arb.feedWrites = [] ∧ (s.bay 11).writes ≠ [] ∧ ∀ c, c < 11 → (s.bay c).writes = [])
      ∧ (let s := port (port base .plant (.readTallies .plant)) .line (.readTallies .line)
         s.NoWrites ∧ s.plant.waitingRequest = some (.readTallies .plant))
      ∧ (let s := port base .line (.readTallies .line)
         s.NoWrites ∧ s.plant.waitingRequest = none ∧ s.line.waitingRequest = some (.readTallies .line))
      ∧ (base.NoWrites ∧ base.plant.waitingRequest = none ∧ base.line.waitingRequest = none) := by decide

/-! ### Witnesses: bays -/

/-- Bay 8, IDLE with its link RECEIVING. -/
def idle8 : Bay := { mode := .idle, softStop := false, link := .receiving }

theorem witness_AssignBayBindsTheRecord :
    let s := working pack idle8
    s.TagsUnique ∧ s.Free .line ∧ s.MayAct .line 3 pack ∧ tagOk pack.tag = true
      ∧ (s.bay 8).mode = .idle ∧ (s.bay 8).link = .receiving ∧ (s.zone (bayZone 8)).state ≠ .alarm ∧ s.Voted (bayZone 8)
      ∧ (s.bay 8).pack = none ∧ (s.bayCfg 8).rating = some 2000 ∧ s.settings.classes.get 2 = some class2
      ∧ (alarmIn s 2).Free .line ∧ (alarmIn s 2).MayAct .line 3 pack ∧ ((alarmIn s 2).zone (bayZone 8)).state = .alarm
      ∧ ((working pack { idle8 with link := .lost }).bay 8).link = .lost
      ∧ (s.bay 0).mode = .unconfigured ∧ ((working pack bay8).bay 8).mode = .active
      ∧ (let r := { pack with flags := { quarantine := true } }
         (working r idle8).MayAct .line 3 r ∧ (working r idle8).Free .line)
      ∧ (let r := { pack with cls := 7 }
         (working r idle8).MayAct .line 3 r ∧ (working r idle8).settings.classes.get 7 = none)
      ∧ (working discharged idle8).MayAct .line 3 discharged := by
  refine ⟨working_tags _ _, ?_⟩
  decide

theorem witness_AbortBayEndsTheBinding :
    let s := working (inBay .discharging) { bay8 with frac := 18000000 }
    s.Free .line ∧ s.lockedOut .line = false ∧ (s.bay 8).binding = some named ∧ (s.bay 11).binding = none
      ∧ s.sees .line 3 = true ∧ s.mayChange .line 3 = true ∧ s.record 3 = some (inBay .discharging)
      ∧ (inBay .discharging).tag = named.tag ∧ s.Voted (bayZone 8)
      ∧ (let q := { s with access := { base := 1, count := 7 } }
         q.Free .plant ∧ q.lockedOut .plant = false ∧ (q.bay 8).binding = some named ∧ q.sees .plant 3 = false)
      ∧ (let q := { s with access := { linePerm := 0xFE } }
         q.Free .line ∧ q.sees .line 3 = true ∧ q.mayChange .line 3 = false)
      ∧ ((working (inBay .discharging) { bay8 with link := .lost }).Voted (bayZone 8)) := by decide

theorem witness_StopsHoldABay :
    let s := working (inBay .discharging) bay8
    let high := s.setLines { s.lines with stop := s.lines.stop.set 8 true }
    s.Takes .line ∧ s.running = true ∧ s.effectiveStop 8 = false ∧ (s.bay 8).binding ≠ none
      ∧ (s.bay 8).mode.run = some .active ∧ high.running = true ∧ high.effectiveStop 8 = true
      ∧ ((working pack idle8).bay 8).mode = .idle ∧ ((working pack idle8).bay 8).binding = none
      ∧ (let x := { bay8 with mode := .held, level := 0, heldFrom := some .active, holds := { stop := true } }
         ((working (inBay .discharging) x).bay 8).holds.zoneAlarm = false)
      ∧ (let x := { bay8 with mode := .held, level := 0, heldFrom := some .active, holds := { stop := true, quarantine := true } }
         (((working (inBay .discharging) x).bay 8).holds.zoneAlarm || ((working (inBay .discharging) x).bay 8).holds.quarantine) = true)
      := by decide

theorem witness_AHeldBayResumes :
    let held := fun from_ (x : Bay) =>
      let s := working (inBay .discharging) { x with
        mode := .held, level := 0, heldFrom := some from_, holds := { stop := true } }
      s.setLines { s.lines with stop := s.lines.stop.set 8 true }
    let meets := fun (s : State) from_ => decide (s.running = true ∧ (s.bayCfg 8).combine = .or ∧ s.lines.stop.get 8 = true
      ∧ (s.bay 8).softStop = false ∧ (s.bay 8).mode = .held ∧ (s.bay 8).heldFrom = some from_
      ∧ (s.bay 8).holds.zoneAlarm = false ∧ (s.bay 8).holds.quarantine = false ∧ (s.bay 8).binding = some named)
    [RunState.probing, .active, .resting, .retrying].all (fun g => meets (held g { bay8 with retry := some .overcurrent }) g
        && meets (held g { bay8 with stageOwed := true }) g && meets (held g { bay8 with releasePending := true }) g) = true := by
  decide

theorem witness_SetLevelCapLimitsTheLevel :
    let s := working (inBay .discharging) bay8
    s.Takes .line ∧ s.Takes .plant ∧ (s.bay 8).mode = .active ∧ (s.bay 8).level ≤ 15 ∧ 1 < (s.bay 8).level
      ∧ (s.bay 11).mode = .unconfigured ∧ ((working pack idle8).bay 8).mode = .idle := by decide

theorem witness_ClearFaultChecksAndClears :
    let faulty := fun (f : FaultRec) (x : Bay) => { x with mode := .faulted, level := 0, fault := some f }
    let meets := fun (f : FaultRec) (x : Bay) =>
      let s := working (inBay .discharging) (faulty f x)
      decide (s.Takes .line ∧ (s.bay 8).mode = .faulted ∧ (s.bay 8).fault = some f ∧ (s.bayCfg 8).rating = some 2000)
    let oc : FaultRec := { cause := .overcurrent, entered := .active, shutdown := some 60 }
    let probe : FaultRec := { cause := .probeOpen, entered := .probing }
    (working pack idle8).Takes .line ∧ ((working pack idle8).bay 8).mode ≠ .faulted
      ∧ meets oc bay8 = true ∧ meets probe bay8 = true ∧ meets oc { bay8 with stageOwed := true } = true
      ∧ meets oc { bay8 with holds := { quarantine := true } } = true
      ∧ meets probe { bay8 with holds := { quarantine := true } } = true
      ∧ meets { cause := .linkLost, entered := .idle } { bay8 with binding := none, copies := none, pack := none } = true
      ∧ meets { cause := .overcurrent, entered := .idle } { bay8 with binding := none, copies := none, pack := none } = true
      ∧ meets oc { bay8 with sample := some ⟨3652, 2500, 25, false, false⟩ } = true
      ∧ meets oc { bay8 with sample := some ⟨3652, 0, 55, false, false⟩ } = true
      ∧ meets { oc with cause := .moduleFault } { bay8 with sample := some ⟨3652, 0, 25, false, true⟩ } = true := by decide

theorem witness_ReportsChangeNothing : base.Takes .line ∧ base.Takes .plant ∧ 1 ≤ 1 := by decide

theorem witness_BayWritesAreMadeAtTheirGrants :
    let s := fun w g => engine (working (inBay g) { bay8 with writes := [w] }) (.bay 8)
    let stage : StageWrite := { entry := named, expected := .probing, new := .discharging }
    ((s (.carry named) .discharging).running = true ∧ (s (.carry named) .discharging).arb.access = .engine (.bay 8)
      ∧ ((s (.carry named) .discharging).bay 8).writes = [.carry named]
      ∧ (s (.carry named) .discharging).record 3 = some (inBay .discharging))
    ∧ ((s (.carry ⟨255, 40220⟩) .discharging).record 255 = none)
    ∧ (((s (.flag named .overtemp) .discharging).bay 8).writes = [.flag named .overtemp])
    ∧ (((s (.stage stage) .probing).bay 8).writes = [.stage stage] ∧ (s (.stage stage) .probing).record 3 = some (inBay .probing))
    ∧ ((s (.stage stage) .resting).record 3 = some (inBay .resting)) := by decide

theorem witness_UnbindingEndsTheBinding :
    let w : StageWrite := { entry := named, expected := .resting, new := .discharged, rest := some (2850, 1) }
    let s := fun g x => engine (working (inBay g) { x with writes := [.unbind w, .carry named], releasePending := true }) (.bay 8)
    (s .resting bay8).running = true ∧ (s .resting bay8).arb.access = .engine (.bay 8)
      ∧ ((s .resting bay8).bay 8).writes = [.unbind w, .carry named] ∧ ((s .resting bay8).bay 8).binding = some named
      ∧ (s .resting bay8).record 3 = some (inBay .resting)
      ∧ ((s .resting { bay8 with binding := none }).bay 8).binding ≠ some named
      ∧ (s .probing bay8).record 3 = some (inBay .probing) := by decide

/-! ### Witnesses: bay frames and times -/

theorem witness_FramesWithoutASampleAreAnswered :
    let s := working (inBay .discharging) bay8
    s.running = true ∧ (0xC3 : Byte) ∈ [(0xC3 : Byte)] ∧ readSample 8 (fromSync [0xC3]) = none
      ∧ (0xC3 : Byte) ∈ sample false false false 3652 700 25
      ∧ (readSample 8 (fromSync (sample false false false 3652 700 25))).map SampleFrame.toggle = (s.bay 8).toggle
      ∧ (s.bay 8).mode ≠ .unconfigured ∧ (base.bay 8).mode = .unconfigured := by decide

/-- The premises that the statements on fresh frames of a bound bay share. -/
def takesFresh (cfg : BayCfg) (x : Bay) (bytes : List Byte) (f : SampleFrame) : Bool :=
  let s := working (inBay .discharging) x
  let s := s.setSettings { s.settings with bays := s.settings.bays.set 8 cfg }
  decide (s.running = true ∧ readSample 8 (fromSync bytes) = some f ∧ (s.bay 8).mode ≠ .unconfigured
    ∧ (s.bay 8).toggle ≠ some f.toggle ∧ (s.bay 8).binding = some named ∧ (s.bay 8).copies = bay8.copies
    ∧ s.settings.classes.get 2 = some class2 ∧ (s.bayCfg 8).rating = some 2000)

/-- The settings of bay 8, in LATCH and in RETRY. -/
def cfg8 (mode : FaultMode) : BayCfg := { rating := some 2000, cap := 12, mode := mode }

/-- Bay 8, bound, in another state. -/
def inMode (g : BayState) : Bay := { bay8 with mode := g, level := 0 }

/-- Bay 8, unbound and FAULTED with its link LOST. -/
def lost8 : Bay :=
  { mode := .faulted, softStop := false, toggle := none, fault := some { cause := .linkLost, entered := .idle } }

/-- R109 and R114 (log entry 30): an unbound bay whose link came back before its unbinding keeps LINK_LOST through a
CLEAR_FAULT, and leaves it at a fresh frame. -/
theorem test_link_lost_ends_by_a_frame :
    let s := working pack { bay8 with mode := .faulted, binding := none, copies := none, pack := none, fault := lost8.fault }
    (s.bay 8).link = .receiving ∧ ((after (.clearFault .line 8) s).bay 8).mode = .faulted
      ∧ ((after (.sampleFrame 8 (sample true false false 3652 0 25)) s).bay 8).mode = .idle := by decide

theorem witness_FreshFramesCountEnergy :
    takesFresh (cfg8 .latch) bay8 (sample true false false 65535 65535 (-32768)) ⟨true, false, false, 65535, 65535, -32768⟩ = true
      ∧ [lost8, { lost8 with link := .receiving }].all (fun x => decide (let s := working pack x
         let f : SampleFrame := ⟨true, false, false, 3652, 2499, 25⟩
         s.running = true ∧ readSample 8 (fromSync (sample true false false 3652 2499 25)) = some f
          ∧ (s.bay 8).mode ≠ .unconfigured ∧ (s.bay 8).toggle ≠ some f.toggle ∧ (s.bay 8).binding = none
          ∧ (s.bay 8).link = x.link ∧ (s.bay 8).mode = .faulted ∧ (s.bay 8).fault = lost8.fault
          ∧ (s.bayCfg 8).rating = some 2000 ∧ f.i ≤ 2500 ∧ f.i < 2000 + 2000 / 4)) = true := by decide

/-- The frame meets the premises; each bay meets one clause: a step of the regulator, a blanked sample, a hold-off, the 64th
low sample, a settling frame, the result of step 2, and the third result, of each outcome, at each attempt and round. -/
theorem witness_FreshFramesRegulateAndProbe :
    let bytes := fun comparator v => sample true comparator false v 5 44
    let f : Bool → Nat → SampleFrame := fun comparator v => ⟨true, comparator, false, v, 5, 44⟩
    let probing := fun (p : Probe) => { inMode .probing with probe := p }
    let last := fun r1 r2 => probing { step := 3, count := 2, results := [r1, r2] }
    [bay8, { bay8 with blanking := 2, holdOff := some 3 }, { bay8 with holdOff := some 3 }, { bay8 with endCount := 63 },
      probing { count := 1 }, probing { step := 2, count := 2, results := [true] }, last false true, last false false,
      last true true, last true false, probing { step := 3, count := 2, results := [true, true], attempt := 3 },
      probing { step := 3, count := 2, results := [true, true], attempt := 3, round := 2 }].all (fun x =>
        takesFresh (cfg8 .latch) x (bytes true 3652) (f true 3652) && takesFresh (cfg8 .latch) x (bytes false 2688) (f false 2688)
          && decide (x.releasePending = false ∧ x.warning = false)) = true
      ∧ bay8.limit = some 750 ∧ 1 ≤ (cfg8 .latch).nOpen ∧ min 9000 2688 * 100 / 96 ≤ class2.endV
      ∧ ¬ (min 9000 3652 * 100 / 96 ≤ class2.endV) ∧ (44 : Int) < class2.warnT ∧ (44 : Int) < class2.shutT := by decide

/-- Each test of R101 at its first value, in each bound state, with a count below and at the limits, in LATCH and in RETRY. -/
theorem witness_FaultsAreTakenInTheirOrder :
    let frames : List (Bool × Nat × Int) := [(false, 700, -41), (false, 700, 151), (true, 700, 25), (false, 2500, 25),
      (false, 700, 60), (false, 4, 25)]
    let held := { inMode .held with heldFrom := some .retrying, retry := some .overtemp, holds := { quarantine := true } }
    let bays := [inMode .probing, bay8, { bay8 with faultCount := 2 }, { bay8 with faultCount := 3 }, { bay8 with faultCount := 4 },
      { bay8 with openCount := 31 }, inMode .resting, { inMode .retrying with retry := some .overcurrent }, held]
    frames.all (fun (l, i, t) => bays.all (fun x => [FaultMode.latch, .retry].all (fun m =>
      takesFresh (cfg8 m) x (sample true false l 3652 i t) ⟨true, false, l, 3652, i, t⟩))) = true
    ∧ (cfg8 .latch).nOpen ≤ 31 + 1 ∧ 2500 = 2000 + 2000 / 4 ∧ class2.shutT = 60
    ∧ [{ idle8 with mode := .stopped, softStop := true }, idle8].all (fun x =>
        let s := working pack x
        decide (s.running = true ∧ (s.bay 8).binding = none ∧ (s.bay 8).toggle ≠ some true ∧ (s.bayCfg 8).rating = some 2000
          ∧ ((s.bay 8).mode = .idle ∨ (s.bay 8).mode = .stopped))) = true := by decide

/-- The warning and the shutdown condition at both their ends, the open-connection count, and each retry where it ends and
where it goes on; for the channel, each of its states with the readings that move it. -/
theorem witness_SamplesAreTrackedAndRetriesEnd :
    let frames : List (Nat × Int) := [(4, 45), (5, 39), (700, 60), (5, 54), (4, 55), (700, 151)]
    let retrying := fun k n => { inMode .retrying with retry := some k, recovery := n }
    let bays := [bay8, { bay8 with warning := true, shutdown := true }, { bay8 with blanking := 1 }, { bay8 with openCount := 30 },
      retrying .overtemp 0, retrying .openConnection 30, retrying .openConnection 31, retrying .overcurrent 0, inMode .faulted]
    frames.all (fun (i, t) => bays.all (fun x =>
      takesFresh (cfg8 .retry) x (sample true false false 3652 i t) ⟨true, false, false, 3652, i, t⟩)) = true
    ∧ class2.warnT = 45 ∧ class2.shutT = 60 ∧ (cfg8 .retry).nOpen = 32
    ∧ (let s := fun c => working (inBay .discharging) { bay8 with pack := some c }
       [({} : Chan), { state := .warn, quietRun := 2 }, { state := .alarmLevel, quietRun := 2 }, { state := .fault },
        { state := .fault, good := 1 }].all (fun c =>
          decide (((s c).bay 8).pack = some c ∧ ((s c).bay 8).copies = bay8.copies
            ∧ (s c).settings.classes.get 2 = some class2)) = true)
    ∧ (idle8.pack = none) := by decide

theorem witness_BayTimesEnd :
    let s := fun x => working (inBay .resting) x
    (s bay8).running = true ∧ ((s bay8).bay 8).link = .receiving ∧ ((s bay8).bay 8).mode = .active
      ∧ (s bay8).settings.classes.get 2 = some class2 ∧ (s bay8).settings.timing.rebound = 3
      ∧ ((s { bay8 with mode := .faulted, level := 0 }).bay 8).mode = .faulted
      ∧ ((working pack idle8).bay 8).mode = .idle ∧ ((working pack idle8).bay 8).binding = none
      ∧ (let x := { bay8 with holdOff := some 1 }
         ((s x).bay 8).holdOff = some 1 ∧ ((s x).bay 8).limit = some 750 ∧ ((s x).bay 8).sample = bay8.sample)
      ∧ (let x := { bay8 with mode := .resting, level := 0, rebounds := 3 }
         ((s x).bay 8).mode = .resting ∧ ((s x).bay 8).releasePending = false ∧ ((s x).bay 8).rebounds = 3)
      ∧ min 9000 2880 * 100 / 96 ≤ class2.safeV ∧ class2.safeV < min 9000 2881 * 100 / 96
      ∧ (let x := { bay8 with mode := .retrying, level := 0, retry := some .overcurrent }
         ((s x).bay 8).mode = .retrying ∧ ((s x).bay 8).retry = some .overcurrent)
      ∧ [RunState.probing, .active, .resting, .retrying].all (fun g => [inMode g.mode, { inMode .held with heldFrom := some g }].all
          (fun y => [{ y with faultCount := 3 }, { y with faultCount := 4 }, { y with faultCount := 4, releasePending := true }].all
            (fun x => decide (((s x).bay 8).link = .receiving ∧ ((s x).bay 8).binding = some named
              ∧ ((s x).bay 8).copies = bay8.copies ∧ (((s x).bay 8).mode = g.mode
                ∨ (((s x).bay 8).mode = .held ∧ ((s x).bay 8).heldFrom = some g)))))) = true := by decide

/-! ### Witnesses: the feed and the chamber -/

theorem witness_FeedRequestsMoveTheQueue :
    let queued := { discharged with stage := .queued }
    let full := List.replicate 8 named
    (holding discharged).TagsUnique ∧ (holding discharged).Free .line ∧ (holding discharged).MayAct .line 3 discharged
      ∧ tagOk discharged.tag = true ∧ (holding discharged).settings.classes.get 2 = some class2
      ∧ discharged.rest = some 2850 ∧ 2850 * 100 / 96 ≤ class2.safeV
      ∧ discharged.declared - discharged.energy ≤ discharged.declared * class2.permille / 1000
      ∧ (holding discharged).feed.queue.length < 8
      ∧ ((holding discharged).setFeed { queue := full }).Free .line
      ∧ 8 ≤ ((holding discharged).setFeed { queue := full }).feed.queue.length
      ∧ (holding queued).MayAct .line 3 queued ∧ (holding queued).Free .line
      ∧ (let r := { discharged with flags := { quarantine := true } }
         (holding r).MayAct .line 3 r)
      ∧ (let r := { discharged with rest := none }
         (holding r).MayAct .line 3 r) := by
  refine ⟨holding_tags _, ?_⟩
  decide

/-- A state in which admission asks for the head, and its parts. -/
theorem witness_AdmissionIsAskedForWhenItsConditionsHold :
    let s := ((holding { discharged with stage := .queued }).setFeed { queue := [named], faults := { gateTimeout := true } }).setChamber
      inerted
    let s := s.setLines { s.lines with throatEmpty := true }
    s.Takes .plant ∧ s.feed.queue.head? = some named ∧ s.record 3 = some { discharged with stage := .queued }
      ∧ s.chamber.state = .inert ∧ s.lines.throatEmpty = true ∧ s.anyStage .shredUnconfirmed = false
      ∧ s.anyStage .inShredder = false ∧ s.feed.block = { z4 := false, z5 := false, z6 := false } ∧ s.feed.gate = none
      ∧ s.feed.gateOpen = false ∧ s.feed.shred = none ∧ (∀ x ∈ s.feed.path, x.unconfirmed = false)
      ∧ s.feed.admissionWaiting = false ∧ base.Takes .plant ∧ base.feed.queue.head? ≠ some named
      ∧ (let q := base.setFeed { path := [{ slot := 3, tag := 40220, residual := 0, unconfirmed := true }] }
         q.Takes .line ∧ ∃ x ∈ q.feed.path, x.unconfirmed = true) := by decide

theorem witness_FeedEventsActAtOnce :
    let gate := ((holding { discharged with stage := .atGate }).setFeed atGate).setChamber inerted
    let shred := ((holding { discharged with stage := .inShredder }).setFeed shredding).setChamber
      { inerted with state := .shredding, loaded := true }
    gate.running = true ∧ gate.feed.gate = some named ∧ gate.feed.gateTimer = some ⟨0, 2000⟩ ∧ gate.chamber.state = .inert
      ∧ shred.running = true ∧ shred.feed.shred = some named ∧ shred.feed.shredTimer = some ⟨0, 9000⟩
      ∧ shred.chamber.state = .shredding ∧ shred.feed.gate = none ∧ base.running = true ∧ base.feed.gate = none
      ∧ base.feed.shred = none ∧ base.chamber.state ≠ .inert ∧ base.chamber.state ≠ .shredding := by decide

theorem witness_FeedWritesAreMadeAtTheirGrants :
    let s := fun (w : FeedWrite) (g : Stage) =>
      let q := ((holding { discharged with stage := g }).setFeed { queue := [named] }).setChamber inerted
      engine ((q.setLines { q.lines with throatEmpty := true }).setArb { q.arb with feedWrites := [w] }) .feed
    let meets := fun (w : FeedWrite) (g : Stage) => decide ((s w g).running = true ∧ (s w g).arb.access = .engine .feed
      ∧ (s w g).arb.feedWrites = [w] ∧ (s w g).record 3 = some { discharged with stage := g })
    meets (.admission named) .queued = true ∧ (s (.admission named) .queued).feed.queue.head? = some named
      ∧ (s (.admission named) .queued).admits = true ∧ (s (.admission named) .atGate).admits = false
      ∧ meets (.pass named) .atGate = true ∧ meets (.unexpected (some named)) .queued = true
      ∧ meets (.unexpected none) .queued = true ∧ meets (.giveBack named) .atGate = true
      ∧ meets (.retirement named) .inShredder = true ∧ meets (.unconfirmed named) .inShredder = true
      ∧ [FeedWrite.pass named, .giveBack named, .retirement named, .unconfirmed named].all (fun w => meets w .discharged) = true
      := by decide

theorem witness_ChamberMovesBetweenItsStates :
    let s := fun (c : Chamber) => base.setChamber c
    let off : Chamber := { inerted with permit := false, nitrogen := false }
    let closed := fun (q : State) => q.setLines { q.lines with doorClosed := true }
    base.running = true ∧ base.Takes .line ∧ base.Takes .plant ∧ base.lines.doorClosed = false
      ∧ base.chamber.state = .doorOpen ∧ (closed (s { off with state := .sealed })).lines.doorClosed = true
      ∧ (closed (s { off with state := .sealed })).chamber.state = .sealed ∧ (s inerted).chamber.state = .inert
      ∧ (s { off with state := .purging, confirm := some 2999, purgeTimer := some 59999 }).chamber.confirm = some 2999
      ∧ (s { off with state := .hold, loaded := true, confirm := some 0 }).chamber.loaded = true
      ∧ (s { off with state := .hold, confirm := some 0 }).chamber.loaded = false
      ∧ (s { off with state := .shredding }).chamber.state = .shredding ∧ (s { off with state := .fire }).chamber.state = .fire
      := by decide

theorem witness_the_outputs_law_for_the_permit : (base.setChamber inerted).OutputsLaw := by
  unfold State.OutputsLaw
  decide

theorem witness_AnalysersGiveTheEffectiveOxygen :
    let s := base.setChamber inerted
    let lone := base.setChamber { inerted with b := { value := some 160, fresh := false } }
    s.running = true ∧ Analyser.b ≠ .a ∧ Analyser.a ≠ .b
      ∧ (readSensor (fromSync (reading 30 true false 110))).map (fun x => (x.address.1, x.fault, x.value)) = some (30, false, 110)
      ∧ (readSensor (fromSync (reading 30 true true 110))).map (fun x => (x.address.1, x.fault)) = some (30, true)
      ∧ (readSensor (fromSync (reading 31 true false 32767))).map (fun x => (x.address.1, x.value)) = some (31, 32767)
      ∧ (s.sensors.get 30).toggle ≠ some true ∧ (s.sensors.get 31).toggle ≠ some true
      ∧ ({ s with sensors := s.sensors.set 30 { toggle := some true } }.sensors.get 30).toggle = some true
      ∧ (s.chamber.analyser .b).fresh = true ∧ (s.chamber.analyser .b).value = some 160
      ∧ max 110 160 - min 110 160 ≤ s.settings.chamber.tolerance ∧ ¬ (max 109 160 - min 109 160 ≤ s.settings.chamber.tolerance)
      ∧ (lone.chamber.analyser .b).fresh = false ∧ s.chamber.state = .inert
      ∧ max 110 200 ≤ s.settings.chamber.admitLevel ∧ s.settings.chamber.admitLevel < max 110 201
      ∧ [ChamberState.purging, .hold].all (fun g => [none, some 7].all (fun n =>
          let q := base.setChamber { inerted with state := g, confirm := n }
          decide (q.running = true ∧ q.chamber.state = g ∧ (q.chamber.analyser .b).fresh = true))) = true := by decide

/-! ### Witnesses: fire zones -/

/-- Detector 9, HEAT in zone 2, with its channel. -/
def detector9 (c : Chan) (age : Nat) : State :=
  let s := base.setSettings { base.settings with detectors := base.settings.detectors.set 9 (some ⟨2, .heat⟩) }
  s.setDetector 9 { chan := c, age := age }

/-- R157: a frame with an unchanged toggle updates the value of address 28 and of an unmapped address, and not of a mapped one. -/
theorem test_unused_address_keeps_every_value :
    let s := fun (a : Fin 32) (x : State) => x.setSensor a { toggle := some true, value := some 5 }
    ((after (.sensorFrame (reading 28 true false 90)) (s 28 base)).sensors.get 28).value = some 90
      ∧ ((after (.sensorFrame (reading 9 true false 90)) (s 9 base)).sensors.get 9).value = some 90
      ∧ ((after (.sensorFrame (reading 9 true false 90)) (s 9 (detector9 {} 99))).sensors.get 9).value = some 5 := by decide

theorem witness_of_detector_frames :
    [reading 9 true false 90, reading 9 true false 401, reading 9 true false (-40), reading 9 true true 0,
      reading 27 true false 0, reading 28 true false 0, reading 29 true false 0].map (fun bytes =>
        (readSensor (fromSync bytes)).map (fun x => (x.address.1, x.fault, x.value)))
      = [some (9, false, 90), some (9, false, 401), some (9, false, -40), some (9, true, 0), some (27, false, 0),
          some (28, false, 0), some (29, false, 0)] := by decide

theorem witness_DetectorsFilterTheirReadings :
    (readSensor (fromSync (reading 9 true false 90))).map Reading.toggle = some true
      ∧ (detector9 {} 99).running = true ∧ ((detector9 {} 99).sensors.get 9).toggle ≠ some true
      ∧ (((detector9 {} 99).setSensor 9 { toggle := some true }).sensors.get 9).toggle = some true
      ∧ (readSensor (fromSync (reading 28 true false 90))).map (fun x => x.address.1) = some 28
      ∧ (readSensor (fromSync (reading 30 true false 90))).map (fun x => x.address.1) = some 30
      ∧ (detector9 {} 99).settings.detectors.get 9 = some ⟨2, .heat⟩ ∧ ((detector9 {} 99).detector 9).age < 100
      ∧ 100 ≤ ((detector9 {} 100).detector 9).age ∧ (detector9 {} 99).settings.detectors.get 27 = none
      ∧ ((detector9 { state := .fault } 0).detector 9).chan.good = 0
      ∧ 1 ≤ ((detector9 { state := .fault, good := 1 } 0).detector 9).chan.good := by decide

theorem witness_AlarmsAreEnteredAndCleared :
    let s := (working (inBay .discharging) bay8).setZone 2 { flame := { last := some true } }
    s.running = true ∧ (s.zone 2).flame.alarmLevel = false ∧ (s.zone 2).flame.last = some true
      ∧ (4 : BitVec 7).getLsbD 2 = true ∧ (s.zone 2).state ≠ .alarm ∧ bayZone 8 = 2 ∧ (s.bay 8).binding ≠ none
      ∧ s.Takes .plant ∧ (∀ g ∈ (alarmIn s 2).channelStates 2, g ≠ .warn ∧ g ≠ .alarmLevel)
      ∧ ((alarmIn s 2).zone 2).state = .alarm ∧ ((alarmIn base 4).zone 4).state = .alarm
      ∧ ((alarmIn base 5).zone 5).state = .alarm
      ∧ (let q := alarmIn (base.setChamber { inerted with state := .fire, flood := true, permit := false }) 6
         q.Takes .plant ∧ (q.zone 6).state = .alarm ∧ q.chamber.state = .fire)
      ∧ (let q := base.setZone 0 { flame := { alarmLevel := true, last := some true } }
         q.Takes .plant ∧ ¬ ∀ g ∈ q.channelStates 0, g ≠ .warn ∧ g ≠ .alarmLevel) := by decide

theorem witness_SweepsQuarantineTheirZone :
    let sweep := fun (s : State) (z : ZoneId) w => engine (s.setArb { s.arb with sweeps := [z], feedWrites := w }) .fire
    let meets := fun (s : State) (z : ZoneId) w => decide ((sweep s z w).running = true
      ∧ (sweep s z w).arb.access = .engine .fire ∧ (sweep s z w).arb.sweeps = [z] ∧ (sweep s z w).arb.feedWrites = w)
    let busy := fun (s : State) => s.setPort .line { s.line with inFlight := some (.waiting (.readTallies .line)) }
    meets (working (inBay .discharging) bay8) 2 [.pass named] = true ∧ meets (holding pack) 4 [] = true
      ∧ meets (feeding .atGate atGate) 5 [] = true ∧ meets (feeding .inShredder shredding) 6 [] = true
      ∧ meets (busy (feeding .queued { queue := [named] })) 5 [] = true
      ∧ meets (feeding .atGate { queue := [named], passPending := true }) 6 [.pass named] = true
      ∧ (feeding .atGate { queue := [named], passPending := true }).record 3 = some { discharged with stage := .atGate }
      ∧ meets (feeding .discharged { passPending := true }) 5 [.pass named] = true
      ∧ (feeding .discharged {}).record 3 = some { discharged with stage := .discharged } := by decide

/-! ### Witnesses: settings -/

theorem witness_SettingsAreSetAsAWhole :
    base.Takes .line ∧ operandsOk (.setClass .line 7 50 1000 4500 200 140 150 600) = true ∧ base.settings.useCount.get 7 = 0
      ∧ (holding pack).settings.useCount.get 2 ≠ 0
      ∧ operandsOk (.setBayConfig .line 11 2500 15 8 256 1 1 60) = true ∧ modeOf 1 = some .retry ∧ combineOf 1 = some .and
      ∧ (base.bay 11).mode = .unconfigured ∧ ((working pack idle8).bay 8).mode = .idle
      ∧ ((working (inBay .discharging) bay8).bay 8).mode = .active
      ∧ operandsOk (.setZoneConfig .line 6 (-40) 400 50 0 10000 1000 15) = true
      ∧ operandsOk (.setChamberConfig .line 1000 1500 500 120 1800) = true ∧ base.chamber.state = .doorOpen
      ∧ (base.setChamber inerted).chamber.state = .inert
      ∧ operandsOk (.setTiming .line (some 15) (some 2550) (some 7) (some 60) (some 300)) = true
      ∧ ((working (inBay .discharging) bay8).bay 8).binding ≠ none ∧ (∀ b, (base.bay b).binding = none)
      ∧ base.feed.gate = none ∧ base.feed.shred = none
      ∧ operandsOk (.setDetectorMap .line 27 1 6 1) = true ∧ kindOf 1 = some .gas
      ∧ operandsOk (.setDetectorMap .line 9 0 0 0) = true ∧ (detector9 {} 0).settings.detectors.get 9 ≠ none
      ∧ (let four := [0, 1, 2, 3].foldl (fun (s : State) (d : DetId) =>
           s.setSettings { s.settings with detectors := s.settings.detectors.set d (some ⟨6, .gas⟩) }) base
         four.Takes .line ∧ 4 ≤ ((four.mappedTo 6).filter (fun e => decide (e ≠ 27))).length) := by decide

/-! ### Witnesses: ports, supplies and starts -/

theorem witness_AttentionIsReadAndMasked :
    base.Takes .plant ∧ (BitVec.ofNat 6 63).getLsbD 5 = true ∧ base.plant.attn.restart = true
      ∧ (BitVec.ofNat 6 0).getLsbD 5 = false := by decide

theorem witness_PortFramesAreAnswered :
    let bad : List Byte := [0xA5, 33, 0x12]
    let unknown : List Byte := 0xA5 :: [1, 0xFF] ++ crcBytes [1, 0xFF]
    let ans : Answer := { echo := 1, status := .ok, lockExpired := true, restart := true, results := .empty }
    base.Takes .line ∧ base.Takes .plant ∧ readFrame .line bad = .error 0x12 ∧ readFrame .plant unknown = .unknown 0xFF
      ∧ (let s := base.setPort .line { base.line with inFlight := some (.answered ans false) }
         s.running = true ∧ s.takesFrame .line = true ∧ s.inFlight .line = true
          ∧ s.line.inFlight = some (.answered ans false))
      ∧ base.line.inFlight ≠ some (.answered ans false) ∧ base.running = true
      ∧ 1 ≤ (32 : Byte).toNat ∧ (32 : Byte).toNat ≤ 32 ∧ (List.replicate 32 (0 : Byte)).length ≤ (32 : Byte).toNat := by
  decide

theorem witness_AnswersAreSentByTheirTables :
    let v : RecView := { slot := 255, record := inBay .resting, residual := 16777215, perCell := some 9000, zone := 6, position := none }
    let ans : Answer := { echo := 1, status := .ok, lockExpired := true, restart := true, results := .empty }
    let s := base.setPort .line { base.line with inFlight := some (.answered ans false) }
    let q := base.setPort .plant { base.plant with inFlight := some (.answered ans true) }
    let c : ChanView := { kind := .heat, source := 27, state := .fault, reading := some (-100), alarmRun := 255, warnRun := 0
                          quietRun := 0, age := some 255, scans := none }
    ans.results = .empty ∧ c.source < 256 ∧ c.alarmRun < 256 ∧ c.warnRun < 256 ∧ c.quietRun < 256 ∧ c.age = some 255
      ∧ v.record.tag < 281474976710656 ∧ v.record.cells < 256 ∧ v.record.capacity < 65536
      ∧ v.record.declared < 16777216 ∧ v.record.mass < 65536 ∧ v.record.energy < 16777216 ∧ v.record.rebounds < 256
      ∧ v.residual < 16777216 ∧ v.record.rest = none ∧ v.perCell = some 9000 ∧ (base.bayCfg 0).rating = none
      ∧ (base.line.inFlight = none) ∧ s.line.inFlight = some (.answered ans false) ∧ s.line.answerDone = false
      ∧ q.plant.inFlight = some (.answered ans true) ∧ q.plant.answerDone = false := by decide

theorem witness_ALossLeavesTheRetainedState :
    base.phase ≠ .off ∧ { base with phase := .off }.phase = .off ∧ { base with phase := .inReset }.phase ≠ .running
      ∧ (Instr.status .line).isRequest = true ∧ (0xC3 : Byte) ∈ sample true false false 3652 700 25 := by decide

theorem witness_StartsComeFromTheRetainedState :
    let off := { working (inBay .resting) { bay8 with frac := 18000000, writes := [.carry named, .flag named .overtemp] } with
      phase := .off }
    let starting := fun (s : State) z => { s.setArb { s.arb with sweeps := z } with phase := .starting .warm }
    off.phase = .off ∧ off.lines.reset = false ∧ off.retention = true ∧ { off with retention := false }.retention = false
      ∧ off.record 3 = some (inBay .resting) ∧ (inBay .resting).energy ≤ 999999 ∧ off.record 255 = none
      ∧ (off.setLines { off.lines with reset := true }).lines.reset = true
      ∧ { off with phase := .inReset }.phase = .inReset
      ∧ (after .powerUp { off with retention := false }).lines = {}
      ∧ (after .powerUp off).phase = .starting .warm ∧ (after .powerUp off).arb.sweeps = []
      ∧ (starting (feeding .queued { queue := [named] }) [5]).phase = .starting .warm
      ∧ (starting (feeding .queued { queue := [named] }) [5]).arb.feedWrites = []
      ∧ ∀ i r, (starting (feeding .queued { queue := [named] }) [5]).record i = some r →
          r.stage = .waiting ∨ r.stage = .discharged ∨ r.stage = .queued ∨ r.stage = .shredUnconfirmed := by
  refine ⟨by decide, by decide, by decide, by decide, by decide, by decide, by decide, by decide, by decide, by decide,
    by decide, by decide, by decide, by decide, ?_⟩
  intro i r h
  obtain ⟨rfl, rfl⟩ := holding_only _ h
  decide

end Sys2Proof.Tests
end

section
/-!
PROOFS. The reads of the custody records and of the tallies (R9 to R12, R26): READ_RECORD, FIND, SCAN and READ_TALLIES.
A read leaves the state at its grant, so at a free table it is answered with nothing else changed.
-/

namespace Sys2Proof.Machine

/-! ### Banks read in order -/

/-- A bank's items, in ascending order of their places. -/
theorem Bank.list_eq_map_get {α : Type} {n : Nat} (b : Bank α n) : b.1 = (List.finRange n).map b.get := by
  apply List.ext_getElem
  · simp [b.2]
  · intro i h1 h2; simp [Bank.get]

/-- Counting a bank's items is counting its places. -/
theorem Bank.count_eq_length_filter {α : Type} {n : Nat} (p : α → Bool) (b : Bank α n) :
    b.count p = ((List.finRange n).filter (fun i => p (b.get i))).length := by
  rw [Bank.count, Bank.list_eq_map_get b, List.countP_map, List.countP_eq_length_filter]
  rfl

/-- The live count is the number of slots that hold a record (R2). -/
theorem State.liveCount_eq (s : State) :
    s.liveCount = ((List.finRange 256).filter (fun i => (s.record i).isSome)).length :=
  Bank.count_eq_length_filter _ _

/-! ### The derived values of R9 -/

theorem Rec.residual_eq (r : Rec) : r.residual = if r.energy < r.declared then r.declared - r.energy else 0 := by
  unfold Rec.residual; split <;> omega

/-- The queue position is the place of the first entry for the slot, counted from 1 (R136). -/
theorem State.position_eq (s : State) (i : Slot) :
    s.position i = (s.feed.queue.findIdx? (fun e => decide (e.slot = i))).map (· + 1) := by
  unfold State.position
  rw [List.findIdx?_eq_guard_findIdx_lt]
  by_cases h : s.feed.queue.findIdx (fun e => decide (e.slot = i)) < s.feed.queue.length
  · rw [if_pos h, Option.guard, if_pos (decide_eq_true h), Option.map_some]
  · rw [if_neg h, Option.guard, if_neg (by rw [decide_eq_false h]; exact Bool.false_ne_true), Option.map_none]

/-- The record as an answer gives it, with its derived values written out (R9). -/
theorem State.view_eq (s : State) (i : Slot) (r : Rec) :
    s.view i r =
      { slot := i, record := r, residual := if r.energy < r.declared then r.declared - r.energy else 0
        perCell := r.rest.map (fun v => v * 100 / r.cells), zone := r.zone
        position := if r.stage = .queued ∨ r.stage = .atGate then
          (s.feed.queue.findIdx? (fun e => decide (e.slot = i))).map (· + 1) else none } := by
  unfold State.view
  rw [r.residual_eq, s.position_eq]
  rfl

/-! ### What a port sees -/

theorem State.visible_of_sees {s : State} {p : Port} {i : Slot} (h : s.sees p i = true) :
    s.visible p i = s.record i := by
  simp [State.visible, h]

/-- A port sees no record in a FREE slot, nor in a slot outside its window (R41). -/
theorem State.visible_eq_none {s : State} {p : Port} {i : Slot} (h : s.record i = none ∨ s.sees p i = false) :
    s.visible p i = none := by
  rcases h with h | h <;> simp [State.visible, h]

/-! ### The reads at their grants -/

theorem State.grantReadRecord_seen {s : State} {p : Port} {i : Slot} {r : Rec} (hr : s.record i = some r)
    (hp : s.sees p i = true) : s.grantReadRecord p i.1 = (.ok (.record (s.view i r)), s) := by
  simp [State.grantReadRecord, State.visible_of_sees hp, State.withRecord, State.recordReply, hr]

theorem State.grantReadRecord_unseen {s : State} {p : Port} {i : Slot} (h : s.record i = none ∨ s.sees p i = false) :
    s.grantReadRecord p i.1 = (.refuse .notFound, s) := by
  simp [State.grantReadRecord, State.visible_eq_none h, State.refuse]

theorem State.grantFind_seen {s : State} {p : Port} {i : Slot} {r : Rec} (hu : s.TagsUnique) (hr : s.record i = some r)
    (hp : s.sees p i = true) : s.grantFind p r.tag = (.ok (.record (s.view i r)), s) := by
  simp [State.grantFind, s.findTag_eq hu hr, State.visible_of_sees hp, State.withRecord, State.recordReply, hr]

/-- A tag held by no record that the port sees: no live record holds it, or the one found is outside the window. -/
theorem State.grantFind_unseen {s : State} {p : Port} {tag : Nat}
    (h : ∀ i r, s.record i = some r → s.sees p i = true → r.tag ≠ tag) :
    s.grantFind p tag = (.refuse .notFound, s) := by
  unfold State.grantFind
  cases hf : s.findTag tag with
  | none => rfl
  | some i =>
    obtain ⟨r, hr, ht⟩ := s.findTag_some hf
    have hp : s.sees p i = false := Bool.eq_false_iff.mpr fun hs => h i r hr hs ht
    simp [State.visible_eq_none (.inr hp), State.refuse]

/-- A SCAN matches the slots from the start slot upward whose record the port sees in the stage (R12). -/
theorem State.scanMatches_eq (s : State) (p : Port) (g : Stage) (start : Nat) :
    s.scanMatches p g start = (List.finRange 256).filter (fun i =>
      decide (start ≤ i.1) && s.sees p i && decide ((s.record i).map Rec.stage = some g)) := by
  refine List.filter_congr fun i _ => ?_
  rw [Bool.and_assoc]
  congr 1
  cases hp : s.sees p i with
  | false => simp [State.visible, hp]
  | true => cases hr : s.record i <;> simp [State.visible, hp, hr]

/-- The matches of a SCAN do not depend on the arbiter's state. -/
theorem State.setAccess_scanMatches (s : State) (a : Access) (p : Port) (g : Stage) (start : Nat) :
    (s.setAccess a).scanMatches p g start = s.scanMatches p g start := by
  simp only [State.scanMatches, State.setAccess_visible]

/-! ### Reads on a port -/

/-- A request that its port may send with an operand out of range is refused as it arrives (checks 1 and 2 of R13). -/
theorem State.granted_badField {s : State} {p : Port} {req : Instr} (ht : s.Takes p) (ha : portAccepts req = true)
    (ho : operandsOk req = false) : s.granted p req = s.answer p req.code (.refuse .badField) := by
  simp [State.granted, State.receive, ht.1, ht.2, ha, ho]

/-- A request that leaves the state at its grant leaves, at a free table, its answer and nothing else. -/
theorem State.granted_read {s : State} {p : Port} {req : Instr} {rep : Reply} (hf : s.Free p)
    (ha : portAccepts req = true) (ho : operandsOk req = true)
    (hs : serveGrant req (s.setAccess (.port p)) = some (rep, s.setAccess (.port p))) :
    s.granted p req = s.answer p req.code rep :=
  s.granted_calm hf ha ho hs rfl rfl rfl rfl rfl rfl

theorem exec_readRecord (p : Port) (n : Nat) (s : State) :
    exec (.readRecord p n) s = .next (s.granted p (.readRecord p n)) := rfl

theorem exec_find (p : Port) (tag : Nat) (s : State) : exec (.find p tag) s = .next (s.granted p (.find p tag)) := rfl

theorem exec_scan (p : Port) (code start : Nat) (s : State) :
    exec (.scan p code start) s = .next (s.granted p (.scan p code start)) := rfl

theorem exec_readTallies (p : Port) (s : State) :
    exec (.readTallies p) s = .next (s.granted p (.readTallies p)) := rfl

theorem operandsOk_readRecord (p : Port) (i : Slot) : operandsOk (.readRecord p i.1) = true := by
  simp [operandsOk, within, Nat.le_of_lt_succ i.2]

theorem operandsOk_find {tag : Nat} (p : Port) (h : tagOk tag = true) : operandsOk (.find p tag) = true := h

theorem stageOf_eq_none {code : Nat} (h : 8 < code) : stageOf code = none := by
  obtain ⟨m, rfl⟩ := Nat.exists_eq_add_of_le' h
  rfl

/-- SCAN's operands are out of range when the stage code or the start slot is (R12). -/
theorem operandsOk_scan_eq_false {p : Port} {code start : Nat} (h : 8 < code ∨ 255 < start) :
    operandsOk (.scan p code start) = false := by
  rcases h with h | h
  · simp [operandsOk, stageOf_eq_none h]
  · simp [operandsOk, within, h]

theorem exec_readRecord_seen {s : State} {p : Port} {i : Slot} {r : Rec} (hf : s.Free p) (hr : s.record i = some r)
    (hp : s.sees p i = true) :
    exec (.readRecord p i.1) s = .next (s.answer p 0x11 (.ok (.record (s.view i r)))) := by
  rw [exec_readRecord, State.granted_read hf rfl (operandsOk_readRecord p i)
    (congrArg some (State.grantReadRecord_seen hr (by simpa using hp)))]
  rfl

theorem exec_readRecord_unseen {s : State} {p : Port} {i : Slot} (hf : s.Free p)
    (h : s.record i = none ∨ s.sees p i = false) :
    exec (.readRecord p i.1) s = .next (s.answer p 0x11 (.refuse .notFound)) := by
  rw [exec_readRecord, State.granted_read hf rfl (operandsOk_readRecord p i)
    (congrArg some (State.grantReadRecord_unseen (by simpa using h)))]
  rfl

theorem exec_find_seen {s : State} {p : Port} {i : Slot} {r : Rec} (hf : s.Free p) (hu : s.TagsUnique)
    (hr : s.record i = some r) (hp : s.sees p i = true) (ht : tagOk r.tag = true) :
    exec (.find p r.tag) s = .next (s.answer p 0x12 (.ok (.record (s.view i r)))) := by
  rw [exec_find, State.granted_read hf rfl (operandsOk_find p ht)
    (congrArg some (State.grantFind_seen (s := s.setAccess (.port p)) hu hr (by simpa using hp)))]
  rfl

theorem exec_find_unseen {s : State} {p : Port} {tag : Nat} (hf : s.Free p) (ht : tagOk tag = true)
    (h : ∀ i r, s.record i = some r → s.sees p i = true → r.tag ≠ tag) :
    exec (.find p tag) s = .next (s.answer p 0x12 (.refuse .notFound)) := by
  rw [exec_find, State.granted_read hf rfl (operandsOk_find p ht)
    (congrArg some (State.grantFind_unseen (by simpa using h)))]
  rfl

theorem exec_scan_free {s : State} {p : Port} {code start : Nat} {g : Stage} (hf : s.Free p)
    (hg : stageOf code = some g) (hstart : start ≤ 255) :
    exec (.scan p code start) s = .next (s.answer p 0x13 (.ok (.slots ((s.scanMatches p g start).take 32)
      (decide (32 < (s.scanMatches p g start).length))))) := by
  have hok : operandsOk (.scan p code start) = true := by simp [operandsOk, within, hg, hstart]
  have hserve : serveGrant (.scan p code start) (s.setAccess (.port p)) =
      some (.ok (.slots ((s.scanMatches p g start).take 32) (decide (32 < (s.scanMatches p g start).length))),
        s.setAccess (.port p)) := by
    simp only [serveGrant, State.grantScan, hg, State.setAccess_scanMatches]
  rw [exec_scan, State.granted_read hf rfl hok hserve]
  rfl

/-- Settles O21: each read's definition at its grant, carried out at a free table, and the operand check before it. -/
theorem readsReportTheRecords : Obligations.ReadsReportTheRecords := by
  intro p s
  refine ⟨fun ht => ⟨fun n hn => ?_, ?_, fun code start h => ?_⟩,
    fun hf => ⟨fun i r hr hp => ?_, fun i h => exec_readRecord_unseen hf h,
      fun tag ht h => exec_find_unseen hf ht h, fun code start g hg hstart => ?_⟩⟩
  · rw [exec_readRecord, State.granted_badField ht rfl (by simp [operandsOk, within, hn])]
    rfl
  · rw [exec_find, State.granted_badField ht rfl (by simp [operandsOk, tagOk, within])]
    rfl
  · rw [exec_scan, State.granted_badField ht rfl (operandsOk_scan_eq_false h)]
    rfl
  · rw [← s.view_eq]
    exact ⟨exec_readRecord_seen hf hr hp, fun hu ht => exec_find_seen hf hu hr hp ht⟩
  · rw [← s.scanMatches_eq]
    exact exec_scan_free hf hg hstart

/-- Settles O22: READ_TALLIES passes both first checks from either port, reads the counts at its grant and waits for one
while the arbiter is not PARKED. -/
theorem readTalliesReportsTheCounts : Obligations.ReadTalliesReportsTheCounts := by
  intro p s
  refine ⟨fun hf => ?_, fun ht hbusy => ?_, rfl⟩
  · rw [← s.liveCount_eq, exec_readTallies,
      State.granted_read (rep := .ok (.tallies s.tallies s.liveCount)) hf rfl rfl rfl]
    rfl
  · rw [exec_readTallies, s.granted_waits ht rfl rfl hbusy]

end Sys2Proof.Machine
end

section
/-!
PROOFS. The table lock (R36, R38): LOCK_TABLE and UNLOCK_TABLE at their grants, and the holder as STATUS reports it.
Each grant changes of the arbiter at most the lock, so at a free table no other access follows it.
-/

namespace Sys2Proof.Machine

section TableLock

variable {s : State} {p : Port} {l : Lock}

/-! ### Who holds the lock -/

theorem State.lockedOut_eq_false (h : ∀ l, s.arb.lock = some l → l.holder = p) : s.lockedOut p = false := by
  unfold State.lockedOut
  cases hl : s.arb.lock with
  | none => rfl
  | some l => simp [h l hl]

theorem State.lockedOut_eq_true (hl : s.arb.lock = some l) (h : l.holder ≠ p) : s.lockedOut p = true := by
  simp [State.lockedOut, hl, h]

theorem State.holdsLock_eq_true (hl : s.arb.lock = some l) (h : l.holder = p) : s.holdsLock p = true := by
  simp [State.holdsLock, hl, h]

theorem State.holdsLock_eq_false (h : ∀ l, s.arb.lock = some l → l.holder ≠ p) : s.holdsLock p = false := by
  unfold State.holdsLock
  cases hl : s.arb.lock with
  | none => rfl
  | some l => simp [h l hl]

/-! ### The grants of LOCK_TABLE and UNLOCK_TABLE -/

/-- The lock a port takes or renews: the full lock hold time lies before it, in periods of 10 ms (R36). -/
def State.freshLock (s : State) (p : Port) : Lock :=
  { holder := p, duration := s.settings.timing.lockMs / 10, elapsed := 0 }

theorem State.grantLock_open (h : s.lockedOut p = false) : s.grantLock p =
    (.ok (.lockTime s.settings.timing.lockMs), s.setArb { s.arb with lock := some (s.freshLock p) }) := by
  simp [State.grantLock, State.freshLock, h]

theorem State.grantLock_lockedOut (h : s.lockedOut p = true) : s.grantLock p = (.refuse .locked, s) := by
  simp [State.grantLock, State.refuse, h]

theorem State.grantUnlock_holder (h : s.holdsLock p = true) :
    s.grantUnlock p = (.ok .empty, s.setArb { s.arb with lock := none }) := by
  simp [State.grantUnlock, h]

theorem State.grantUnlock_other (h : s.holdsLock p = false) : s.grantUnlock p = (.refuse .notPermitted, s) := by
  simp [State.grantUnlock, State.refuse, h]

/-- What exec answers for a request whose grant sets the lock, and nothing else, at a free table. -/
theorem exec_granted_setLock {req : Instr} {rep : Reply} {lock : Option Lock} (hf : s.Free p)
    (he : exec req s = .next (s.granted p req)) (ha : portAccepts req = true) (ho : operandsOk req = true)
    (hs : serveGrant req (s.setAccess (.port p)) =
      some (rep, (s.setArb { s.arb with lock := lock }).setAccess (.port p))) :
    exec req s = .next ((s.setArb { s.arb with lock := lock }).answer p req.code rep) :=
  s.exec_granted_calm hf he ha ho hs rfl rfl rfl rfl rfl rfl

/-- What exec answers for a request whose grant refuses it, at a free table. -/
theorem exec_granted_refused {req : Instr} {st : Status} (hf : s.Free p)
    (he : exec req s = .next (s.granted p req)) (ha : portAccepts req = true) (ho : operandsOk req = true)
    (hs : serveGrant req (s.setAccess (.port p)) = some (.refuse st, s.setAccess (.port p))) :
    exec req s = .next (s.answer p req.code (.refuse st)) := by
  rw [he, State.granted_read hf ha ho hs]

/-! ### The requests on a port -/

theorem exec_lockTable (p : Port) (s : State) : exec (.lockTable p) s = .next (s.granted p (.lockTable p)) := rfl

theorem exec_unlockTable (p : Port) (s : State) : exec (.unlockTable p) s = .next (s.granted p (.unlockTable p)) := rfl

theorem exec_status (p : Port) (s : State) :
    exec (.status p) s = .next (s.served p (.status p) (fun t => t.serveStatus p)) := rfl

theorem exec_lockTable_open (hf : s.Free p) (h : s.lockedOut p = false) : exec (.lockTable p) s = .next
    ((s.setArb { s.arb with lock := some (s.freshLock p) }).answer p 0x04
      (.ok (.lockTime s.settings.timing.lockMs))) :=
  exec_granted_setLock hf (exec_lockTable p s) rfl rfl
    (congrArg some (State.grantLock_open (s := s.setAccess (.port p)) h))

theorem exec_lockTable_lockedOut (hf : s.Free p) (h : s.lockedOut p = true) :
    exec (.lockTable p) s = .next (s.answer p 0x04 (.refuse .locked)) :=
  exec_granted_refused hf (exec_lockTable p s) rfl rfl
    (congrArg some (State.grantLock_lockedOut (s := s.setAccess (.port p)) h))

theorem exec_unlockTable_holder (hf : s.Free p) (h : s.holdsLock p = true) : exec (.unlockTable p) s = .next
    ((s.setArb { s.arb with lock := none }).answer p 0x05 (.ok .empty)) :=
  exec_granted_setLock hf (exec_unlockTable p s) rfl rfl
    (congrArg some (State.grantUnlock_holder (s := s.setAccess (.port p)) h))

theorem exec_unlockTable_other (hf : s.Free p) (h : s.holdsLock p = false) :
    exec (.unlockTable p) s = .next (s.answer p 0x05 (.refuse .notPermitted)) :=
  exec_granted_refused hf (exec_unlockTable p s) rfl rfl
    (congrArg some (State.grantUnlock_other (s := s.setAccess (.port p)) h))

/-- STATUS takes no grant: it answers whatever the arbiter does, with the holder and the hold time left (R35, R191). -/
theorem exec_status_taken (ht : s.Takes p) : exec (.status p) s = .next (s.answer p 0x01 (.ok (.status s.lastStart
    (s.arb.lock.map (fun l => (l.holder, l.duration - l.elapsed))) (s.port p).overruns s.liveCount
    (s.port p).attnLine (s.port p).mask))) := by
  rw [exec_status, s.served_eq ht rfl rfl]
  rfl

end TableLock

/-- Settles O28: who holds the lock decides both grants; either request waits for its grant while the arbiter is not
PARKED, and STATUS waits for none. -/
theorem theTableLockIsTakenRenewedAndEnded : Obligations.TheTableLockIsTakenRenewedAndEnded := by
  refine ⟨fun p s => ⟨fun hf h => ?_, fun l hf hl h => ?_, fun ht hbusy => ?_, fun ht => ?_⟩,
    fun p s => ⟨fun l hf hl h => ?_, fun hf h => ?_, fun ht hbusy => ?_⟩⟩
  · exact exec_lockTable_open hf (State.lockedOut_eq_false h)
  · exact exec_lockTable_lockedOut hf (State.lockedOut_eq_true hl h)
  · rw [exec_lockTable, s.granted_waits ht rfl rfl hbusy]
  · exact exec_status_taken ht
  · exact exec_unlockTable_holder hf (State.holdsLock_eq_true hl h)
  · rw [exec_unlockTable_other hf (State.holdsLock_eq_false h), State.answer_eq]
    rfl
  · rw [exec_unlockTable, s.granted_waits ht rfl rfl hbusy]

end Sys2Proof.Machine
end

section
/-!
PROOFS. What a step does, said once: every command is a chain of moves, each a small change of the state with the facts that
hold where it is made. The laws of Safety.lean are then proved move by move.
-/

namespace Sys2Proof.Machine

/-! ### Lists -/

theorem filterMap_eq_of_mem {α β : Type} {l : List α} {f g : α → Option β} (h : ∀ a ∈ l, f a = g a) :
    l.filterMap f = l.filterMap g := by
  induction l with
  | nil => rfl
  | cons a l ih =>
    rw [List.filterMap_cons, List.filterMap_cons, h a List.mem_cons_self, ih fun b hb => h b (List.mem_cons_of_mem a hb)]

theorem filter_of_all {α : Type} {l : List α} {p : α → Bool} (h : ∀ a, p a = true) : l = l.filter p :=
  (List.filter_eq_self.mpr fun a _ => h a).symm

/-- Choices that depend on equivalent conditions. -/
theorem ite_of_iff {α : Type} {p q : Prop} [Decidable p] [Decidable q] (h : p ↔ q) (x y : α) :
    (if p then x else y) = if q then x else y := ite_congr (propext h) (fun _ => rfl) (fun _ => rfl)

/-! ### A bay channel by itself -/

/-- What BindingLaw asks of one channel of a running part: UNCONFIGURED, STOPPED and IDLE are unbound, FAULTED has a fault
state. -/
def Bay.BindOk (x : Bay) : Prop :=
  (x.mode = .unconfigured ∨ x.mode = .stopped ∨ x.mode = .idle → x.binding = none) ∧ (x.mode = .faulted → x.fault ≠ none)

/-- A change of a bay channel that keeps its binding and its pack-temperature channel, and what the laws ask of it. -/
structure Bay.Keeps (cap : Nat) (x y : Bay) : Prop where
  level : x.LevelLegal cap → y.LevelLegal cap
  ok : x.BindOk → y.BindOk
  binding : y.binding = x.binding := by rfl
  pack : y.pack = x.pack := by rfl
  frac : y.frac = x.frac ∨ (x.binding ≠ none ∧ y.frac < 36000000) := by exact Or.inl rfl
  writes : ∀ w ∈ y.writes, w ∈ x.writes ∨ w.Shaped := by exact fun _ h => Or.inl h

theorem Bay.Keeps.trans {cap : Nat} {x y z : Bay} (h : x.Keeps cap y) (k : y.Keeps cap z) : x.Keeps cap z where
  level := k.level ∘ h.level
  ok := k.ok ∘ h.ok
  binding := k.binding.trans h.binding
  pack := k.pack.trans h.pack
  frac := by
    rcases k.frac with e | e
    · rw [e]; exact h.frac
    · exact .inr (h.binding ▸ e)
  writes := fun w hw => (k.writes w hw).elim (h.writes w) .inr

/-- A change of counters, samples and link alone. -/
theorem Bay.Keeps.core {cap : Nat} {x y : Bay} (mode : y.mode = x.mode := by rfl) (binding : y.binding = x.binding := by rfl)
    (level : y.level = x.level := by rfl) (release : y.releasePending = x.releasePending := by rfl)
    (fault : y.fault = x.fault := by rfl) (pack : y.pack = x.pack := by rfl) (frac : y.frac = x.frac := by rfl)
    (writes : y.writes = x.writes := by rfl) : x.Keeps cap y where
  level := by unfold Bay.LevelLegal; rw [mode, level, release]; exact id
  ok := by unfold Bay.BindOk; rw [mode, binding, fault]; exact id
  binding := binding
  pack := pack
  frac := .inl frac
  writes := fun w h => .inl (writes ▸ h)

/-- A write joins or leaves the channel's list. -/
theorem Bay.Keeps.list {cap : Nat} {x : Bay} {l : List BayWrite} (h : ∀ w ∈ l, w ∈ x.writes ∨ w.Shaped) :
    x.Keeps cap { x with writes := l } :=
  { level := id, ok := id, writes := h }

/-! ### Moves -/

/-- The vote's result put on a zone (R162), without its reports. -/
def State.settle (s : State) (z : ZoneId) : State :=
  s.setZone z { s.zone z with state := voteOf (s.zone z).state (s.channelStates z), degraded := degradedOf (s.channelStates z) }

/-- The record of a slot when it is freed as shredded (R21, R147). -/
def State.retireShredded (s : State) (k : Slot) (r : Rec) : State :=
  ((s.freeSlot k r).countShredded).setFeed (s.feed.leavePath { slot := k, tag := r.tag })

/-- Every live record's mass lies in its range (Table 1-1). -/
def State.MassesOk (s : State) : Prop := ∀ i r, s.record i = some r → r.mass ≤ 10000

/-- What is known of a step from the state it begins in. -/
structure Cause where
  /-- The front command; none for a period end. -/
  front : Option Instr
  /-- No write of the Feed Controller waits at a PARKED arbiter. -/
  calm : Prop
  /-- Every mass is in its range. -/
  massed : Prop
  /-- A RESET_TALLIES is the front command or waits on a port. -/
  resets : Prop
  /-- A request or write that frees a slot is the front command or waits on a port. -/
  frees : Prop

/-- One move of a step that keeps the phase. -/
inductive Move (c : Cause) : State → State → Prop
  -- ports, arbiter, lines
  | port (s : State) (p : Port) (x : PortState) (ha : x.attn = (s.port p).attn) (hm : x.mask = (s.port p).mask)
      (hl : x.attnLine = (s.port p).attnLine)
      (hw : x.waitingRequest = (s.port p).waitingRequest ∨ x.waitingRequest = none) : Move c s (s.setPort p x)
  | attend (s : State) (p : Port) (f : Attn → Attn) (hr : s.running = true) :
      Move c s (s.setPort p ((s.port p).attend f))
  | mask (s : State) (p : Port) (m : BitVec 6) (hr : s.running = true) :
      Move c s (s.setPort p { s.port p with mask := m, attnLine := (s.port p).attn.asserts m })
  | access (s : State) (a : Access) (h : a = .parked → s.arb.feedWrites = []) : Move c s (s.setAccess a)
  | lock (s : State) (l : Option Lock) : Move c s (s.setArb { s.arb with lock := l })
  | sweeps (s : State) (l : List ZoneId) : Move c s (s.setArb { s.arb with sweeps := l })
  | lines (s : State) (l : Lines) (h : l.plantPermit = s.lines.plantPermit ∨ s.running = false) :
      Move c s (s.setLines l)
  | permit (s : State) (l : Lines) (hr : s.running = true) : Move c s ((s.setLines l).driveChamber)
  | free (s : State) (n : Nat) : Move c s { s with freeCount := n }
  | settings (s : State) (t : Settings) (hu : t.useCount = s.settings.useCount) (hd : t.detectors = s.settings.detectors)
      (hc : t.chamber = s.settings.chamber) (hb : ∀ b, (t.bays.get b).cap = (s.bayCfg b).cap) :
      Move c s (s.setSettings t)
  | chamberCfg (s : State) (k : ChamberCfg) (h : s.chamber.state = .doorOpen ∨ s.chamber.state = .sealed) :
      Move c s (s.setSettings { s.settings with chamber := k })
  -- bay channels
  | bay (s : State) (b : BayId) (y : Bay) (h : (s.bay b).Keeps (s.bayCfg b).cap y) : Move c s (s.setBay b y)
  | bays (s : State) (l : Bank Bay 12) (h : ∀ b, (s.bay b).Keeps (s.bayCfg b).cap (l.get b)) :
      Move c s { s with bays := l }
  | bayCfg (s : State) (b : BayId) (k : BayCfg) (y : Bay) (h1 : 1 ≤ k.cap) (h2 : k.cap ≤ 15)
      (h : y.binding = (s.bay b).binding ∧ y.pack = (s.bay b).pack ∧ y.frac = (s.bay b).frac ∧ y.writes = (s.bay b).writes)
      (hl : (s.bay b).LevelLegal (s.bayCfg b).cap → y.LevelLegal k.cap) (hk : (s.bay b).BindOk → y.BindOk) :
      Move c s ((s.setBayCfg b k).setBay b y)
  | bind (s : State) (k : Slot) (r : Rec) (b : BayId) (y : Bay) (hr : s.record k = some r) (hw : r.stage = .waiting)
      (hq : r.flags.quarantine = false) (hm : (s.bay b).mode = .idle) (hrun : s.running = true)
      (hy : y.mode = .probing ∧ y.binding = some { slot := k, tag := r.tag } ∧ y.level = 0 ∧ y.frac = 0 ∧ y.pack = some {}
        ∧ y.writes = (s.bay b).writes) :
      Move c s (((s.setRecord k (some { r with stage := .probing, bay := some b, rebounds := 0 })).setBay b y).settle
        (bayZone b))
  | release (s : State) (b : BayId) (e : Entry) (r q : Rec) (n : Nat) (y : Bay) (hb : (s.bay b).binding = some e)
      (hr : s.named e = some r) (hrun : s.running = true)
      (hq : q.tag = r.tag ∧ q.cls = r.cls ∧ q.mass = r.mass ∧ q.bay = none ∧ q.flags.quarantine = r.flags.quarantine)
      (hs : s.BindingLaw → q.stage = .waiting ∨ q.stage = .discharged)
      (hy : y.binding = none ∧ y.pack = none ∧ y.frac = 0 ∧ y.level = 0 ∧ y.releasePending = false)
      (hm : (y.mode = .faulted ∧ (y.fault ≠ none ∨ ((s.bay b).mode = .faulted ∧ y.fault = (s.bay b).fault)))
        ∨ y.mode = .stopped ∨ y.mode = .idle)
      (hw : ∀ w ∈ y.writes, w ∈ (s.bay b).writes) :
      Move c s ((((s.creditEnergy e.slot r n).setRecord e.slot (some q)).setBay b y).settle (bayZone b))
  -- fire zones
  | sweepWaiting (s : State) (z : ZoneId) (w : Bool) : Move c s (s.setZone z { s.zone z with sweepWaiting := w })
  | detector (s : State) (d : DetId) (m : MapEntry) (x : Detector) (h : s.settings.detectors.get d = some m) :
      Move c s ((s.setDetector d x).settle m.zone)
  | detectorQuiet (s : State) (d : DetId) (x : Detector)
      (h : x.chan.state = (s.detector d).chan.state ∨ s.settings.detectors.get d = none) : Move c s (s.setDetector d x)
  | pack (s : State) (b : BayId) (d : Chan) :
      Move c s ((s.modBay b (fun x => { x with pack := some d })).settle (bayZone b))
  | packQuiet (s : State) (b : BayId) (a d : Chan) (h : (s.bay b).pack = some a) (hs : d.state = a.state) :
      Move c s (s.modBay b (fun x => { x with pack := some d }))
  | flame (s : State) (z : ZoneId) (f : Flame) : Move c s ((s.setZone z { s.zone z with flame := f }).settle z)
  | flameQuiet (s : State) (z : ZoneId) (f : Flame) (h : f.state = (s.zone z).flame.state) :
      Move c s (s.setZone z { s.zone z with flame := f })
  | unmap (s : State) (d : DetId) (m : MapEntry) (h : s.settings.detectors.get d = some m) :
      Move c s ((s.setSettings { s.settings with detectors := s.settings.detectors.set d none }).settle m.zone)
  | map (s : State) (d : DetId) (m : MapEntry) (h : s.settings.detectors.get d = none) :
      Move c s (((s.setSettings { s.settings with detectors := s.settings.detectors.set d (some m) }).setDetector d
        {}).settle m.zone)
  | clear (s : State) (z : ZoneId) (hq : s.zoneQuiet z = true) (hi : c.front = some (.clearAlarm .plant z.1)) :
      Move c s (s.setZone z { s.zone z with state := .normal })
  | sensor (s : State) (a : Fin 32) (x : SensorAddr) : Move c s (s.setSensor a x)
  -- the chamber
  | chamber (s : State) (x : Chamber) (hs : x.state = s.chamber.state) (he : x.eff = s.chamber.eff)
      (hn : x.nitrogen = s.chamber.nitrogen) (hf : x.flood = s.chamber.flood) (hp : x.permit = s.chamber.permit)
      (hq : x.shredPermit = s.chamber.shredPermit) : Move c s (s.setChamber x)
  | drive (s : State) (x : Chamber) (hs : x.state = s.chamber.state) (hr : s.running = true) :
      Move c s ((s.setChamber x).driveChamber)
  | enterChamber (s : State) (new : ChamberState) (hr : s.running = true)
      (h : new = .shredding ∨ new = .purging → s.chamber.state ≠ .inert ∨ s.feed.gate = none) :
      Move c s (s.enterChamber new)
  -- the feed
  | feed (s : State) (f : Feed) (hq : f.queue = s.feed.queue) (hg : f.gate = s.feed.gate) (ho : f.gateOpen = s.feed.gateOpen)
      (hp : f.path = s.feed.path) (ha : f.admissionWaiting = s.feed.admissionWaiting)
      (hm : f.memory.map (fun m => (m.slot, m.tag)) = s.feed.memory.map (fun m => (m.slot, m.tag)) ∨ f.memory = none) :
      Move c s (s.setFeed f)
  | closeGate (s : State) : Move c s (s.setFeed s.feed.closeGate)
  | evalAdmission (s : State) : Move c s s.evalAdmission
  | askLate (s : State) (w : FeedWrite) (h : ∃ e, w = .unconfirmed e ∨ w = .retirement e) : Move c s (s.askFeed w)
  | startReturn (s : State) (e : Entry) (h : s.feed.gate = some e) :
      Move c s (((s.setFeed s.feed.closeGate).remember e).askFeed (.giveBack e))
  | pass (s : State) (e : Entry) (f : Feed) (h : s.feed.gate = some e) (hq : f.queue = s.feed.queue)
      (hg : f.gate = none) (ho : f.gateOpen = false) (hp : f.path = s.feed.path)
      (ha : f.admissionWaiting = s.feed.admissionWaiting) (hm : f.memory = s.feed.memory) :
      Move c s ((s.setFeed f).askFeed (.pass e))
  | unexpected (s : State) (f : Feed) (h : s.feed.gate = none) (hq : f.queue = s.feed.queue) (hg : f.gate = s.feed.gate)
      (ho : f.gateOpen = s.feed.gateOpen) (hp : f.path = s.feed.path)
      (ha : f.admissionWaiting = s.feed.admissionWaiting) (hm : f.memory = none) :
      Move c s ((s.setFeed f).askFeed (.unexpected (s.feed.memory.map (fun m => { slot := m.slot, tag := m.tag }))))
  | dropWrites (s : State) (l : List FeedWrite) (h : l.Sublist s.arb.feedWrites) :
      Move c s (s.setArb { s.arb with feedWrites := l })
  | popAdmission (s : State) (e : Entry) (l : List FeedWrite) (h : s.arb.feedWrites = .admission e :: l) :
      Move c s (s.popFeed.setFeed { s.feed with admissionWaiting := false })
  -- the records
  | register (s : State) (k : Slot) (p : Port) (a : ClassId) (tag cells capacity declared mass damaged : Nat)
      (hf : s.record k = none) (ht : s.findTag tag = none) :
      Move c s (((s.setRecord k (some (newRecord p tag a cells capacity declared mass damaged))).useClass a).setTallies
        { s.tallies with registered := satAdd tallyMax s.tallies.registered 1 })
  | amend (s : State) (k : Slot) (r : Rec) (f : OpField) (v : Nat) (hr : s.record k = some r) (hw : r.stage = .waiting) :
      Move c s (s.amendField k r f v)
  | retire (s : State) (k : Slot) (r : Rec) (hr : s.record k = some r) (hw : r.stage = .waiting ∨ r.stage = .discharged)
      (hc : c.frees) : Move c s ((s.freeSlot k r).setTallies { s.tallies with intact := satAdd tallyMax s.tallies.intact 1 })
  | flags (s : State) (k : Slot) (r : Rec) (f : RecFlags) (hr : s.record k = some r)
      (hq : f.quarantine = true → r.flags.quarantine = true
        ∨ (r.stage ≠ .queued ∧ r.stage ≠ .atGate ∧ r.stage ≠ .inShredder)) :
      Move c s (s.setRecord k (some { r with flags := f }))
  | credit (s : State) (k : Slot) (r : Rec) (n : Nat) (hr : s.record k = some r) : Move c s (s.creditEnergy k r n)
  | stage (s : State) (b : BayId) (w : StageWrite) (r : Rec) (hw : .stage w ∈ (s.bay b).writes)
      (hr : s.expect w.entry w.expected = some r) :
      Move c s (s.setRecord w.entry.slot (some (w.apply r)))
  | pull (s : State) (k : Slot) (r : Rec) (hr : s.record k = some r) (hw : r.stage = .queued ∨ r.stage = .atGate) :
      Move c s (s.pullFromFeed k r)
  | enqueue (s : State) (k : Slot) (r : Rec) (hr : s.record k = some r) (hw : r.stage = .discharged)
      (hq : r.flags.quarantine = false) (hl : s.feed.queue.length < 8) (hf : c.calm → s.arb.feedWrites = []) :
      Move c s (((s.setRecord k (some { r with stage := .queued })).setFeed
        { s.feed with queue := s.feed.queue ++ [{ slot := k, tag := r.tag }] }).forget { slot := k, tag := r.tag })
  | withdraw (s : State) (k : Slot) (r : Rec) (hr : s.record k = some r) (hw : r.stage = .queued) :
      Move c s (((s.setRecord k (some { r with stage := .discharged })).setFeed
        (s.feed.leave { slot := k, tag := r.tag })).forget { slot := k, tag := r.tag })
  | openGate (s : State) (e : Entry) (l : List FeedWrite) (r : Rec) (f : Feed) (hrun : s.running = true) (h : s.arb.feedWrites = .admission e :: l)
      (hr : s.expect e .queued = some r) (ha : s.admits = true) (hh : s.feed.queue.head? = some e)
      (hf : f = { s.feed with admissionWaiting := false, gate := some e, gateOpen := true, gateTimer := f.gateTimer }) :
      Move c s (((s.popFeed.setRecord e.slot (some { r.admitted with stage := .atGate })).setFeed f).forget e)
  | enterPath (s : State) (e : Entry) (r : Rec) (hw : .pass e ∈ s.arb.feedWrites) (hr : s.expect e .atGate = some r)
      (hm : c.massed → r.mass ≤ 10000) : Move c s (s.enterPath e r false)
  | takenPath (s : State) (e : Entry) (r : Rec) (hw : .unexpected (some e) ∈ s.arb.feedWrites)
      (hr : s.expect e .queued = some r) (hm : c.massed → r.mass ≤ 10000) : Move c s (s.enterPath e r true)
  | giveBack (s : State) (e : Entry) (r : Rec) (hw : .giveBack e ∈ s.arb.feedWrites) (hr : s.expect e .atGate = some r) :
      Move c s (s.setRecord e.slot (some { r.returned with stage := .queued }))
  | shredded (s : State) (k : Slot) (r : Rec) (hr : s.record k = some r)
      (hw : r.stage = .inShredder ∨ r.stage = .shredUnconfirmed) (hc : c.frees) : Move c s (s.retireShredded k r)
  | recover (s : State) (k : Slot) (r : Rec) (hr : s.record k = some r) (hw : r.stage = .shredUnconfirmed) (n : Nat) :
      Move c s (((s.setRecord k (some { r.recoveredBack with stage := .discharged })).setTallies
        { s.tallies with massAdmitted := s.tallies.massAdmitted - r.mass, residualAdmitted := n }).setFeed
          (s.feed.leavePath { slot := k, tag := r.tag }))
  | unconfirm (s : State) (k : Slot) (r : Rec) (f : RecFlags) (hr : s.record k = some r) (hw : r.stage = .inShredder) :
      Move c s ((s.setRecord k (some { r with stage := .shredUnconfirmed, flags := f })).setFeed (s.feed.unconfirmPath k))
  | tallies (s : State) (hc : c.resets) : Move c s s.grantResetTallies.2
  | window (s : State) (a : AccessSettings) : Move c s { s with access := a }

/-- The end of a start once its sweeps are made (R197). -/
def State.completeStart (s : State) (kind : StartKind) : State :=
  let s1 := s.stopMain.startBays
  let s2 := { s1 with
    phase := .running, retention := true, lastStart := kind, line := s1.line.started, plant := s1.plant.started
    feed := { s1.feed with block := s1.startBlock } }
  (s2.setChamber { state := s2.startChamber, loaded := !s2.lines.throatEmpty }).driveChamber

theorem State.endStart_eq (s : State) (kind : StartKind) : s.endStart kind = s.remainingSweeps.completeStart kind := rfl

/-- The move that ends a step: a request that begins to wait, or a change of phase. -/
inductive Last (c : Cause) : State → State → Prop
  | wait (s : State) (p : Port) (req : Instr) :
      Last c s (s.setPort p { s.port p with inFlight := some (.waiting req) })
  | stop (s : State) (ph : Phase) (h : ph = .off ∨ ph = .inReset) : Last c s { s.stopMain with phase := ph }
  | offReset (s : State) (h : s.phase = .off) : Last c s { s with phase := .inReset }
  | retention (s : State) (v : Bool) : Last c s { s with retention := v }
  | warm (s : State) (h : s.phase = .off ∨ s.phase = .inReset) :
      Last c s { s.stopMain.reconcile with phase := .starting .warm }
  | cold (s : State) (hi : c.front = some .powerUp ∨ c.front = some .resetRelease) (hr : s.retention = false) :
      Last c s { s.stopMain.coldValues with phase := .starting .cold }
  | finish (s : State) (k : StartKind) (h : s.phase = .starting k) : Last c s (s.completeStart k)

/-- A chain of moves. -/
inductive Moves (c : Cause) : State → State → Prop
  | refl {s : State} : Moves c s s
  | tail {s t u : State} (h : Moves c s t) (k : Move c t u) : Moves c s u

end Sys2Proof.Machine
end

section
/-!
PROOFS. The shared operations as chains of moves: attention, waiting writes, admission, holds and the vote.
-/

namespace Sys2Proof.Machine

variable {c : Cause} {s t : State}

/-! ### The phase stays -/

theorem State.pullFromFeed_phase (s : State) (k : Slot) (r : Rec) : (s.pullFromFeed k r).phase = s.phase := by
  unfold State.pullFromFeed; dsimp only; split <;> simp

theorem State.amendField_phase (s : State) (k : Slot) (r : Rec) (f : OpField) (v : Nat) :
    (s.amendField k r f v).phase = s.phase := by
  unfold State.amendField
  split
  · split <;> simp
  all_goals simp

theorem Move.phase (h : Move c s t) : t.phase = s.phase := by
  cases h
  case pull => exact State.pullFromFeed_phase ..
  case amend => exact State.amendField_phase ..
  case port | attend | mask => simp
  case openGate => simp [State.popFeed]
  case enterChamber | evalAdmission | askLate | startReturn | pass | unexpected | enqueue | withdraw => simp
  all_goals rfl

theorem Moves.phase (h : Moves c s t) : t.phase = s.phase := by
  induction h with
  | refl => rfl
  | tail _ k ih => rw [k.phase, ih]

theorem Moves.running (h : Moves c s t) : t.running = s.running := by
  simp [State.running, h.phase]

theorem Moves.one (h : Move c s t) : Moves c s t := .tail .refl h

theorem Moves.trans {u : State} (h : Moves c s t) (k : Moves c t u) : Moves c s u := by
  induction k with
  | refl => exact h
  | tail _ k ih => exact ih.tail k

theorem Moves.of_eq (h : t = s) : Moves c s t := h ▸ .refl

theorem Moves.ite {p : Prop} [Decidable p] {a b : State} (ha : p → Moves c s a) (hb : ¬ p → Moves c s b) :
    Moves c s (if p then a else b) := by
  split
  · next h => exact ha h
  · next h => exact hb h

/-! ### Attention -/

theorem Moves.raisePort (p : Port) (f : Attn → Attn) : Moves c s (s.raisePort p f) := by
  unfold State.raisePort
  split
  · next hr => exact .one (.attend s p f hr)
  · exact .refl

theorem Moves.raise (f : Attn → Attn) : Moves c s (s.raise f) := (Moves.raisePort .line f).trans (Moves.raisePort .plant f)

/-! ### Bay channels -/

theorem Moves.bay {b : BayId} {y : Bay} (h : (s.bay b).Keeps (s.bayCfg b).cap y) : Moves c s (s.setBay b y) :=
  .one (.bay s b y h)

theorem Moves.modBay {b : BayId} {f : Bay → Bay} (h : (s.bay b).Keeps (s.bayCfg b).cap (f (s.bay b))) :
    Moves c s (s.modBay b f) := .one (.bay s b _ h)

@[simp] theorem State.modBay_bay_same (s : State) (b : BayId) (f : Bay → Bay) : (s.modBay b f).bay b = f (s.bay b) := by
  simp [State.modBay]

theorem Moves.wake (e : Engine) : Moves c s (s.wake e) := by
  rw [State.wake_eq]
  split
  · exact .one (.access s _ (fun h => by cases h))
  · exact .refl

/-- A bay channel asks for a write that the law of the bindings allows. -/
theorem Moves.askBay (b : BayId) {w : BayWrite} (h : w.Shaped) : Moves c s (s.askBay b w) := by
  refine (Moves.modBay (.list fun v hv => ?_)).trans (Moves.wake _)
  rcases List.mem_append.mp hv with hv | hv
  · exact .inl hv
  · exact .inr (List.mem_singleton.mp hv ▸ h)

theorem Moves.askCarries (b : BayId) (e : Entry) (n : Nat) : Moves c s (s.askCarries b e n) := by
  have hlist : ∀ m, Moves c s
      ((s.modBay b (fun x => { x with writes := x.writes ++ List.replicate m (.carry e) })).wake (.bay b)) := fun m => by
    refine (Moves.modBay (.list fun v hv => ?_)).trans (Moves.wake _)
    rcases List.mem_append.mp hv with hv | hv
    · exact .inl hv
    · exact .inr (by rw [(List.mem_replicate.mp hv).2]; trivial)
  unfold State.askCarries
  dsimp only
  have hs : Moves c s (if min n (countMax - (s.bay b).waitingCarries) = 0 then s else
      (s.modBay b (fun x => { x with
        writes := x.writes ++ List.replicate (min n (countMax - (s.bay b).waitingCarries)) (.carry e) })).wake (.bay b)) := by
    split
    · exact .refl
    · exact hlist _
  split
  · exact hs.trans (Moves.raise _)
  · exact hs

theorem Moves.askFlag (b : BayId) (f : HazardFlag) : Moves c s (s.askFlag b f) := by
  unfold State.askFlag
  split
  · exact Moves.askBay b trivial
  · exact .refl

/-- A stage change between bound stages asked for. -/
theorem Moves.askStage (b : BayId) {g h : Stage} (r : Option (Nat × Nat)) (hg : g.bound = true) (hh : h.bound = true) :
    Moves c s (s.askStage b g h r) := by
  unfold State.askStage
  split
  · exact (Moves.modBay .core).trans (Moves.askBay b ⟨hg, hh⟩)
  · exact .refl

/-- The stage change that ends the binding asked for. -/
theorem Moves.askUnbind (b : BayId) {g h : Stage} (r : Option (Nat × Nat)) (l : Bool) (hh : h = .waiting ∨ h = .discharged) :
    Moves c s (s.askUnbind b g h r l) := by
  unfold State.askUnbind
  split
  · refine (Moves.modBay { level := fun k => ?_, ok := id }).trans (Moves.askBay b hh)
    exact ⟨fun _ _ => rfl, fun _ => Nat.zero_le _, fun _ => Nat.zero_le _, fun _ => rfl, k.2.2.2.2⟩
  · exact .refl

theorem Moves.computeLimit (b : BayId) : Moves c s (s.computeLimit b) := by
  unfold State.computeLimit
  split
  · exact Moves.modBay .core
  · exact .refl

/-! ### Levels -/

/-- A level of 0 is legal in every state (R50). -/
theorem Bay.LevelLegal.zero {cap : Nat} {x y : Bay} (h : x.LevelLegal cap) (hy : y.level = 0) : y.LevelLegal cap :=
  ⟨fun _ _ => hy, fun _ => hy ▸ Nat.zero_le _, fun _ => hy ▸ Nat.zero_le _, fun _ => hy, h.2.2.2.2⟩

/-- Outside ACTIVE and RETRYING the level is 0. -/
theorem Bay.LevelLegal.eq_zero {cap : Nat} {x : Bay} (h : x.LevelLegal cap) (ha : x.mode ≠ .active)
    (hr : x.mode ≠ .retrying) : x.level = 0 := h.1 ha hr

/-- Level 1 is legal in ACTIVE and in RETRYING while no release is pending. -/
theorem Bay.LevelLegal.one {cap : Nat} {x y : Bay} (h : x.LevelLegal cap) (hy : y.level ≤ 1)
    (hm : y.mode = .active ∨ y.mode = .retrying) (hr : y.releasePending = false) : y.LevelLegal cap := by
  obtain ⟨-, -, -, -, h1, h2⟩ := h
  refine ⟨fun ha hb => ?_, fun _ => hy, fun _ => by omega, fun h => ?_, h1, h2⟩
  · rcases hm with hm | hm
    · exact absurd hm ha
    · exact absurd hm hb
  · rw [hr] at h; cases h

/-- A bound state other than FAULTED asks nothing of the binding (Table 3-2). -/
theorem Bay.BindOk.of_mode {y : Bay} (h : y.mode ≠ .unconfigured ∧ y.mode ≠ .stopped ∧ y.mode ≠ .idle ∧ y.mode ≠ .faulted) :
    y.BindOk := by
  obtain ⟨h1, h2, h3, h4⟩ := h
  exact ⟨fun hm => by rcases hm with hm | hm | hm <;> contradiction, fun hm => absurd hm h4⟩

theorem RunState.mode_bound (r : RunState) :
    r.mode ≠ .unconfigured ∧ r.mode ≠ .stopped ∧ r.mode ≠ .idle ∧ r.mode ≠ .faulted := by
  cases r <;> simp [RunState.mode]

/-- The channel enters ACTIVE with no release pending. -/
theorem Bay.Keeps.enterActive {cap : Nat} {x y : Bay} (hr : y.releasePending = false) (hm : y.mode = .active := by rfl)
    (hl : y.level = 1 := by rfl) (binding : y.binding = x.binding := by rfl) (pack : y.pack = x.pack := by rfl)
    (frac : y.frac = x.frac := by rfl) (writes : y.writes = x.writes := by rfl) : x.Keeps cap y where
  level h := h.one (Nat.le_of_eq hl) (.inl hm) hr
  ok _ := .of_mode (by simp [hm])
  binding := binding
  pack := pack
  frac := .inl frac
  writes := fun w h => .inl (writes ▸ h)

/-! ### Hold and resume -/

theorem Moves.payStage (b : BayId) : Moves c s (s.payStage b) := by
  unfold State.payStage
  split
  · exact (Moves.modBay .core).trans (Moves.askStage b none rfl rfl)
  · exact .refl

/-- A HELD bay resumes (R56, R57). -/
theorem Moves.resume (b : BayId) (hm : (s.bay b).mode = .held) : Moves c s (s.resume b) := by
  have hz : (s.bay b).LevelLegal (s.bayCfg b).cap → (s.bay b).level = 0 := fun h =>
    h.eq_zero (by simp [hm]) (by simp [hm])
  unfold State.resume
  split
  · exact .refl
  · next r _ =>
    refine Moves.trans ?_ (Moves.raise _)
    split
    · exact Moves.modBay { level := fun h => h.zero (hz h), ok := fun _ => .of_mode r.mode_bound }
    · next hp =>
      have hp : (s.bay b).releasePending = false := by simpa using hp
      cases r
      · exact Moves.modBay { level := fun h => h.zero (hz h), ok := fun _ => .of_mode (by simp) }
      · exact (Moves.modBay (.enterActive hp)).trans (Moves.payStage b)
      · exact Moves.modBay { level := fun h => h.zero (hz h), ok := fun _ => .of_mode (by simp) }
      · refine Moves.modBay { level := fun h => h.one ?_ (.inr rfl) hp, ok := fun _ => .of_mode (by simp [Bay.beginRetry]) }
        show retryLevel _ ≤ 1
        unfold retryLevel; split <;> omega

theorem Moves.addHold (b : BayId) (h : HoldCause) : Moves c s (s.addHold b h) := by
  unfold State.addHold
  dsimp only
  split
  · exact .refl
  · split
    · refine (Moves.bay { level := fun k => k.zero rfl, ok := fun _ => .of_mode (by simp) }).trans (Moves.raise _)
    · exact Moves.bay .core

theorem Moves.dropHold (b : BayId) (h : HoldCause) : Moves c s (s.dropHold b h) := by
  unfold State.dropHold
  split
  · exact .refl
  · dsimp only
    have hs : Moves c s (s.modBay b (fun x => { x with holds := x.holds.put false h })) := Moves.modBay .core
    split
    · next hm => exact hs.trans (Moves.resume b hm.1)
    · exact hs

/-- A hold of each bay of a list. -/
theorem Moves.foldl {α : Type} {f : State → α → State} (h : ∀ s a, Moves c s (f s a)) (l : List α) (s : State) :
    Moves c s (l.foldl f s) := by
  induction l generalizing s with
  | nil => exact .refl
  | cons a l ih => exact (h s a).trans (ih _)

theorem Moves.stopChanged (b : BayId) (w : Bool) : Moves c s (s.stopChanged b w) := by
  have hmode : ∀ g, (s.bay b).mode = .idle ∨ (s.bay b).mode = .stopped → g = .idle ∨ g = .stopped →
      Moves c s (s.modBay b (fun x => { x with mode := g })) := fun g hm hg => by
    refine Moves.modBay { level := fun h => h.zero (h.eq_zero ?_ ?_), ok := fun h => ⟨fun _ => h.1 ?_, fun k => ?_⟩ }
    · rcases hm with hm | hm <;> simp [hm]
    · rcases hm with hm | hm <;> simp [hm]
    · rcases hm with hm | hm <;> simp [hm]
    · rcases hg with hg | hg <;> simp [hg] at k
  unfold State.stopChanged
  split
  · exact .refl
  · split <;> split
    · next hm => exact hmode _ (.inl hm) (.inr rfl)
    · exact Moves.addHold b _
    · next hm => exact hmode _ (.inr hm) (.inl rfl)
    · exact Moves.dropHold b _

/-! ### Faults -/

/-- The channel enters FAULTED. -/
theorem Bay.Keeps.enterFaulted {cap : Nat} {x y : Bay} (hf : y.fault ≠ none) (hm : y.mode = .faulted := by rfl)
    (hl : y.level = 0 := by rfl) (binding : y.binding = x.binding := by rfl) (pack : y.pack = x.pack := by rfl)
    (frac : y.frac = x.frac := by rfl) (writes : y.writes = x.writes := by rfl) : x.Keeps cap y where
  level h := h.zero hl
  ok _ := ⟨by simp [hm], fun _ => hf⟩
  binding := binding
  pack := pack
  frac := .inl frac
  writes := fun w h => .inl (writes ▸ h)

theorem Moves.raiseFault (b : BayId) (k : FaultCause) : Moves c s (s.raiseFault b k) := by
  unfold State.raiseFault
  split
  · exact .refl
  · exact Moves.raise _

theorem retries_some {m : FaultMode} {x : Bay} {k : FaultCause} {n : Nat} {r : RetryKind} (h : retries m x k n = some r) :
    x.mode = .active ∧ k.retryKind = some r := by
  unfold retries at h
  split at h
  · next hc => exact ⟨hc.2.1, h⟩
  · cases h

/-- A fault taken (R107 to R109). An open connection is found only at a level of at least 1, so with no release pending. -/
theorem Moves.takeFault (b : BayId) (k : FaultCause) (hk : k = .openConnection → 1 ≤ (s.bay b).level) :
    Moves c s (s.takeFault b k) := by
  unfold State.takeFault
  dsimp only
  split
  · split
    · next r hr =>
      obtain ⟨-, hkind⟩ := retries_some hr
      refine (Moves.bay { level := fun h => ?_, ok := fun _ => .of_mode (by simp [Bay.enterRetry]) }).trans
        (Moves.raiseFault b k)
      have hkeep : r ≠ .openConnection → retryLevel (some r) = 0 := by cases r <;> simp [retryLevel]
      by_cases ho : r = .openConnection
      · subst ho
        have : k = .openConnection := by cases k <;> simp_all [FaultCause.retryKind]
        refine h.one (y := { (s.bay b).enterRetry _ with faultCount := _ }) ?_ (.inr rfl) ?_
        · simp [Bay.enterRetry, retryLevel]
        · have h1 := hk this
          cases hp : (s.bay b).releasePending with
          | false => exact hp
          | true => have := h.2.2.2.1 hp; omega
      · exact h.zero (hkeep ho)
    · split
      · exact ((Moves.bay (.enterFaulted (by simp [Bay.enterFaulted]))).trans
          (Moves.askUnbind b _ _ (.inl rfl))).trans (Moves.raiseFault b k)
      · exact (Moves.bay (.enterFaulted (by simp [Bay.enterFaulted]))).trans (Moves.raiseFault b k)
  · exact (Moves.bay (.enterFaulted (by simp [Bay.enterFaulted]))).trans (Moves.raiseFault b k)

/-- A retry complete, with no release pending (R110). -/
theorem Moves.endRetry (b : BayId) (hp : (s.bay b).releasePending = false) : Moves c s (s.endRetry b) :=
  (Moves.modBay (.enterActive hp)).trans (Moves.raise _)

/-! ### Admission -/

theorem Moves.evalAdmission : Moves c s s.evalAdmission := .one (.evalAdmission s)

theorem Moves.startReturn : Moves c s s.startReturn := by
  unfold State.startReturn
  split
  · exact .refl
  · next e he => exact (Moves.one (.startReturn s e he)).trans (Moves.raise _)

theorem Moves.loseShred : Moves c s s.loseShred := by
  unfold State.loseShred
  split
  · exact .refl
  · next e _ =>
    exact (Moves.one (.feed s s.feed.dropShred rfl rfl rfl rfl rfl (.inl rfl))).trans
      (Moves.one (.askLate _ _ ⟨e, .inl rfl⟩))

theorem Moves.addFeedFault (g : FeedFaults → FeedFaults) : Moves c s (s.addFeedFault g) :=
  (Moves.one (.feed s { s.feed with faults := g s.feed.faults } rfl rfl rfl rfl rfl (.inl rfl))).trans (Moves.raise _)

/-! ### The chamber -/

theorem Moves.enterChamber (g : ChamberState) (hr : s.running = true)
    (h : g = .shredding ∨ g = .purging → s.chamber.state ≠ .inert ∨ s.feed.gate = none) : Moves c s (s.enterChamber g) :=
  .one (.enterChamber s g hr h)

/-- The timers of the chamber stopped, and a new state entered. -/
theorem Moves.stopAndEnter (g : ChamberState) (hr : s.running = true)
    (h : g = .shredding ∨ g = .purging → s.chamber.state ≠ .inert ∨ s.feed.gate = none) :
    Moves c s ((s.setChamber s.chamber.stopTimers).enterChamber g) :=
  (Moves.one (.chamber s s.chamber.stopTimers rfl rfl rfl rfl rfl rfl)).trans (Moves.enterChamber g hr h)

theorem Moves.chamberFire (hr : s.running = true) : Moves c s s.chamberFire := by
  unfold State.chamberFire
  split
  · exact .refl
  · exact Moves.stopAndEnter _ hr (by simp)

theorem Moves.chamberFireExit (hr : s.running = true) : Moves c s s.chamberFireExit := by
  unfold State.chamberFireExit
  split
  · exact Moves.stopAndEnter _ hr (by split <;> simp)
  · exact .refl

/-! ### The vote -/

theorem Moves.feedZoneAlarm (z : ZoneId) : Moves c s (s.feedZoneAlarm z) := by
  have hblock : Moves c s (s.setFeed { s.feed with block := s.feed.block.put true z }) :=
    .one (.feed s _ rfl rfl rfl rfl rfl (.inl rfl))
  have hclose : ∀ f : Feed, Moves c (s.setFeed f) (s.setFeed f.closeGate) := fun f => .one (.closeGate (s.setFeed f))
  have hdrop : ∀ f : Feed, Moves c (s.setFeed f) (s.setFeed f.dropShred) := fun f =>
    .one (.feed (s.setFeed f) f.dropShred rfl rfl rfl rfl rfl (.inl rfl))
  unfold State.feedZoneAlarm
  dsimp only
  split <;> split
  · exact (hblock.trans (hclose _)).trans (hdrop _)
  · exact hblock.trans (hdrop _)
  · exact hblock.trans (hclose _)
  · exact hblock

theorem Moves.feedZoneClear (z : ZoneId) : Moves c s (s.feedZoneClear z) :=
  (Moves.one (.feed s { s.feed with block := s.feed.block.put false z } rfl rfl rfl rfl rfl (.inl rfl))).trans
    Moves.evalAdmission

theorem Moves.askSweep (z : ZoneId) : Moves c s (s.askSweep z) :=
  (Moves.one (.sweeps s (s.arb.sweeps ++ [z]))).trans (Moves.wake _)

theorem Moves.enterAlarm (z : ZoneId) (hr : s.running = true) : Moves c s (s.enterAlarm z) := by
  obtain ⟨s1, h1, e1⟩ : ∃ s1, Moves c s s1 ∧ s1 = if (s.zone z).sweepWaiting then s
      else (s.setZone z { s.zone z with sweepWaiting := true }).askSweep z := by
    refine ⟨_, ?_, rfl⟩
    split
    · exact .refl
    · exact (Moves.one (.sweepWaiting s z true)).trans (Moves.askSweep z)
  have h2 : Moves c s ((zoneBays z).foldl (fun t b => t.addHold b .zoneAlarm) s1) :=
    h1.trans (Moves.foldl (fun _ b => Moves.addHold b _) _ _)
  unfold State.enterAlarm
  dsimp only
  rw [← e1]
  refine Moves.trans ?_ (Moves.raise _)
  split <;> split
  · exact (h2.trans (Moves.feedZoneAlarm z)).trans
      (Moves.chamberFire (((h2.trans (Moves.feedZoneAlarm z)).running).trans hr))
  · exact h2.trans (Moves.chamberFire (h2.running.trans hr))
  · exact h2.trans (Moves.feedZoneAlarm z)
  · exact h2

/-- What follows the vote's result: the attention and the entry to ALARM (R162, R164). -/
theorem Moves.vote (z : ZoneId) (hr : s.running = true) : Moves c (s.settle z) (s.vote z) := by
  unfold State.vote
  dsimp only
  have h1 : Moves c (s.settle z) (if (s.zone z).state = voteOf (s.zone z).state (s.channelStates z)
      ∧ (s.zone z).degraded = degradedOf (s.channelStates z) then s.settle z else (s.settle z).raiseZone z 0) := by
    split
    · exact .refl
    · exact Moves.raise _
  split
  · exact h1.trans (Moves.enterAlarm z (h1.running.trans hr))
  · exact h1

/-- Attention raised does not touch the zones. -/
theorem State.raise_settle (s : State) (f : Attn → Attn) (z : ZoneId) : (s.raise f).settle z = (s.settle z).raise f := by
  unfold State.raise State.raisePort
  cases hr : s.running with
  | false =>
    have hz : (s.settle z).running = false := hr
    simp [hr, hz]
  | true =>
    have hz : (s.settle z).running = true := hr
    have h1 : ∀ x, (s.setPort .line x).running = true := fun x => by simpa using hr
    have h2 : ∀ x, ((s.settle z).setPort .line x).running = true := fun x => by simpa using hz
    simp only [hr, hz, h1, h2, if_true]
    rfl

/-- A channel that may have changed its state. -/
theorem Moves.channelMoved {u : State} (z : ZoneId) (src : BitVec 32) (x y : ChanState) (hr : u.running = true)
    (hq : x = y → Moves c s u) (hv : x ≠ y → Moves c s (u.settle z)) : Moves c s (u.channelMoved z src x y) := by
  unfold State.channelMoved
  split
  · next h => exact hq h
  · next h =>
    have hraise : Moves c s ((u.raiseZone z src).settle z) := by
      rw [State.raiseZone, State.raise_settle]
      exact (hv h).trans (Moves.raise _)
    exact hraise.trans (Moves.vote z (by simpa using hr))

theorem Moves.moveDetector (d : DetId) (m : MapEntry) (x : Detector) (hr : s.running = true)
    (h : s.settings.detectors.get d = some m) : Moves c s (s.moveDetector d m x) :=
  Moves.channelMoved _ _ _ _ hr (fun e => .one (.detectorQuiet s d x (.inl e.symm))) (fun _ => .one (.detector s d m x h))

theorem Moves.movePack (b : BayId) (k : Chan) {x : Chan} (hr : s.running = true) (h : (s.bay b).pack = some x) :
    Moves c s (s.movePack b x k) :=
  Moves.channelMoved _ _ _ _ hr (fun e => .one (.packQuiet s b x k h e.symm)) (fun _ => .one (.pack s b k))

theorem Moves.scanFlame (z : ZoneId) (l : Bool) (hr : s.running = true) : Moves c s (s.scanFlame z l) :=
  Moves.channelMoved _ _ _ _ hr (fun e => .one (.flameQuiet s z _ e.symm)) (fun _ => .one (.flame s z _))

theorem Moves.packReading (b : BayId) (v : Int) (hr : s.running = true) : Moves c s (s.packReading b v) := by
  unfold State.packReading
  split
  · next x k hx _ =>
    split
    · exact Moves.movePack b _ hr hx
    · exact Moves.movePack b _ hr hx
  · exact .refl

theorem Moves.packLost (b : BayId) (hr : s.running = true) : Moves c s (s.packLost b) := by
  unfold State.packLost
  split
  · next x hx => exact Moves.movePack b _ hr hx
  · exact .refl

end Sys2Proof.Machine
end

section
/-!
PROOFS. The frames of a bay link and the ends of a bay's times as chains of moves (chapters 3 to 5).
-/

namespace Sys2Proof.Machine

variable {c : Cause} {s : State}

/-! ### The channel after a write asked for -/

theorem State.modBay_bay (s : State) (b b' : BayId) (f : Bay → Bay) :
    (s.modBay b f).bay b' = if b' = b then f (s.bay b) else s.bay b' := s.bay_setBay b b' _

@[simp] theorem State.askBay_bay_same (s : State) (b : BayId) (w : BayWrite) :
    (s.askBay b w).bay b = { s.bay b with writes := (s.bay b).writes ++ [w] } := by simp [State.askBay]

/-- The list of a channel after a hazard flag write was asked for (R23). -/
theorem State.askFlag_bay_same (s : State) (b : BayId) (f : HazardFlag) : (s.askFlag b f).bay b =
    { s.bay b with writes := (s.bay b).writes ++ ((s.bay b).binding.map (fun e => BayWrite.flag e f)).toList } := by
  unfold State.askFlag
  cases h : (s.bay b).binding <;> simp

/-- The channel after its current limit was computed anew (R86). -/
theorem State.computeLimit_bay_same (s : State) (b : BayId) : (s.computeLimit b).bay b =
    { s.bay b with limit := match (s.bay b).copies with
        | some k => some (currentLimit (s.rating b) (s.classCfg k.cls).cRate k.capacity k.damaged (s.bay b).isoDerate
            (s.bay b).warning)
        | none => (s.bay b).limit } := by
  unfold State.computeLimit
  cases h : (s.bay b).copies <;> simp

/-! ### The channel at work -/

/-- A channel in a state of work with no release pending (R68): its frames do the state's work. -/
structure Bay.WorksIn (x : Bay) (g : BayState) : Prop where
  mode : x.mode = g
  release : x.releasePending = false

/-! ### The probe -/

theorem Moves.failProbe (b : BayId) (o : ProbeOutcome) (hm : (s.bay b).mode = .probing) : Moves c s (s.failProbe b o) := by
  have h1 : Moves c s ((s.setBay b { s.bay b with probe := (s.bay b).probe.restart }).modBay b
      (fun y => y.probeFaulted o.cause)) :=
    (Moves.bay .core).trans (Moves.modBay (.enterFaulted (by simp [Bay.probeFaulted])))
  unfold State.failProbe
  dsimp only
  split
  · exact Moves.bay .core
  · split
    · exact h1
    · exact h1.trans (Moves.askUnbind b _ _ (.inl rfl))

theorem Moves.endProbe (b : BayId) (o : ProbeOutcome) (h : (s.bay b).WorksIn .probing) : Moves c s (s.endProbe b o) := by
  obtain ⟨s1, e1, h1⟩ : ∃ s1 : State, s1 = (s.modBay b (fun x => { x with probe := { x.probe with last := some o } })).raiseBay b .probe
      ∧ Moves c s s1 := ⟨_, rfl, (Moves.modBay .core).trans (Moves.raise _)⟩
  have hm1 : (s1.bay b).mode = .probing := by rw [e1]; simpa using h.mode
  have hp1 : (s1.bay b).releasePending = false := by rw [e1]; simpa using h.release
  unfold State.endProbe
  dsimp only
  rw [← e1]
  refine h1.trans ?_
  split
  · exact (Moves.modBay (.enterActive hp1)).trans (Moves.askStage b none rfl rfl)
  iterate 2
    obtain ⟨s2, e2, h2⟩ : ∃ s2 : State, s2 = ((s1.modBay b (fun x => { x with isoDerate := true })).computeLimit b).askFlag b
        .isolationFault ∧ Moves c s1 s2 :=
      ⟨_, rfl, ((Moves.modBay .core).trans (Moves.computeLimit b)).trans (Moves.askFlag b _)⟩
    have hp2 : (s2.bay b).releasePending = false := by
      rw [e2, State.askFlag_bay_same, State.computeLimit_bay_same]
      simpa using hp1
    rw [← e2]
    exact (h2.trans (Moves.modBay (.enterActive hp2))).trans (Moves.askStage b none rfl rfl)
  all_goals exact Moves.failProbe b _ hm1

theorem Moves.probeFrame (b : BayId) (bit : Bool) (h : (s.bay b).WorksIn .probing) : Moves c s (s.probeFrame b bit) := by
  unfold State.probeFrame
  dsimp only
  split
  · exact Moves.modBay .core
  · split
    · exact Moves.modBay .core
    · refine (Moves.modBay (b := b) .core).trans (Moves.endProbe b _ ⟨?_, ?_⟩)
      · simpa using h.mode
      · simpa using h.release

/-! ### ACTIVE -/

/-- A channel whose level is changed in ACTIVE, up to the cap. -/
theorem Bay.Keeps.levelled {cap : Nat} {x y : Bay} (hw : x.WorksIn .active)
    (hl : x.level ≤ cap → y.level ≤ cap) (mode : y.mode = x.mode := by rfl)
    (binding : y.binding = x.binding := by rfl) (release : y.releasePending = x.releasePending := by rfl)
    (fault : y.fault = x.fault := by rfl) (pack : y.pack = x.pack := by rfl) (frac : y.frac = x.frac := by rfl)
    (writes : y.writes = x.writes := by rfl) : x.Keeps cap y where
  level h := ⟨fun k => absurd (mode.trans hw.mode) k, fun k => absurd (mode.symm.trans k) (by simp [hw.mode]),
    fun _ => hl (h.2.2.1 hw.mode), fun k => absurd (release.symm.trans k) (by simp [hw.release]), h.2.2.2.2⟩
  ok := by unfold Bay.BindOk; rw [mode, binding, fault]; exact id
  binding := binding
  pack := pack
  frac := .inl frac
  writes := fun w h => .inl (writes ▸ h)

/-- A step of the regulator changes the level, blanking, the hold-off and the open-connection count alone. -/
theorem Bay.setLevel_eq (x : Bay) (l : Nat) :
    x.setLevel l = { x with level := l, blanking := if l = x.level then x.blanking else 2 } := by
  unfold Bay.setLevel
  split
  · next h => subst h; rfl
  · rfl

theorem Bay.reduce_eq (x : Bay) (toff : Nat) : x.reduce toff =
    { x with level := x.level - 1, blanking := if x.level - 1 = x.level then x.blanking else 2, holdOff := some toff,
             openCount := 0 } := by
  unfold Bay.reduce
  rw [Bay.setLevel_eq]

theorem Bay.Keeps.reduce {cap : Nat} {x : Bay} (toff : Nat) : x.Keeps cap (x.reduce toff) := by
  rw [Bay.reduce_eq]
  refine { level := fun h => ?_, ok := id }
  obtain ⟨h1, h2, h3, h4, h5⟩ := h
  exact ⟨fun a b => by have := h1 a b; simp [this], fun a => by have := h2 a; dsimp only; omega,
    fun a => by have := h3 a; dsimp only; omega, fun a => by have := h4 a; simp [this], h5⟩

theorem Bay.Keeps.regulate {cap : Nat} {x : Bay} (limit toff v e i : Nat) (hw : x.WorksIn .active) : x.Keeps cap (x.regulate limit cap toff v e i) := by
  unfold Bay.regulate
  split
  · exact .reduce toff
  · split
    · next h =>
      rw [Bay.setLevel_eq]
      exact .levelled hw (fun _ => h.2.2)
    · exact .core

theorem Moves.regulator (b : BayId) (p : Sample) (n e : Nat) (hw : (s.bay b).WorksIn .active) : Moves c s (s.regulator b p n e) := by
  refine Moves.modBay ?_
  split
  · exact .core
  · split
    · exact .regulate _ _ _ _ _ hw
    · exact .core

theorem Moves.endDischarge (b : BayId) : Moves c s (s.endDischarge b) :=
  ((Moves.modBay { level := fun h => h.zero rfl, ok := fun _ => .of_mode (by simp) }).trans
    (Moves.askStage b none rfl rfl)).trans (Moves.raise _)

theorem Moves.activeFrame (b : BayId) (p : Sample) (hw : (s.bay b).WorksIn .active) : Moves c s (s.activeFrame b p) := by
  unfold State.activeFrame
  dsimp only
  split
  · exact .refl
  · exact Moves.ite (fun _ => Moves.endDischarge b) (fun _ =>
      (Moves.modBay (b := b) .core).trans (Moves.regulator b p _ _ ⟨by simpa using hw.mode, by simpa using hw.release⟩))

/-! ### Frames -/

theorem Moves.retryFrame (b : BayId) (p : Sample) (hp : (s.bay b).releasePending = false) :
    Moves c s (s.retryFrame b p) := by
  unfold State.retryFrame
  dsimp only
  split
  · split
    · exact Moves.endRetry b hp
    · exact .refl
  · exact Moves.ite (fun _ => Moves.endRetry b hp) (fun _ => Moves.modBay .core)
  · exact .refl

theorem Moves.workFrame (b : BayId) (p : Sample) : Moves c s (s.workFrame b p) := by
  unfold State.workFrame
  split
  · exact .refl
  · next hp =>
    have hp : (s.bay b).releasePending = false := by simpa using hp
    split
    · next hm => exact Moves.probeFrame b _ ⟨hm, hp⟩
    · next hm => exact Moves.activeFrame b p ⟨hm, hp⟩
    · exact Moves.retryFrame b p hp
    all_goals exact .refl

theorem Moves.trackTemp (b : BayId) (v : Int) : Moves c s (s.trackTemp b v) := by
  unfold State.trackTemp
  split
  · exact .refl
  · next k _ =>
    dsimp only
    have h1 : Moves c s (if warningAfter (s.bay b).warning (s.classCfg k.cls).warnT v = (s.bay b).warning then s
        else ((s.modBay b (fun y => { y with warning := warningAfter (s.bay b).warning (s.classCfg k.cls).warnT v })).computeLimit
          b).raiseBay b .temp) := by
      split
      · exact .refl
      · exact ((Moves.modBay .core).trans (Moves.computeLimit b)).trans (Moves.raise _)
    split
    · exact (h1.trans (Moves.modBay .core)).trans (Moves.askFlag b _)
    · exact h1.trans (Moves.modBay .core)

/-- The open-connection count moves only in ACTIVE at a level of at least 1 (R105). -/
theorem Bay.openAfter_ne {x : Bay} {i : Nat} (h : x.openAfter i ≠ x.openCount) : 1 ≤ x.level := by
  unfold Bay.openAfter at h
  split at h
  · next hc => exact hc.2.2
  · exact absurd rfl h

theorem Moves.testBound (b : BayId) (p : Sample) : Moves c s (s.testBound b p) := by
  unfold State.testBound
  dsimp only
  split
  · exact .refl
  · next k _ =>
    split
    · next f hf =>
      refine Moves.takeFault b f (fun h => ?_)
      subst h
      unfold boundFault at hf
      (repeat' split at hf) <;> cases hf
    · split
      · next h =>
        refine ((Moves.modBay (b := b) .core).trans (Moves.askFlag b _)).trans (Moves.takeFault b _ (fun _ => ?_))
        rw [State.askFlag_bay_same]
        simpa using Bay.openAfter_ne h.2.1
      · exact Moves.modBay .core

theorem Moves.testUnbound (b : BayId) (p : Sample) : Moves c s (s.testUnbound b p) := by
  unfold State.testUnbound
  split
  iterate 2
    split
    · exact Moves.takeFault b _ (fun h => by cases h)
    · split
      · exact Moves.takeFault b _ (fun h => by cases h)
      · exact .refl
  all_goals exact .refl

theorem Moves.protect (b : BayId) (p : Sample) : Moves c s (s.protect b p) := by
  unfold State.protect
  split
  · exact (Moves.trackTemp b _).trans (Moves.testBound b p)
  · exact Moves.testUnbound b p

theorem Moves.integrate (b : BayId) (p : Sample) (g : Nat) : Moves c s (s.integrate b p g) := by
  unfold State.integrate
  split
  · exact .refl
  · next e he =>
    refine (Moves.modBay { level := id, ok := id, frac := .inr ⟨by simp [he], ?_⟩ }).trans (Moves.askCarries b e _)
    exact Nat.mod_lt _ (by decide)

/-- The unbound state of a bay by its effective stop is STOPPED or IDLE. -/
theorem State.restState_cases (s : State) (b : BayId) : s.restState b = .stopped ∨ s.restState b = .idle := by
  unfold State.restState
  split
  · exact .inl rfl
  · exact .inr rfl

theorem Moves.endLinkLoss (b : BayId) : Moves c s (s.endLinkLoss b) := by
  unfold State.endLinkLoss
  dsimp only
  split
  · next h =>
    obtain ⟨hm, hu, -⟩ := h
    refine Moves.bay { level := fun k => k.zero (k.eq_zero (by simp [hm]) (by simp [hm])), ok := fun _ => ⟨fun _ => hu, fun k => ?_⟩ }
    rcases s.restState_cases b with e | e <;> simp [e] at k
  · exact .refl

theorem Moves.restoreLink (b : BayId) : Moves c s (s.restoreLink b) := by
  unfold State.restoreLink
  dsimp only
  split
  · exact ((Moves.endLinkLoss b).trans (Moves.modBay .core)).trans (Moves.raise _)
  · exact Moves.endLinkLoss b

theorem Moves.freshFrame (b : BayId) (f : SampleFrame) (hr : s.running = true) : Moves c s (s.freshFrame b f) := by
  have h1 : Moves c s ((s.restoreLink b).takeSample b f) := (Moves.restoreLink b).trans (Moves.modBay .core)
  have h2 : Moves c s (((((s.restoreLink b).takeSample b f).integrate b f.sample (s.bay b).gap).protect b f.sample).workFrame b
      f.sample) := ((h1.trans (Moves.integrate b _ _)).trans (Moves.protect b _)).trans (Moves.workFrame b _)
  have h3 := h2.trans (Moves.modBay (c := c) (b := b) (f := fun x => { x with sent := some x.accepted }) .core)
  exact h3.trans (Moves.packReading b _ (h3.running.trans hr))

theorem Moves.onBayLink (b : BayId) (bytes : List Byte) : Moves c s (s.onBayLink b bytes) := by
  have hans : ∀ t, Moves c t (t.answerFrame b) := fun t => Moves.modBay .core
  unfold State.onBayLink
  split
  · exact .refl
  · split
    · exact .refl
    · exact Moves.modBay .core
    · exact Moves.modBay .core
    · next hph =>
      have hr : s.running = true := by simp [State.running, hph]
      unfold State.bayFrame
      split
      · exact Moves.modBay .core
      · split
        · exact hans s
        · split
          · exact (Moves.modBay .core).trans (hans _)
          · exact Moves.freshFrame b _ hr

/-! ### The ends of a bay's times -/

theorem Moves.loseLink (b : BayId) (hr : s.running = true) : Moves c s (s.loseLink b) := by
  have h1 : Moves c s ((s.modBay b (fun x => { x with
      link := .lost, periods := s.settings.timing.link, toggle := none })).raiseBay b .link) :=
    (Moves.modBay .core).trans (Moves.raise _)
  unfold State.loseLink
  dsimp only
  split
  · exact h1.trans (Moves.packLost b (h1.running.trans hr))
  · have h2 := h1.trans (Moves.takeFault (c := c) b .linkLost (fun h => by cases h))
    exact h2.trans (Moves.packLost b (h2.running.trans hr))

theorem Moves.expireHoldOff (b : BayId) : Moves c s (s.expireHoldOff b) := by
  refine Moves.modBay ?_
  split
  · split
    · exact (Bay.Keeps.reduce (s.bayCfg b).toff).trans .core
    · exact .core
  · exact .core

theorem Moves.endRest (b : BayId) (h : (s.bay b).rests = true) : Moves c s (s.endRest b) := by
  obtain ⟨-, hp⟩ : (s.bay b).mode = .resting ∧ (s.bay b).releasePending = false := by simpa [Bay.rests] using h
  unfold State.endRest
  dsimp only
  split
  · exact .refl
  · next k _ =>
    refine Moves.trans ?_ (Moves.raise _)
    have h1 : Moves c s (s.modBay b (fun y => { y with restElapsed := periodsOf (s.classCfg k.cls).restSec })) :=
      Moves.modBay .core
    split
    · exact h1.trans (Moves.askUnbind b _ _ (.inr rfl))
    · split
      · refine (h1.trans (Moves.modBay (.enterActive ?_))).trans (Moves.askStage b _ rfl rfl)
        simpa [Bay.enterActive] using hp
      · exact h1.trans (Moves.askUnbind b _ _ (.inl rfl))

/-! ### CLEAR_FAULT -/

/-- A fault cleared with no release pending (R114). -/
theorem Moves.clearTheFault (b : BayId) (hm : (s.bay b).mode = .faulted) (hp : (s.bay b).releasePending = false) :
    Moves c s (s.clearTheFault b) := by
  have hz : (s.bay b).LevelLegal (s.bayCfg b).cap → (s.bay b).level = 0 := fun h =>
    h.eq_zero (by simp [hm]) (by simp [hm])
  unfold State.clearTheFault
  dsimp only
  split
  · next e f he hf =>
    refine Moves.trans ?_ (Moves.raise _)
    split
    · split
      · exact Moves.bay { level := fun h => h.zero (hz h), ok := fun _ => .of_mode (by simp) }
      · refine Moves.trans ?_ (Moves.payStage b)
        exact Moves.bay (.enterActive hp)
    · exact Moves.bay { level := fun h => h.zero (hz h), ok := fun _ => .of_mode (by simp) }
  · next hn =>
    refine Moves.trans ?_ (Moves.raise _)
    refine Moves.bay { level := fun h => h.zero (hz h), ok := fun h => ⟨fun _ => ?_, fun k => ?_⟩ }
    · cases hb : (s.bay b).binding with
      | none => rfl
      | some e =>
        cases hf : (s.bay b).fault with
        | none => exact absurd hf (h.2 hm)
        | some f => exact absurd hf (hn e f hb)
    · rcases s.restState_cases b with e | e <;> simp [e] at k

end Sys2Proof.Machine
end

section
/-!
PROOFS. The chamber's, the feed's and the zones' events, and the port requests that take no grant, as chains of moves.
-/

namespace Sys2Proof.Machine

variable {c : Cause} {s : State}

/-! ### Attention and the other parts of the state -/

/-- An operation that touches neither the phase nor the ports does not see attention raised before it. -/
theorem State.raise_comm {g : State → State} (f : Attn → Attn) (hr : (g s).running = s.running)
    (hl : (g s).line = s.line) (hp : (g s).plant = s.plant)
    (hg : ∀ x y, g { s with line := x, plant := y } = { g s with line := x, plant := y }) :
    (g s).raise f = g (s.raise f) := by
  cases hs : s.running with
  | false => simp [State.raise, hs, hr]
  | true =>
    have h := hg (s.line.attend f) (s.plant.attend f)
    rw [s.raise_eq hs, (g s).raise_eq (hr.trans hs), hl, hp]
    exact h.symm

theorem State.raise_setChamber (s : State) (f : Attn → Attn) (x : Chamber) :
    (s.setChamber x).raise f = (s.raise f).setChamber x :=
  State.raise_comm (g := fun t => t.setChamber x) f rfl rfl rfl (fun _ _ => rfl)

theorem State.raise_askFeed (s : State) (f : Attn → Attn) (w : FeedWrite) :
    (s.askFeed w).raise f = (s.raise f).askFeed w := by
  refine State.raise_comm (g := fun t => t.askFeed w) f (by simp) (by simp) (by simp) (fun x y => ?_)
  simp only [State.askFeed, State.wake, State.setArb]
  split <;> rfl

/-! ### The chamber -/

@[simp] theorem Chamber.confirmRule_state (x : Chamber) (n : Nat) : (x.confirmRule n).state = x.state := by
  unfold Chamber.confirmRule; split <;> rfl

@[simp] theorem Chamber.countExcess_state (x : Chamber) (n : Nat) : (x.countExcess n).state = x.state := by
  unfold Chamber.countExcess; split <;> rfl

/-- The outputs driven before a change of chamber state are driven again by it (R130, R131). -/
theorem State.driveChamber_enterChamber (s : State) {g : ChamberState} (h : s.chamber.state ≠ g) :
    s.driveChamber.enterChamber g = s.enterChamber g := by
  have hd : s.driveChamber.chamber.state ≠ g := h
  unfold State.enterChamber
  rw [if_neg h, if_neg hd]
  rfl

theorem Chamber.mustHold_state {x : Chamber} (h : x.mustHold = true) : x.state = .inert ∨ x.state = .shredding := by
  simp only [Chamber.mustHold, Bool.and_eq_true, decide_eq_true_eq] at h
  exact h.1

/-- A recomputation of the effective oxygen (R119): the outputs follow, or the chamber goes to HOLD. -/
theorem Moves.recompute (e : Bool) (hr : s.running = true) : Moves c s (s.recompute e) := by
  have hmain : ∀ (x : Chamber) (t : State) (n : Nat), x.state = t.chamber.state → t.running = true →
      Moves c t (if x.mustHold then ((t.setChamber x).setChamber ({ x with excess := 0 }.startConfirm n)).enterChamber .hold
        else (t.setChamber x).driveChamber) := by
    intro x t n hx ht
    refine Moves.ite (fun hh => ?_) (fun _ => .one (.drive t x hx ht))
    have hne : x.state ≠ .hold := by rcases Chamber.mustHold_state hh with k | k <;> simp [k]
    rw [State.setChamber_setChamber, ← State.driveChamber_enterChamber _ (by exact hne)]
    exact (Moves.one (.drive t ({ x with excess := 0 }.startConfirm n) hx ht)).trans
      (Moves.enterChamber .hold (by exact ht) (by simp))
  unfold State.recompute
  dsimp only
  generalize hx : (if e = true then Chamber.countExcess _ _ else _ : Chamber) = x
  have hxs : x.state = s.chamber.state := by rw [← hx]; split <;> simp
  by_cases hc : s.chamber.condition = (effective s.chamber.a s.chamber.b s.settings.chamber.tolerance).2
  · simp only [if_pos hc]
    exact hmain x s _ hxs hr
  · simp only [if_neg hc]
    rw [State.raiseChamber, State.raise_setChamber]
    exact (Moves.raise _).trans (hmain x s.raiseChamber _ (by simpa using hxs) (by simpa using hr))

/-- An analyser replaced leaves the chamber's state, EFF and outputs. -/
theorem Moves.setAnalyser (w : Analyser) (x : AnalyserState) : Moves c s (s.setChamber (s.chamber.setAnalyser w x)) := by
  cases w <;> exact .one (.chamber s _ rfl rfl rfl rfl rfl rfl)

theorem Moves.analyserReading (w : Analyser) (f : Bool) (v : Int) (hr : s.running = true) :
    Moves c s (s.analyserReading w f v) := by
  unfold State.analyserReading
  split
  · exact (Moves.setAnalyser w _).trans (Moves.recompute _ hr)
  · exact (Moves.setAnalyser w _).trans (Moves.recompute _ hr)

theorem Moves.analyserLapse (w : Analyser) (hr : s.running = true) : Moves c s (s.analyserLapse w) := by
  unfold State.analyserLapse
  split
  · exact (Moves.setAnalyser w _).trans (Moves.recompute _ hr)
  · exact .refl

theorem Moves.doorOpens (hr : s.running = true) : Moves c s s.doorOpens := by
  unfold State.doorOpens
  split
  · exact .refl
  · exact .refl
  all_goals exact ((Moves.stopAndEnter _ hr (by simp)).trans Moves.loseShred).trans Moves.evalAdmission

theorem Moves.doorCloses (hr : s.running = true) : Moves c s s.doorCloses := by
  unfold State.doorCloses
  split
  · exact Moves.enterChamber _ hr (by simp)
  all_goals exact .refl

theorem Moves.startPurge (hr : s.running = true) (hs : s.chamber.state = .sealed) : Moves c s s.startPurge :=
  (Moves.one (.chamber s ({ s.chamber with purgeTimer := some 0, purgeFault := false }.startConfirm
    s.settings.chamber.admitLevel) rfl rfl rfl rfl rfl rfl)).trans
    (Moves.enterChamber .purging (by exact hr) (fun _ => .inl (by simp [Chamber.startConfirm, hs])))

theorem Moves.stopInerting (hr : s.running = true) : Moves c s s.stopInerting := Moves.stopAndEnter _ hr (by simp)

theorem Moves.confirmElapsed (hr : s.running = true) : Moves c s s.confirmElapsed := by
  unfold State.confirmElapsed
  split
  · exact .refl
  · split
    · exact Moves.stopAndEnter _ hr (by simp)
    · next hh => exact Moves.stopAndEnter _ hr (fun _ => .inl (by simp [hh]))
    all_goals exact .refl

theorem Moves.purgeExpired (hr : s.running = true) : Moves c s s.purgeExpired := by
  unfold State.purgeExpired
  split
  · exact .refl
  · split
    · exact (Moves.one (.chamber s { s.chamber with confirm := none, purgeTimer := none, purgeFault := true }
        rfl rfl rfl rfl rfl rfl)).trans (Moves.enterChamber _ hr (by simp))
    · exact .refl

theorem Moves.chamberPass (hr : s.running = true) (hg : s.feed.gate = none) : Moves c s s.chamberPass := by
  have h1 : Moves c s (s.setChamber { s.chamber with loaded := true }) := .one (.chamber s _ rfl rfl rfl rfl rfl rfl)
  unfold State.chamberPass
  exact Moves.ite (fun _ => h1.trans (Moves.enterChamber _ hr (fun _ => .inr hg))) (fun _ => h1)

theorem Moves.chamberThroatEmpty (hr : s.running = true) : Moves c s s.chamberThroatEmpty := by
  have h1 : Moves c s (s.setChamber { s.chamber with loaded := false }) := .one (.chamber s _ rfl rfl rfl rfl rfl rfl)
  unfold State.chamberThroatEmpty
  exact Moves.ite (fun _ => h1.trans (Moves.enterChamber _ hr (by simp))) (fun _ => h1)

/-! ### The feed -/

theorem Moves.feedPass : Moves c s s.feedPass := by
  unfold State.feedPass
  split
  · next e he => exact .one (.pass s e _ he rfl rfl rfl rfl rfl rfl)
  · next he =>
    dsimp only
    rw [State.raiseFeed, ← State.raise_askFeed]
    exact (Moves.one (.unexpected s { s.feed with faults := { s.feed.faults with unexpectedPass := true }, memory := none }
      he rfl rfl rfl rfl rfl rfl)).trans (Moves.raise _)

theorem State.feedPass_gate (s : State) : s.feedPass.feed.gate = none := by
  unfold State.feedPass
  split
  · simp [Feed.closeGate]
  · next he => simpa using he

theorem Moves.feedThroatEmpty : Moves c s s.feedThroatEmpty := by
  unfold State.feedThroatEmpty
  split
  · next e _ =>
    exact (Moves.one (.feed s s.feed.dropShred rfl rfl rfl rfl rfl (.inl rfl))).trans
      (Moves.one (.askLate _ _ ⟨e, .inr rfl⟩))
  · exact .refl

theorem Moves.gateExpired : Moves c s s.gateExpired := by
  unfold State.gateExpired
  split
  · exact (Moves.startReturn.trans (Moves.addFeedFault _)).trans Moves.evalAdmission
  · exact .refl

theorem Moves.shredExpired : Moves c s s.shredExpired := by
  unfold State.shredExpired
  split
  · exact (Moves.loseShred.trans (Moves.addFeedFault _)).trans Moves.evalAdmission
  · exact .refl

theorem Moves.windowEnded : Moves c s s.windowEnded := .one (.feed s _ rfl rfl rfl rfl rfl (.inr rfl))

/-! ### Fire zones -/

theorem Moves.detectorReading (d : DetId) (f : Bool) (v : Int) (hr : s.running = true) :
    Moves c s (s.detectorReading d f v) := by
  unfold State.detectorReading
  split
  · exact .refl
  · next m hm =>
    dsimp only
    exact Moves.ite (fun _ => Moves.moveDetector d m _ hr hm)
      (fun _ => Moves.ite (fun _ => Moves.moveDetector d m _ hr hm) (fun _ => Moves.moveDetector d m _ hr hm))

theorem Moves.detectorLapse (d : DetId) (hr : s.running = true) : Moves c s (s.detectorLapse d) := by
  unfold State.detectorLapse
  split
  · exact .refl
  · next m hm => exact Moves.ite (fun _ => Moves.moveDetector d m _ hr hm) (fun _ => .refl)

theorem Moves.takeReading (r : Reading) (hr : s.running = true) : Moves c s (s.takeReading r) := by
  unfold State.takeReading
  split
  · exact .refl
  · have h1 : Moves c s (s.setSensor r.address { toggle := some r.toggle, value := some r.value }) := .one (.sensor s _ _)
    refine h1.trans ?_
    unfold State.deliver
    split
    · exact Moves.detectorReading _ _ _ hr
    · exact Moves.ite (fun _ => Moves.analyserReading _ _ _ hr) (fun _ =>
        Moves.ite (fun _ => Moves.analyserReading _ _ _ hr) (fun _ => .refl))

theorem Moves.onSensorLink (bytes : List Byte) : Moves c s (s.onSensorLink bytes) := by
  unfold State.onSensorLink
  split
  · next hr =>
    split
    · exact Moves.takeReading _ hr
    · exact .refl
  · exact .refl

theorem Moves.scanAll (l : List ZoneId) (f : ZoneId → Bool) (hr : s.running = true) :
    Moves c s (l.foldl (fun u z => u.scanFlame z (f z)) s) := by
  induction l generalizing s with
  | nil => exact .refl
  | cons z l ih =>
    have h1 : Moves c s (s.scanFlame z (f z)) := Moves.scanFlame z _ hr
    exact h1.trans (ih (h1.running.trans hr))

theorem Moves.clearZone (z : ZoneId) (hr : s.running = true) (hq : s.zoneQuiet z = true)
    (hi : c.front = some (.clearAlarm .plant z.1)) : Moves c s (s.clearZone z) := by
  have h1 : Moves c s ((s.setZone z { s.zone z with state := .normal }).raiseZone z 0) :=
    (Moves.one (.clear s z hq hi)).trans (Moves.raise _)
  have h2 := h1.trans (Moves.foldl (fun t b => Moves.dropHold (c := c) (s := t) b .zoneAlarm) (zoneBays z) _)
  have h3 := h2.trans (Moves.ite (p := z = 6) (fun _ => Moves.chamberFireExit (h2.running.trans hr)) (fun _ => .refl))
  exact h3.trans (Moves.ite (fun _ => Moves.feedZoneClear z) (fun _ => .refl))

/-- The map entry of an address replaced (R161): the old channel leaves, then the new one joins. -/
theorem Moves.remap (d : DetId) (x : Option MapEntry) (hr : s.running = true) : Moves c s (s.remap d x) := by
  have hjoin : ∀ t : State, t.running = true → t.settings.detectors.get d = none →
      Moves c t (match x with
        | some m => ((t.setSettings { t.settings with detectors := t.settings.detectors.set d x }).setDetector d {}).vote m.zone
        | none => (t.setSettings { t.settings with detectors := t.settings.detectors.set d x }).setDetector d {}) := by
    intro t ht hd
    cases x with
    | some m => exact (Moves.one (.map t d m hd)).trans (Moves.vote m.zone ht)
    | none =>
      have : t.settings.detectors.set d none = t.settings.detectors := by rw [← hd, Bank.set_self]
      rw [this]
      exact .one (.detectorQuiet t d {} (.inr hd))
  unfold State.remap
  dsimp only
  refine Moves.ite (fun _ => .refl) (fun _ => ?_)
  cases ho : s.settings.detectors.get d with
  | none =>
    have hs : s.setSettings { s.settings with detectors := s.settings.detectors.set d none } = s := by
      rw [← ho, Bank.set_self]; rfl
    simp only [hs]
    exact hjoin s hr ho
  | some m =>
    have h1 := (Moves.one (c := c) (.unmap s d m ho)).trans (Moves.vote m.zone hr)
    exact h1.trans (hjoin _ (h1.running.trans hr) (by simp))

end Sys2Proof.Machine
end

section
/-!
PROOFS. The port requests that take no grant, and the frames that reach no block, as chains of moves.
-/

namespace Sys2Proof.Machine

variable {c : Cause} {s : State}

/-! ### Answers and frames -/

theorem Moves.answer (p : Port) (e : Nat) (rep : Reply) : Moves c s (s.answer p e rep) :=
  .one (.port s p _ rfl rfl rfl (.inr rfl))

theorem Moves.countOverrun (p : Port) : Moves c s (s.countOverrun p) := .one (.port s p _ rfl rfl rfl (.inl rfl))

/-- A request that is served as it arrives is checked first; the checks only answer (R13, R185). -/
theorem Moves.served (p : Port) (req : Instr) {f : State → Reply × State}
    (h : s.running = true → portAccepts req = true → operandsOk req = true → Moves c s (f s).2) :
    Moves c s (s.served p req f) := by
  unfold State.served State.receive
  refine Moves.ite (fun _ => .refl) (fun ht => Moves.ite (fun _ => Moves.countOverrun p) (fun _ =>
    Moves.ite (fun _ => Moves.answer ..) (fun ha => Moves.ite (fun _ => Moves.answer ..) (fun ho => ?_))))
  have hr : s.running = true := by
    refine Classical.byContradiction fun hn => ?_
    simp [State.takesFrame, hn] at ht
  exact (h hr (by simpa using ha) (by simpa using ho)).trans (Moves.answer ..)

theorem Moves.rejectFrame (p : Port) (e : Nat) (st : Status) : Moves c s (s.rejectFrame p e st) :=
  Moves.ite (fun _ => .refl) (fun _ => Moves.ite (fun _ => Moves.countOverrun p) (fun _ => Moves.answer ..))

theorem Moves.onFrameError (p : Port) (bytes : List Byte) : Moves c s (s.onFrameError p bytes) := by
  unfold State.onFrameError
  split
  · exact Moves.rejectFrame ..
  · exact .refl

theorem Moves.onUnknownRequest (p : Port) (bytes : List Byte) : Moves c s (s.onUnknownRequest p bytes) := by
  unfold State.onUnknownRequest
  split
  · exact Moves.rejectFrame ..
  · exact .refl

theorem Moves.onOverrun (p : Port) : Moves c s (s.onOverrun p) :=
  Moves.ite (fun _ => Moves.countOverrun p) (fun _ => .refl)

theorem Moves.cutFrame (p : Port) (bytes : List Byte) : Moves c s (s.cutFrame p bytes) :=
  Moves.ite (fun _ => Moves.rejectFrame ..) (fun _ => .refl)

theorem Moves.onAnswerSent (p : Port) : Moves c s (s.onAnswerSent p) := by
  refine Moves.ite (fun h => ?_) (fun _ => .refl)
  have hx : (s.port p).finishSending.attn = (s.port p).attn ∧ (s.port p).finishSending.mask = (s.port p).mask
      ∧ (s.port p).finishSending.attnLine = (s.port p).attnLine
      ∧ ((s.port p).finishSending.waitingRequest = (s.port p).waitingRequest
        ∨ (s.port p).finishSending.waitingRequest = none) := by
    unfold PortState.finishSending
    split <;> simp [PortState.clearMarks, PortState.waitingRequest]
  obtain ⟨ha, hm, hl, hw⟩ := hx
  exact .one (.port s p _ ha hm hl hw)

theorem Moves.onChipSelectRise (cut : List Byte) (b : Bool) : Moves c s (s.onChipSelectRise cut b) := by
  refine Moves.ite (fun _ => ?_) (fun _ => .refl)
  have hx : (s.port .line).beginSending.attn = (s.port .line).attn ∧ (s.port .line).beginSending.mask = (s.port .line).mask
      ∧ (s.port .line).beginSending.attnLine = (s.port .line).attnLine
      ∧ ((s.port .line).beginSending.waitingRequest = (s.port .line).waitingRequest
        ∨ (s.port .line).beginSending.waitingRequest = none) := by
    unfold PortState.beginSending
    split <;> simp [PortState.clearMarks, PortState.waitingRequest]
  obtain ⟨ha, hm, hl, hw⟩ := hx
  have h1 : Moves c s (if b = true then s.setPort .line (s.port .line).beginSending else s) :=
    Moves.ite (fun _ => .one (.port s .line _ ha hm hl hw)) (fun _ => .refl)
  exact (h1.trans (Moves.cutFrame .line cut)).trans (.one (.port _ .line _ rfl rfl rfl (.inl rfl)))

theorem Moves.expireLock (hr : s.running = true) : Moves c s s.expireLock := by
  unfold State.expireLock
  split
  · exact .refl
  · next l _ =>
    have h1 : Moves c s ((s.setArb { s.arb with lock := none }).raisePort l.holder (fun a => { a with lockExpired := true })) :=
      (Moves.one (.lock s none)).trans (Moves.raisePort _ _)
    exact h1.trans (.one (.port _ l.holder _ rfl rfl rfl (.inl rfl)))

/-! ### Requests of the bays -/

theorem Moves.onBay (bay : Nat) {f : BayId → Reply × State} (h : ∀ b, Moves c s (f b).2) : Moves c s (s.onBay bay f).2 := by
  unfold State.onBay
  split
  · exact h _
  · exact .refl

theorem Moves.serveSoftStop (bay v : Nat) : Moves c s (s.serveSoftStop bay v).2 :=
  Moves.onBay bay (fun b => (Moves.modBay .core).trans (Moves.stopChanged b _))

/-- A new cap keeps the level legal: in ACTIVE the level is at most the cap (R69). -/
theorem Bay.LevelLegal.capped {x : Bay} {cap new : Nat} (h : x.LevelLegal cap) (h1 : 1 ≤ new) (h2 : new ≤ 15) :
    (x.capped new).LevelLegal new := by
  obtain ⟨hz, hr, ha, hp, -, -⟩ := h
  unfold Bay.capped Bay.setLevel
  split
  · next hm =>
    split
    · next he =>
      exact ⟨fun k => absurd hm k, fun k => absurd (hm.symm.trans k) (by simp), fun _ => by simp at he ⊢; omega,
        hp, h1, h2⟩
    · exact ⟨fun k => absurd hm k, fun k => absurd (hm.symm.trans k) (by simp), fun _ => Nat.min_le_right _ _,
        fun k => by simp [hp k], h1, h2⟩
  · next hm => exact ⟨hz, hr, fun k => absurd k hm, hp, h1, h2⟩

theorem Bay.capped_mode (x : Bay) (n : Nat) : (x.capped n).mode = x.mode := by
  unfold Bay.capped Bay.setLevel
  split
  · split <;> rfl
  · rfl
theorem Bay.capped_rest (x : Bay) (n : Nat) : (x.capped n).binding = x.binding ∧ (x.capped n).pack = x.pack
    ∧ (x.capped n).frac = x.frac ∧ (x.capped n).writes = x.writes ∧ (x.capped n).fault = x.fault := by
  unfold Bay.capped Bay.setLevel
  split
  · split <;> exact ⟨rfl, rfl, rfl, rfl, rfl⟩
  · exact ⟨rfl, rfl, rfl, rfl, rfl⟩

theorem Moves.serveLevelCap (bay cap : Nat) (h1 : 1 ≤ cap) (h2 : cap ≤ 15) : Moves c s (s.serveLevelCap bay cap).2 := by
  refine Moves.onBay bay (fun b => ?_)
  split
  · exact .refl
  · obtain ⟨hb, hp, hf, hw, hfault⟩ := (s.bay b).capped_rest cap
    exact .one (.bayCfg s b { s.bayCfg b with cap := cap } ((s.bay b).capped cap) h1 h2 ⟨hb, hp, hf, hw⟩
      (fun h => h.capped h1 h2)
      (by unfold Bay.BindOk; rw [Bay.capped_mode, hb, hfault]; exact id))

theorem Moves.serveClearFault (bay : Nat) : Moves c s (s.serveClearFault bay).2 := by
  refine Moves.onBay bay (fun b => ?_)
  split
  · exact .refl
  · next hm =>
    split
    · exact .refl
    · next hn =>
      refine Moves.clearTheFault b (by simpa using hm) ?_
      refine Classical.byContradiction fun hp => ?_
      exact hn (by simp [State.faultStands, hp])

/-- New settings of an unbound bay (R175): its state follows the effective stop. -/
theorem Moves.serveBayConfig (bay : Nat) (k : BayCfg) (h1 : 1 ≤ k.cap) (h2 : k.cap ≤ 15) :
    Moves c s (s.serveBayConfig bay k).2 := by
  refine Moves.onBay bay (fun b => ?_)
  split
  · exact .refl
  · next hc =>
    have hcfg : (s.bay b).mode = .unconfigured ∨ (s.bay b).mode = .stopped ∨ (s.bay b).mode = .idle := by
      cases hm : (s.bay b).mode <;> simp_all [BayState.configurable]
    have hmode : ((s.bay b).configured ((s.setBayCfg b k).restState b) s.settings.timing.link).mode = .stopped
        ∨ ((s.bay b).configured ((s.setBayCfg b k).restState b) s.settings.timing.link).mode = .idle := by
      rcases (s.setBayCfg b k).restState_cases b with h | h <;> unfold Bay.configured <;> split <;> simp [h]
    have hrest : ∀ r n, ((s.bay b).configured r n).binding = (s.bay b).binding ∧ ((s.bay b).configured r n).pack = (s.bay b).pack
        ∧ ((s.bay b).configured r n).frac = (s.bay b).frac ∧ ((s.bay b).configured r n).writes = (s.bay b).writes
        ∧ ((s.bay b).configured r n).level = (s.bay b).level := fun r n => by
      unfold Bay.configured; split <;> exact ⟨rfl, rfl, rfl, rfl, rfl⟩
    obtain ⟨hb, hp, hf, hw, hl⟩ := hrest ((s.setBayCfg b k).restState b) s.settings.timing.link
    refine .one (.bayCfg s b k ((s.bay b).configured _ _) h1 h2 ⟨hb, hp, hf, hw⟩ (fun h => ?_) (fun h => ?_))
    · have hz := hl.trans (h.1 (by rcases hcfg with e | e | e <;> simp [e]) (by rcases hcfg with e | e | e <;> simp [e]))
      have hle : ∀ n, ((s.bay b).configured ((s.setBayCfg b k).restState b) s.settings.timing.link).level ≤ n := fun n => by
        rw [hz]
        exact Nat.zero_le n
      exact ⟨fun _ _ => hz, fun _ => hle _, fun _ => hle _, fun _ => hz, h1, h2⟩
    · exact ⟨fun _ => hb.trans (h.1 hcfg), fun e => by rcases hmode with k | k <;> exact absurd (k.symm.trans e) (by simp)⟩

/-! ### Requests of the chamber, the feed and the zones -/

theorem Moves.servePurge (hr : s.running = true) : Moves c s s.servePurge.2 := by
  unfold State.servePurge
  split
  · next h => exact Moves.startPurge hr h
  · exact .refl

theorem Moves.serveStopChamber (hr : s.running = true) : Moves c s s.serveStopChamber.2 := by
  unfold State.serveStopChamber
  split
  · exact Moves.stopInerting hr
  · exact .refl

theorem Moves.serveResumeFeed : Moves c s s.serveResumeFeed.2 := by
  unfold State.serveResumeFeed
  split
  · exact .refl
  · exact (Moves.one (.feed s { s.feed with faults := {} } rfl rfl rfl rfl rfl (.inl rfl))).trans Moves.evalAdmission

theorem Moves.onZone (zone : Nat) {f : ZoneId → Reply × State} (h : ∀ z, z.1 = zone → Moves c s (f z).2) :
    Moves c s (s.onZone zone f).2 := by
  unfold State.onZone
  split
  · next z hz =>
    refine h z ?_
    unfold zoneOf at hz
    split at hz
    · cases hz; rfl
    · cases hz
  · exact .refl

theorem Moves.serveClearAlarm (zone : Nat) (hr : s.running = true) (hi : c.front = some (.clearAlarm .plant zone)) :
    Moves c s (s.serveClearAlarm zone).2 := by
  refine Moves.onZone zone (fun z hz => ?_)
  dsimp only
  split
  · exact .refl
  · next hq => exact Moves.ite (fun _ => Moves.clearZone z hr (by simpa using hq) (by rw [hz, hi])) (fun _ => .refl)

/-! ### Requests of the settings -/

theorem Moves.serveSetClass (cls : Nat) (k : ClassCfg) : Moves c s (s.serveSetClass cls k).2 := by
  unfold State.serveSetClass
  split
  · exact .refl
  · split
    · exact .refl
    · exact .one (.settings s _ rfl rfl rfl (fun _ => rfl))

theorem Moves.serveZoneConfig (zone : Nat) (k : ZoneCfg) : Moves c s (s.serveZoneConfig zone k).2 :=
  Moves.onZone zone (fun _ _ => .one (.settings s _ rfl rfl rfl (fun _ => rfl)))

theorem Moves.serveDetectorMap (address used zone kind : Nat) (hr : s.running = true) :
    Moves c s (s.serveDetectorMap address used zone kind).2 := by
  unfold State.serveDetectorMap
  split
  · exact .refl
  · split
    · exact .refl
    · exact Moves.remap _ _ hr

theorem Moves.serveChamberConfig (k : ChamberCfg) : Moves c s (s.serveChamberConfig k).2 := by
  unfold State.serveChamberConfig
  split
  · next h => exact .one (.chamberCfg s k (.inl h))
  · next h => exact .one (.chamberCfg s k (.inr h))
  all_goals exact .refl

theorem Moves.serveTiming (link lockMs rebound gate shred : Option Nat) :
    Moves c s (s.serveTiming link lockMs rebound gate shred).2 := by
  unfold State.serveTiming
  split
  · exact .refl
  · dsimp only
    generalize ht : ({ s.settings.timing with link := _, lockMs := _, rebound := _, gateSec := _, shredSec := _ } : Timing) = t
    have hb : ∀ n b, (s.bay b).Keeps (s.bayCfg b).cap
        ((s.bays.map (fun x => if x.link = .lost then { x with periods := n } else x)).get b) := fun n b => by
      rw [Bank.get_map]
      split
      · exact .core
      · exact .core
    exact (Moves.one (.settings s { s.settings with timing := t } rfl rfl rfl (fun _ => rfl))).trans (.one
      (.bays (s.setSettings { s.settings with timing := t }) _ (hb _)))

end Sys2Proof.Machine
end

section
/-!
PROOFS. The port requests that take a grant, and the end of a grant, as chains of moves.
-/

namespace Sys2Proof.Machine

variable {c : Cause} {s t : State}

/-! ### What a step may do: the requests and writes that free a slot or begin a counting period -/

/-- The commands that may free a slot. -/
def freesSlot : Instr → Bool
  | .retire .. | .confirmShred .. | .retirementWrite => true
  | _ => false

/-- What a command may do is among what the step may do. -/
structure Cause.Allows (c : Cause) (i : Instr) : Prop where
  resets : ∀ p, i = .resetTallies p → c.resets
  frees : freesSlot i = true → c.frees

/-- What the step may do is named by the state it begins in. -/
structure Cause.Fits (c : Cause) (s : State) : Prop where
  calm : c.calm → s.arb.access = .parked → s.arb.feedWrites = []
  massed : c.massed → s.MassesOk
  waiting : ∀ p req, (s.port p).waitingRequest = some req → c.Allows req

/-! ### The requests that wait -/

theorem PortState.attend_waitingRequest (x : PortState) (f : Attn → Attn) : (x.attend f).waitingRequest = x.waitingRequest := rfl

theorem State.setPort_waiting (s : State) (p q : Port) (x : PortState)
    (h : x.waitingRequest = (s.port p).waitingRequest ∨ x.waitingRequest = none) :
    ((s.setPort p x).port q).waitingRequest = (s.port q).waitingRequest ∨ ((s.setPort p x).port q).waitingRequest = none := by
  by_cases e : q = p
  · subst e; simpa using h
  · exact .inl (by rw [s.setPort_port_other p q x e])

theorem State.raise_waiting (s : State) (f : Attn → Attn) (q : Port) :
    ((s.raise f).port q).waitingRequest = (s.port q).waitingRequest := by
  cases hr : s.running with
  | false => simp [State.raise, State.raisePort, hr]
  | true => rw [s.raise_eq hr]; cases q <;> rfl

theorem State.port_of (s t : State) (hl : t.line = s.line) (hp : t.plant = s.plant) (q : Port) :
    (t.port q).waitingRequest = (s.port q).waitingRequest := by cases q <;> simp [State.port, hl, hp]

theorem State.startReturn_waiting (s : State) (q : Port) :
    (s.startReturn.port q).waitingRequest = (s.port q).waitingRequest := by
  unfold State.startReturn
  split
  · rfl
  · rw [State.raiseFeed, State.raise_waiting]
    exact State.port_of _ _ (by simp) (by simp) q

theorem State.enterChamber_waiting (s : State) (g : ChamberState) (q : Port) :
    ((s.enterChamber g).port q).waitingRequest = (s.port q).waitingRequest := by
  have h2 : ((((s.setChamber { s.chamber with state := g }).driveChamber).raiseChamber).port q).waitingRequest
      = (s.port q).waitingRequest := by
    rw [State.raiseChamber, State.raise_waiting]; exact State.port_of _ _ rfl rfl q
  unfold State.enterChamber
  split
  · rfl
  · rw [← h2]
    unfold State.feedChamberReport
    rw [State.port_of _ _ (State.evalAdmission_line _) (State.evalAdmission_plant _)]
    split
    · split
      iterate 3 exact State.startReturn_waiting _ _
      all_goals rfl
    · rfl

theorem State.pullFromFeed_ports (s : State) (k : Slot) (r : Rec) :
    (s.pullFromFeed k r).line = s.line ∧ (s.pullFromFeed k r).plant = s.plant := by
  unfold State.pullFromFeed; dsimp only; split <;> exact ⟨rfl, rfl⟩

theorem State.amendField_ports (s : State) (k : Slot) (r : Rec) (f : OpField) (v : Nat) :
    (s.amendField k r f v).line = s.line ∧ (s.amendField k r f v).plant = s.plant := by
  unfold State.amendField
  split
  · split <;> exact ⟨rfl, rfl⟩
  all_goals exact ⟨rfl, rfl⟩

/-- A move lets no new request wait. -/
theorem Move.waiting (h : Move c s t) (q : Port) :
    (t.port q).waitingRequest = (s.port q).waitingRequest ∨ (t.port q).waitingRequest = none := by
  have key : ∀ t : State, t.line = s.line → t.plant = s.plant →
      (t.port q).waitingRequest = (s.port q).waitingRequest ∨ (t.port q).waitingRequest = none :=
    fun t hl hp => .inl (State.port_of s t hl hp q)
  cases h
  case port p x _ _ _ hw => exact State.setPort_waiting s p q x hw
  case attend p f _ => exact State.setPort_waiting s p q _ (.inl rfl)
  case mask p m _ => exact State.setPort_waiting s p q _ (.inl rfl)
  case enterChamber g _ _ => exact .inl (State.enterChamber_waiting s g q)
  case pull k r _ _ => exact key _ (s.pullFromFeed_ports k r).1 (s.pullFromFeed_ports k r).2
  case amend k r f v _ _ => exact key _ (s.amendField_ports k r f v).1 (s.amendField_ports k r f v).2
  case evalAdmission | askLate | startReturn | pass | unexpected | enqueue | withdraw => exact key _ (by simp) (by simp)
  case openGate => exact key _ (by simp [State.popFeed]) (by simp [State.popFeed])
  all_goals exact key _ rfl rfl

theorem Moves.waiting (h : Moves c s t) {q : Port} {req : Instr} (hw : (t.port q).waitingRequest = some req) :
    (s.port q).waitingRequest = some req := by
  induction h with
  | refl => exact hw
  | tail _ k ih =>
    rcases k.waiting q with e | e
    · exact ih (e ▸ hw)
    · rw [e] at hw; cases hw

/-! ### A record a request names -/

/-- A record-changing request that is refused changes nothing; one that is carried out has its record (R13). -/
theorem Moves.onRecord (p : Port) (o : Option Slot) {f : Slot → Rec → Reply × State}
    (h : ∀ k r, s.record k = some r → Moves c s (f k r).2) : Moves c s (s.onRecord p o f).2 := by
  unfold State.onRecord
  split
  · exact .refl
  · split
    · exact .refl
    · next k =>
      split
      · exact .refl
      · next r hv =>
        have hr : s.record k = some r := by
          unfold State.visible at hv
          split at hv
          · exact hv
          · cases hv
        split
        · exact h k r hr
        · exact .refl

theorem Moves.anyRecord (tag : Nat) {f : Slot → Rec → Reply × State}
    (h : ∀ k r, s.record k = some r → Moves c s (f k r).2) : Moves c s (s.anyRecord tag f).2 := by
  unfold State.anyRecord
  split
  · exact .refl
  · split
    · exact .refl
    · next hr => exact h _ _ hr

theorem State.named_record {e : Entry} {r : Rec} (h : s.named e = some r) : s.record e.slot = some r ∧ r.tag = e.tag := by
  unfold State.named at h
  split at h
  · next q hq =>
    split at h
    · next ht => cases h; exact ⟨hq, ht⟩
    · cases h
  · cases h

theorem State.expect_record {e : Entry} {g : Stage} {r : Rec} (h : s.expect e g = some r) :
    s.record e.slot = some r ∧ r.tag = e.tag ∧ r.stage = g := by
  unfold State.expect at h
  split at h
  · next q hq =>
    split at h
    · next hg => cases h; exact ⟨(State.named_record hq).1, (State.named_record hq).2, hg⟩
    · cases h
  · cases h

/-! ### REGISTER, AMEND, RETIRE -/

theorem Moves.grantRegister (p : Port) (tag cls cells capacity declared mass damaged : Nat) :
    Moves c s (s.grantRegister p tag cls cells capacity declared mass damaged).2 := by
  unfold State.grantRegister
  split
  · exact .refl
  · split
    · exact .refl
    split
    · exact .refl
    · next ht =>
      split
      · exact .refl
      · split
        · exact .refl
        · next k hk =>
          have hf : s.record k = none := by
            have := List.find?_some hk
            simp only [Bool.and_eq_true, Option.isNone_iff_eq_none] at this
            exact this.1.1
          exact .one (.register s k p _ tag cells capacity declared mass damaged hf (by simpa using ht))

theorem Moves.grantAmend (p : Port) (kind sel field value : Nat) : Moves c s (s.grantAmend p kind sel field value).2 := by
  unfold State.grantAmend
  split
  · exact .refl
  · refine Moves.onRecord p _ (fun k r hr => ?_)
    split
    · exact .refl
    · split
      · exact .refl
      · next hw =>
        split
        · exact .refl
        · exact .one (.amend s k r _ value hr (by simpa using hw))

theorem Moves.grantRetire (p : Port) (tag : Nat) (hc : c.frees) : Moves c s (s.grantRetire p tag).2 := by
  refine Moves.onRecord p _ (fun k r hr => ?_)
  split
  · exact .refl
  · next hw =>
    split
    · exact .refl
    · exact .one (.retire s k r hr (Classical.byContradiction fun hn => hw (not_or.mp hn)) hc)

/-! ### QUARANTINE, LIFT_QUARANTINE, CONFIRM_SHRED -/

theorem Moves.holdForQuarantine (r : Rec) : Moves c s (s.holdForQuarantine r) := by
  unfold State.holdForQuarantine
  split
  · exact Moves.addHold _ _
  · exact .refl

/-- QUARANTINE set on a record outside the feed. -/
theorem Moves.quarantine (k : Slot) (r : Rec) (hr : s.record k = some r)
    (hq : r.stage ≠ .queued ∧ r.stage ≠ .atGate ∧ r.stage ≠ .inShredder) :
    Moves c s (s.setRecord k (some r.quarantined)) := .one (.flags s k r _ hr (fun _ => .inr hq))

theorem FeedWrite.passEntry_some {w : FeedWrite} {e : Entry} (h : w.passEntry = some e) : w = .pass e := by
  cases w <;> simp_all [FeedWrite.passEntry]

theorem State.makePass_setArb (s : State) (a : Arbiter) (e : Entry) : (s.setArb a).makePass e = (s.makePass e).setArb a := by
  unfold State.makePass
  dsimp only
  split
  · next r hr =>
    have h : (s.setFeed { s.feed with passPending := false }).expect e .atGate = some r := hr
    rw [h]; rfl
  · next hr =>
    have h : (s.setFeed { s.feed with passPending := false }).expect e .atGate = none := hr
    rw [h]; rfl

/-- A pass write made while it still waits (R142). -/
theorem Moves.makePass (e : Entry) (hw : .pass e ∈ s.arb.feedWrites) (hm : c.massed → s.MassesOk) :
    Moves c s (s.makePass e) := by
  have hfeed : Moves c s (s.setFeed { s.feed with passPending := false }) := .one (.feed s _ rfl rfl rfl rfl rfl (.inl rfl))
  unfold State.makePass
  dsimp only
  split
  · next r hr =>
    have hr' : s.expect e .atGate = some r := hr
    exact hfeed.trans (.one (.enterPath _ e r hw hr' (fun k => hm k _ _ (State.expect_record hr').1)))
  · exact hfeed

/-- The pass write is made at the start of another grant (R143). -/
theorem Moves.makeWaitingPass (hm : c.massed → s.MassesOk ∨ s.arb.feedWrites = []) : Moves c s s.makeWaitingPass := by
  unfold State.makeWaitingPass
  split
  · next e he =>
    obtain ⟨w, hw, hwe⟩ := List.exists_of_findSome?_eq_some he
    have hmem : .pass e ∈ s.arb.feedWrites := FeedWrite.passEntry_some hwe ▸ hw
    have hmass : c.massed → s.MassesOk := fun k => (hm k).resolve_right (List.ne_nil_of_mem hmem)
    have harb : (s.makePass e).arb = s.arb := by
      unfold State.makePass; dsimp only; split <;> rfl
    rw [State.makePass_setArb, ← harb]
    exact (Moves.makePass e hmem hmass).trans (.one (.dropWrites _ _ List.filter_sublist))
  · exact .refl

theorem Moves.quarantineAtGate (k : Slot) (hm : c.massed → s.MassesOk ∨ s.arb.feedWrites = []) :
    Moves c s (s.quarantineAtGate k).2 := by
  have h1 := Moves.makeWaitingPass (c := c) hm
  unfold State.quarantineAtGate
  dsimp only
  split
  · next r hr =>
    split
    · next hg => exact (h1.trans (.one (.pull _ k r hr (.inr hg)))).trans Moves.evalAdmission
    · exact h1
  · exact h1

theorem Moves.grantQuarantine (p : Port) (tag : Nat) (hm : c.massed → s.MassesOk ∨ s.arb.feedWrites = []) :
    Moves c s (s.grantQuarantine p tag).2 := by
  refine Moves.onRecord p _ (fun k r hr => ?_)
  split
  iterate 2 exact .refl
  · next hg => exact (Moves.one (.pull s k r hr (.inl hg))).trans Moves.evalAdmission
  · exact Moves.quarantineAtGate k hm
  iterate 3 next hg => exact (Moves.quarantine k r hr (by simp [hg])).trans (Moves.holdForQuarantine r)
  iterate 2 next hg => exact Moves.quarantine k r hr (by simp [hg])

theorem Moves.grantLift (tag : Nat) : Moves c s (s.grantLift tag).2 := by
  refine Moves.anyRecord tag (fun k r hr => ?_)
  split
  · exact .refl
  · split
    · have h1 : Moves c s (s.setRecord k (some r.lifted)) := .one (.flags s k r _ hr (fun h => by simp at h))
      dsimp only
      split
      · exact h1.trans (Moves.dropHold _ _)
      · exact h1
    · exact .refl

theorem Moves.grantConfirm (tag outcome : Nat) (hc : c.frees) : Moves c s (s.grantConfirm tag outcome).2 := by
  refine Moves.anyRecord tag (fun k r hr => ?_)
  dsimp only
  split
  · exact .refl
  · next hw =>
    have hw : r.stage = .shredUnconfirmed := by simpa using hw
    split
    · exact (Moves.one (.shredded s k r hr (.inr hw) hc)).trans Moves.evalAdmission
    · exact (Moves.one (.recover s k r hr hw _)).trans Moves.evalAdmission

/-! ### The lock -/

theorem Moves.grantLock (p : Port) : Moves c s (s.grantLock p).2 := by
  unfold State.grantLock
  split
  · exact .refl
  · exact .one (.lock s _)

theorem Moves.grantUnlock (p : Port) : Moves c s (s.grantUnlock p).2 := by
  unfold State.grantUnlock
  split
  · exact .one (.lock s _)
  · exact .refl

/-! ### ASSIGN_BAY and ABORT_BAY -/

/-- The current limit computed anew changes the limit alone (R85). -/
theorem State.computeLimit_eq (s : State) (b : BayId) :
    ∃ o, s.computeLimit b = s.modBay b (fun x => { x with limit := o }) := by
  unfold State.computeLimit
  split
  · exact ⟨_, rfl⟩
  · exact ⟨(s.bay b).limit, (s.setBay_self b).symm⟩

theorem Moves.bindBay (k : Slot) (r : Rec) (b : BayId) (hr : s.record k = some r) (hw : r.stage = .waiting)
    (hq : r.flags.quarantine = false) (hm : (s.bay b).mode = .idle) (hrun : s.running = true) :
    Moves c s (s.bindBay k r b) := by
  obtain ⟨y, hy, e⟩ : ∃ y : Bay, (y.mode = .probing ∧ y.binding = some { slot := k, tag := r.tag } ∧ y.level = 0 ∧ y.frac = 0
        ∧ y.pack = some {} ∧ y.writes = (s.bay b).writes)
      ∧ (((s.setRecord k (some { r with stage := .probing, bay := some b, rebounds := 0 })).modBay b
          (fun x => x.bind { slot := k, tag := r.tag } r)).computeLimit b).modBay b (fun x => { x with pack := some {} })
        = (s.setRecord k (some { r with stage := .probing, bay := some b, rebounds := 0 })).setBay b y := by
    obtain ⟨o, ho⟩ := ((s.setRecord k (some { r with stage := .probing, bay := some b, rebounds := 0 })).modBay b
      (fun x => x.bind { slot := k, tag := r.tag } r)).computeLimit_eq b
    refine ⟨{ (s.bay b).bind { slot := k, tag := r.tag } r with limit := o, pack := some {} },
      ⟨rfl, rfl, rfl, rfl, rfl, rfl⟩, ?_⟩
    rw [ho]
    simp [State.modBay, State.setBay_setBay]
  unfold State.bindBay State.packJoin
  dsimp only
  rw [e]
  exact (Moves.one (.bind s k r b y hr hw hq hm hrun hy)).trans (Moves.vote (bayZone b) hrun)

theorem Moves.grantAssign (p : Port) (tag bay : Nat) (hrun : s.running = true) : Moves c s (s.grantAssign p tag bay).2 := by
  unfold State.grantAssign
  split
  · exact .refl
  · refine Moves.onRecord p _ (fun k r hr => ?_)
    split
    · exact .refl
    · next hw =>
      split
      · exact .refl
      · next hq =>
        split
        · exact .refl
        · split
          · exact .refl
          · split
            · exact .refl
            · next hm =>
              split
              · exact .refl
              · exact Moves.bindBay k r _ hr (by simpa using hw) (by simpa using hq) (Classical.byContradiction fun hn => hm (.inl hn)) hrun

/-- A binding ended: the record, then the channel with the vote of its zone (R64, R67). The unbinding write itself has left
the channel's list before. -/
theorem Moves.release (b : BayId) (e : Entry) (r : Rec) (x : Bay) (f : Rec → Rec) (g : Bay → Bay)
    (hb : (s.bay b).binding = some e) (hr : s.named e = some r) (hrun : s.running = true)
    (hx : x.mode = (s.bay b).mode ∧ x.fault = (s.bay b).fault) (hxw : ∀ w ∈ x.writes, w ∈ (s.bay b).writes)
    (hf : ∀ q : Rec, (f q).tag = q.tag ∧ (f q).cls = q.cls ∧ (f q).mass = q.mass ∧ (f q).bay = q.bay
      ∧ (f q).flags.quarantine = q.flags.quarantine)
    (hs : s.BindingLaw → ∀ q, (f q).stage = .waiting ∨ (f q).stage = .discharged)
    (hg : ∀ x : Bay, (g x).binding = x.binding ∧ (g x).pack = x.pack ∧ (g x).frac = x.frac ∧ (g x).level = x.level
      ∧ (g x).releasePending = x.releasePending ∧ (g x).writes = x.writes)
    (hm : ∀ x, ((g x).mode = .faulted ∧ ((g x).fault ≠ none ∨ (x.mode = .faulted ∧ (g x).fault = x.fault)))
      ∨ (g x).mode = .stopped ∨ (g x).mode = .idle) :
    Moves c s (((s.setBay b x).releaseRecord b e r f).releaseBay b e g) := by
  unfold State.releaseRecord State.releaseBay
  dsimp only
  simp only [State.bay_setBay_same]
  obtain ⟨h1, h2, h3, h4, h5, h6⟩ := hg (x.unbound e)
  obtain ⟨k1, k2, k3, k4, k5⟩ := hf { r with energy := satAdd 999999 r.energy (x.unbindEnergy e), bay := none }
  have hmode := hm (x.unbound e)
  rw [show (x.unbound e).mode = (s.bay b).mode from hx.1, show (x.unbound e).fault = (s.bay b).fault from hx.2] at hmode
  have hmove := Move.release (c := c) s b e r (f { r with energy := satAdd 999999 r.energy (x.unbindEnergy e), bay := none })
    (x.unbindEnergy e) (g (x.unbound e)) hb hr hrun ⟨k1, k2, k3, k4, k5⟩ (fun h => hs h _) ⟨h1, h2, h3, h4, h5⟩ hmode
    (fun w hw => hxw w (List.mem_filter.mp (h6 ▸ hw)).1)
  have he : (((s.setBay b x).creditEnergy e.slot r (x.unbindEnergy e)).setRecord e.slot
      (some (f { r with energy := satAdd 999999 r.energy (x.unbindEnergy e), bay := none }))).modBay b (fun y => g (y.unbound e))
      = ((s.creditEnergy e.slot r (x.unbindEnergy e)).setRecord e.slot
      (some (f { r with energy := satAdd 999999 r.energy (x.unbindEnergy e), bay := none }))).setBay b (g (x.unbound e)) := by
    simp only [State.modBay, State.setRecord_bay, State.creditEnergy_bay, State.bay_setBay_same]
    exact State.setBay_setBay (s := (s.creditEnergy e.slot r (x.unbindEnergy e)).setRecord e.slot _) b x _
  rw [he]
  exact ((Moves.one hmove).trans (Moves.vote (bayZone b) hrun)).trans (Moves.raise _)

/-- The unbound state of an aborted bay (R67). -/
theorem Bay.aborted_mode (x : Bay) (g : BayState) (n : Nat) (hg : g = .stopped ∨ g = .idle) :
    ((x.aborted g n).mode = .faulted ∧ ((x.aborted g n).fault ≠ none ∨ (x.mode = .faulted ∧ (x.aborted g n).fault = x.fault)))
      ∨ (x.aborted g n).mode = .stopped ∨ (x.aborted g n).mode = .idle := by
  by_cases hl : x.link = .lost
  · exact .inl (by simp [Bay.aborted, abortFault, hl])
  · rcases hg with k | k <;> simp [Bay.aborted, hl, k]

theorem Moves.abort (b : BayId) (e : Entry) (r : Rec) (g : BayState) (n : Nat) (hg : g = .stopped ∨ g = .idle)
    (he : (s.bay b).binding = some e) (hr : s.named e = some r) (hrun : s.running = true) :
    Moves c s ((s.releaseRecord b e r (fun x => { x with stage := .waiting })).releaseBay b e (fun x => x.aborted g n)) := by
  have h := Moves.release (c := c) b e r (s.bay b) (fun x => { x with stage := .waiting }) (fun x => x.aborted g n) he hr hrun
    ⟨rfl, rfl⟩ (fun _ hw => hw) (fun _ => ⟨rfl, rfl, rfl, rfl, rfl⟩) (fun _ _ => .inl rfl)
    (fun _ => ⟨rfl, rfl, rfl, rfl, rfl, rfl⟩) (fun x => x.aborted_mode g n hg)
  rwa [s.setBay_self b] at h

theorem Moves.grantAbort (p : Port) (bay : Nat) (hrun : s.running = true) : Moves c s (s.grantAbort p bay).2 := by
  unfold State.grantAbort
  split
  · exact .refl
  · next b _ =>
    split
    · exact .refl
    · split
      · exact .refl
      · next e he =>
        split
        · exact .refl
        · split
          · exact .refl
          · split
            · exact .refl
            · next r hr =>
              refine (Moves.abort b e r _ s.freeCount (s.restState_cases b) he hr hrun).trans ?_
              show Moves c _ (State.useFree _ _)
              unfold State.useFree
              exact Moves.ite (fun _ => .one (.free _ _)) (fun _ => .refl)

/-! ### ENQUEUE and WITHDRAW -/

theorem Moves.grantEnqueue (p : Port) (tag : Nat) (hc : c.calm → s.arb.feedWrites = []) :
    Moves c s (s.grantEnqueue p tag).2 := by
  refine Moves.onRecord p _ (fun k r hr => ?_)
  dsimp only
  split
  · exact .refl
  · next hw =>
    split
    · exact .refl
    · next hq =>
      split
      · exact .refl
      · split
        · exact .refl
        · next hl =>
          exact (Moves.one (.enqueue s k r hr (by simpa using hw) (by simpa using hq) (by omega) hc)).trans
            Moves.evalAdmission

theorem Moves.grantWithdraw (p : Port) (tag : Nat) : Moves c s (s.grantWithdraw p tag).2 := by
  refine Moves.onRecord p _ (fun k r hr => ?_)
  dsimp only
  split
  · exact .refl
  · next hw => exact (Moves.one (.withdraw s k r hr (by simpa using hw))).trans Moves.evalAdmission

/-! ### The grant of a port request -/

/-- A request that reads leaves the state. -/
theorem State.reads_state (s : State) (p : Port) (slot tag stage start : Nat) :
    (s.grantReadRecord p slot).2 = s ∧ (s.grantFind p tag).2 = s ∧ (s.grantScan p stage start).2 = s := by
  refine ⟨?_, ?_, ?_⟩
  · unfold State.grantReadRecord
    split
    · rfl
    · split <;> rfl
  · unfold State.grantFind
    split
    · rfl
    · split <;> rfl
  · unfold State.grantScan
    split <;> rfl

theorem serveGrant_readSetting (s : State) (p : Port) (g : Nat) (i : MaybeSent) :
    Machine.serveGrant (.readSetting p g i) s = if g = 6 then some s.grantReadAccess else none := by
  by_cases hg : g = 6
  · subst hg; rfl
  · rw [if_neg hg]
    unfold Machine.serveGrant
    split <;> simp_all

theorem Moves.serveGrant {req : Instr} {rep : Reply × State} (h : serveGrant req s = some rep) (hrun : s.running = true)
    (hc : c.calm → s.arb.feedWrites = []) (hm : c.massed → s.MassesOk ∨ s.arb.feedWrites = []) (ha : c.Allows req) :
    Moves c s rep.2 := by
  cases req
  case readSetting p g i =>
    rw [serveGrant_readSetting] at h
    split at h <;> cases h
    exact .refl
  all_goals first | (cases h; done) | skip
  case readRecord p slot => cases h; exact .of_eq (s.reads_state p slot 0 0 0).1
  case find p tag => cases h; exact .of_eq (s.reads_state p 0 tag 0 0).2.1
  case scan p stage start => cases h; exact .of_eq (s.reads_state p 0 0 stage start).2.2
  case readTallies => cases h; exact .refl
  case register => cases h; exact Moves.grantRegister ..
  case amend => cases h; exact Moves.grantAmend ..
  case retire => cases h; exact Moves.grantRetire _ _ (ha.frees rfl)
  case quarantine => cases h; exact Moves.grantQuarantine _ _ hm
  case assignBay => cases h; exact Moves.grantAssign _ _ _ hrun
  case abortBay => cases h; exact Moves.grantAbort _ _ hrun
  case enqueue => cases h; exact Moves.grantEnqueue _ _ hc
  case withdraw => cases h; exact Moves.grantWithdraw _ _
  case liftQuarantine => cases h; exact Moves.grantLift _
  case confirmShred => cases h; exact Moves.grantConfirm _ _ (ha.frees rfl)
  case resetTallies p => cases h; exact .one (.tallies s (ha.resets p rfl))
  case lockTable => cases h; exact Moves.grantLock _
  case unlockTable => cases h; exact Moves.grantUnlock _
  case setAccess => cases h; exact .one (.window s _)

theorem Moves.grantPort (p : Port) {req : Instr} (hrun : s.running = true) (hc : c.calm → s.arb.feedWrites = [])
    (hm : c.massed → s.MassesOk ∨ s.arb.feedWrites = []) (ha : c.Allows req) : Moves c s (s.grantPort p req) := by
  unfold State.grantPort
  split
  · next rep h => exact (Moves.serveGrant h hrun hc hm ha).trans (Moves.answer ..)
  · exact .refl

/-- With a write of the Feed Controller waiting the arbiter neither parks nor serves a port (R33). -/
theorem State.nextAccess_calm (h : s.nextAccess = .parked ∨ ∃ p, s.nextAccess = .port p) : s.arb.feedWrites = [] := by
  unfold State.nextAccess at h
  split at h
  · simp at h
  · split at h
    · simp at h
    · next hf => simpa using hf

/-- The end of a grant, with the port requests it carries out (R33). -/
theorem Moves.endGrant (n : Nat) (hrun : s.running = true)
    (hw : ∀ p req, (s.port p).waitingRequest = some req → c.Allows req) : Moves c s (s.endGrant n) := by
  induction n generalizing s with
  | zero => exact .one (.access s _ (fun h => State.nextAccess_calm (.inl h)))
  | succ n ih =>
    unfold State.endGrant
    split
    · next p hp =>
      have hcalm := State.nextAccess_calm (.inr ⟨p, hp⟩)
      have h1 : Moves c s (s.setAccess (.port p)) := .one (.access s _ (fun h => by cases h))
      split
      · next req hreq =>
        have h2 : Moves c s ((s.setAccess (.port p)).grantPort p req) :=
          h1.trans (Moves.grantPort p hrun (fun _ => hcalm) (fun _ => .inr hcalm) (hw p req hreq))
        exact h2.trans (ih (h2.running.trans hrun) (fun q r hq => hw q r (h2.waiting hq)))
      · exact h1
    · next hp => exact .one (.access s _ (fun _ => State.nextAccess_calm (.inl hp)))
    · exact .one (.access s _ (fun h => by cases h))

/-! ### A request at the arbiter -/

/-- A chain of moves, and at most one move that ends the step. -/
def Steps (c : Cause) (s t : State) : Prop := ∃ u, Moves c s u ∧ (t = u ∨ Last c u t)

theorem Moves.steps (h : Moves c s t) : Steps c s t := ⟨t, h, .inl rfl⟩

theorem Last.steps (h : Last c s t) : Steps c s t := ⟨s, .refl, .inr h⟩

theorem Moves.then_last {u : State} (h : Moves c s t) (k : Last c t u) : Steps c s u := ⟨t, h, .inr k⟩

/-- A request that takes a grant: checked, then granted at once or waiting (R31, R32). -/
theorem Steps.granted (p : Port) (req : Instr) (hf : c.Fits s) (ha : c.Allows req) : Steps c s (s.granted p req) := by
  unfold State.granted State.receive
  split
  · exact Moves.steps .refl
  · next ht =>
    split
    · exact (Moves.countOverrun p).steps
    · split
      · exact (Moves.answer ..).steps
      · split
        · exact (Moves.answer ..).steps
        · have hr : s.running = true := by
            refine Classical.byContradiction fun hn => ?_
            simp [State.takesFrame, hn] at ht
          show Steps c s (s.reachArbiter p req)
          unfold State.reachArbiter
          split
          · next hp =>
            have h1 : Moves c s (s.setAccess (.port p)) := .one (.access s _ (fun h => by cases h))
            have h2 : Moves c s ((s.setAccess (.port p)).grantPort p req) :=
              h1.trans (Moves.grantPort p hr (fun k => hf.calm k hp) (fun k => .inl (hf.massed k)) ha)
            exact (h2.trans (Moves.endGrant 2 (h2.running.trans hr) (fun q r hq => hf.waiting q r (h2.waiting hq)))).steps
          all_goals exact Last.steps (.wait s p req)

end Sys2Proof.Machine
end

section
/-!
PROOFS. The engines' grants, the end of a period and the starts as chains of moves; then every command, and every step.
-/

namespace Sys2Proof.Machine

variable {c : Cause} {s t : State}

/-! ### The bay channels' writes -/

/-- An engine's grant is its write and the end of the grant (R32). -/
theorem Moves.engineGrant (e : Engine) {f : State → State} (hf : c.Fits s) (h : s.running = true → Moves c s (f s)) :
    Moves c s (s.engineGrant e f) := by
  refine Moves.ite (fun hg => ?_) (fun _ => .refl)
  have h1 := h hg.1
  exact h1.trans (Moves.endGrant 2 (h1.running.trans hg.1) (fun p req hw => hf.waiting p req (h1.waiting hw)))

theorem Moves.popBay (b : BayId) : Moves c s (s.popBay b) :=
  Moves.modBay (.list fun _ hw => .inl (List.mem_of_mem_tail hw))

theorem Moves.makeCarry (e : Entry) : Moves c s (s.makeCarry e) := by
  unfold State.makeCarry
  split
  · next r hr => exact .one (.credit s e.slot r 1 (State.named_record hr).1)
  · exact .refl

/-- A hazard flag is not QUARANTINE. -/
theorem RecFlags.hazard_quarantine (f : RecFlags) (h : HazardFlag) : (f.hazard h).quarantine = f.quarantine := by
  cases h <;> rfl

theorem Moves.makeFlag (e : Entry) (f : HazardFlag) : Moves c s (s.makeFlag e f) := by
  unfold State.makeFlag
  split
  · next r hr =>
    exact .one (.flags s e.slot r _ (State.named_record hr).1 (fun h => .inl (by rwa [RecFlags.hazard_quarantine] at h)))
  · exact .refl

theorem Moves.grantCarry (b : BayId) (hf : c.Fits s) : Moves c s (s.grantCarry b) := by
  unfold State.grantCarry
  split
  · exact Moves.engineGrant _ hf (fun _ => (Moves.popBay b).trans (Moves.makeCarry _))
  · exact .refl

theorem Moves.grantFlag (b : BayId) (hf : c.Fits s) : Moves c s (s.grantFlag b) := by
  unfold State.grantFlag
  split
  · exact Moves.engineGrant _ hf (fun _ => (Moves.popBay b).trans (Moves.makeFlag _ _))
  · exact .refl

/-- A stage write made after it has left the list is one made before (R8). -/
theorem State.popBay_makeStage (s : State) (b : BayId) (w : StageWrite) :
    (s.popBay b).makeStage w = (s.makeStage w).popBay b := by
  unfold State.makeStage
  split
  · next r hr =>
    have h : s.expect w.entry w.expected = some r := hr
    rw [h]; rfl
  · next hr =>
    have h : s.expect w.entry w.expected = none := hr
    rw [h]

theorem Moves.grantStage (b : BayId) (hf : c.Fits s) : Moves c s (s.grantStage b) := by
  unfold State.grantStage
  split
  · next w l hl =>
    refine Moves.engineGrant _ hf (fun _ => ?_)
    rw [State.popBay_makeStage]
    refine Moves.trans ?_ (Moves.popBay b)
    unfold State.makeStage
    split
    · next r hr => exact .one (.stage s b w r (hl ▸ List.mem_cons_self) hr)
    · exact .refl
  · exact .refl

theorem StageWrite.apply_frame (w : StageWrite) (r : Rec) : (w.apply r).tag = r.tag ∧ (w.apply r).cls = r.cls
    ∧ (w.apply r).mass = r.mass ∧ (w.apply r).bay = r.bay ∧ (w.apply r).flags.quarantine = r.flags.quarantine
    ∧ (w.apply r).stage = w.new := by
  unfold StageWrite.apply
  cases w.rest <;> dsimp only <;> split <;> exact ⟨rfl, rfl, rfl, rfl, rfl, rfl⟩

theorem Moves.makeUnbind (b : BayId) (w : StageWrite) (hw : .unbind w ∈ (s.bay b).writes) (hrun : s.running = true) :
    Moves c s ((s.popBay b).makeUnbind b w) := by
  unfold State.makeUnbind
  split
  · next r hr =>
    split
    · next hb =>
      refine Moves.release b w.entry r { s.bay b with writes := (s.bay b).writes.tail } w.apply _ (by simpa [State.popBay] using hb) ?_ hrun ⟨rfl, rfl⟩
        (fun _ h => List.mem_of_mem_tail h)
        (fun q => ?_) (fun h q => ?_) (fun x => ⟨rfl, rfl, rfl, rfl, rfl, rfl⟩) (fun x => ?_)
      · have hx : s.expect w.entry w.expected = some r := hr
        unfold State.expect at hx
        split at hx
        · next q hq => split at hx <;> cases hx; exact hq
        · cases hx
      · obtain ⟨h1, h2, h3, h4, h5, -⟩ := w.apply_frame q
        exact ⟨h1, h2, h3, h4, h5⟩
      · rw [(w.apply_frame q).2.2.2.2.2]
        exact h.writes b _ hw
      · by_cases hm : x.mode = .faulted
        · exact .inl ⟨by simp [Bay.unboundMode, hm], .inr ⟨hm, rfl⟩⟩
        · rcases (s.popBay b).restState_cases b with k | k <;> simp [Bay.unboundMode, hm, k]
    · exact Moves.popBay b
  · exact Moves.popBay b

theorem Moves.grantUnbind (b : BayId) (hf : c.Fits s) : Moves c s (s.grantUnbind b) := by
  unfold State.grantUnbind
  split
  · next w l hl => exact Moves.engineGrant _ hf (fun hrun => Moves.makeUnbind b w (hl ▸ List.mem_cons_self) hrun)
  · exact .refl

/-! ### The Feed Controller's writes -/

theorem Moves.popFeed : Moves c s s.popFeed := .one (.dropWrites s _ (List.tail_sublist _))

theorem Moves.feedGrant {f : State → State} (hf : c.Fits s) (h : s.running = true → Moves c s (f s.popFeed)) :
    Moves c s (s.feedGrant f) :=
  Moves.engineGrant _ hf (fun hrun => (h hrun).trans Moves.evalAdmission)

theorem Moves.makeAdmission (e : Entry) (l : List FeedWrite) (hl : s.arb.feedWrites = .admission e :: l)
    (hrun : s.running = true) : Moves c s (s.popFeed.makeAdmission e) := by
  have hrefuse : Moves c s ((s.popFeed.setFeed { s.feed with admissionWaiting := false }).evalAdmission) :=
    (Moves.one (.popAdmission s e l hl)).trans Moves.evalAdmission
  unfold State.makeAdmission
  dsimp only
  split
  · next r hr =>
    split
    · next h => exact .one (.openGate s e l r _ hrun hl hr h.1 h.2 rfl)
    · exact hrefuse
  · exact hrefuse

theorem Moves.grantAdmission (hf : c.Fits s) : Moves c s s.grantAdmission := by
  unfold State.grantAdmission
  split
  · next e l hl => exact Moves.feedGrant hf (Moves.makeAdmission e l hl)
  · exact .refl

theorem Moves.grantPass (hf : c.Fits s) : Moves c s s.grantPass := by
  unfold State.grantPass
  split
  · next e l hl =>
    refine Moves.feedGrant hf (fun _ => ?_)
    have hp : s.popFeed.makePass e = (s.makePass e).popFeed := by
      have harb : (s.makePass e).arb = s.arb := by
        unfold State.makePass; dsimp only; split <;> rfl
      rw [State.popFeed, State.popFeed, State.makePass_setArb, harb]
    rw [hp]
    exact (Moves.makePass e (hl ▸ List.mem_cons_self) hf.massed).trans Moves.popFeed
  · exact .refl

theorem Moves.makeUnexpected (o : Option Entry) (hw : .unexpected o ∈ s.arb.feedWrites) (hm : c.massed → s.MassesOk) :
    Moves c s (s.popFeed.makeUnexpected o) := by
  unfold State.makeUnexpected
  split
  · next e =>
    split
    · next r hr =>
      have hr' : s.expect e .queued = some r := hr
      exact ((Moves.one (.takenPath s e r hw hr' (fun k => hm k _ _ (State.expect_record hr').1))).trans
        (Moves.popFeed (s := s.enterPath e r true))).trans (Moves.raise _)
    · exact Moves.popFeed
  · exact Moves.popFeed

theorem Moves.grantUnexpected (hf : c.Fits s) : Moves c s s.grantUnexpected := by
  unfold State.grantUnexpected
  split
  · next e l hl => exact Moves.feedGrant hf (fun _ => Moves.makeUnexpected e (hl ▸ List.mem_cons_self) hf.massed)
  · exact .refl

theorem Moves.makeReturn (e : Entry) (hw : .giveBack e ∈ s.arb.feedWrites) : Moves c s (s.popFeed.makeReturn e) := by
  unfold State.makeReturn
  split
  · next r hr =>
    exact (Moves.one (.giveBack s e r hw hr)).trans
      (Moves.popFeed (s := s.setRecord e.slot (some { r.returned with stage := .queued })))
  · exact Moves.popFeed

theorem Moves.grantReturn (hf : c.Fits s) : Moves c s s.grantReturn := by
  unfold State.grantReturn
  split
  · next e l hl => exact Moves.feedGrant hf (fun _ => Moves.makeReturn e (hl ▸ List.mem_cons_self))
  · exact .refl

theorem Moves.makeRetirement (e : Entry) (hc : c.frees) : Moves c s (s.makeRetirement e) := by
  unfold State.makeRetirement
  split
  · next r hr =>
    obtain ⟨hrec, ht, hg⟩ := State.expect_record hr
    have h := Move.shredded (c := c) s e.slot r hrec (.inl hg) hc
    unfold State.retireShredded at h
    rw [ht] at h
    exact .one h
  · exact .refl

theorem Moves.grantRetirement (hf : c.Fits s) (hc : c.frees) : Moves c s s.grantRetirement := by
  unfold State.grantRetirement
  split
  · exact Moves.feedGrant hf (fun _ => Moves.popFeed.trans (Moves.makeRetirement _ hc))
  · exact .refl

theorem Moves.makeUnconfirmed (e : Entry) : Moves c s (s.makeUnconfirmed e) := by
  unfold State.makeUnconfirmed
  split
  · next r hr =>
    obtain ⟨hrec, -, hg⟩ := State.expect_record hr
    exact (Moves.one (.unconfirm s e.slot r r.flags hrec hg)).trans (Moves.raise _)
  · exact .refl

theorem Moves.grantUnconfirmed (hf : c.Fits s) : Moves c s s.grantUnconfirmed := by
  unfold State.grantUnconfirmed
  split
  · exact Moves.feedGrant hf (fun _ => Moves.popFeed.trans (Moves.makeUnconfirmed _))
  · exact .refl

/-! ### Quarantine sweeps -/

theorem Moves.sweepRecord (z : ZoneId) (k : Slot) : Moves c s (s.sweepRecord z k) := by
  unfold State.sweepRecord
  split
  · exact .refl
  · next r hr =>
    split
    iterate 3
      next hg => exact Moves.ite (fun _ => (Moves.quarantine k r hr (by simp [hg])).trans (Moves.holdForQuarantine r)) (fun _ => .refl)
    iterate 2
      next hg => exact Moves.ite (fun _ => Moves.quarantine k r hr (by simp [hg])) (fun _ => .refl)
    · next hg => exact Moves.ite (fun _ => .one (.pull s k r hr (.inl hg))) (fun _ => .refl)
    · next hg => exact Moves.ite (fun _ => .one (.pull s k r hr (.inr hg))) (fun _ => .refl)
    · next hg => exact Moves.ite (fun _ => .one (.unconfirm s k r r.quarantined.flags hr hg)) (fun _ => .refl)
    · next hg => exact Moves.ite (fun _ => Moves.quarantine k r hr (by simp [hg])) (fun _ => .refl)

theorem Moves.sweepAttention (u : State) (z : ZoneId) : Moves c s (s.sweepAttention u z) :=
  Moves.ite (fun _ => Moves.raise _) (fun _ => .refl)

theorem State.sweepAttention_record (s u : State) (z : ZoneId) (i : Slot) : (s.sweepAttention u z).record i = s.record i := by
  unfold State.sweepAttention; split <;> simp

theorem Moves.makeSweep (z : ZoneId) (hm : c.massed → s.MassesOk) : Moves c s (s.makeSweep z) := by
  have h1 : Moves c s (s.setZone z { s.zone z with sweepWaiting := false }) := .one (.sweepWaiting s z false)
  have h2 := h1.trans (Moves.ite (p := z = 5 ∨ z = 6) (fun _ => Moves.makeWaitingPass (fun k => .inl (hm k))) (fun _ => .refl))
  have h3 := h2.trans (Moves.foldl (fun u k => Moves.sweepRecord (c := c) (s := u) z k) (Bank.places 256) _)
  exact (h3.trans (Moves.sweepAttention _ z)).trans Moves.evalAdmission

theorem Moves.popSweep : Moves c s s.popSweep := .one (.sweeps s _)

theorem Moves.grantSweep (hf : c.Fits s) : Moves c s s.grantSweep := by
  unfold State.grantSweep
  split
  · split
    · exact Moves.engineGrant _ hf (fun _ => Moves.popSweep.trans (Moves.makeSweep _ hf.massed))
    · exact (Moves.popSweep.trans (Moves.makeSweep _ hf.massed)).trans
        (.one (.access _ _ (fun h => State.nextAccess_calm (.inl h))))
    all_goals exact .refl
  · exact .refl

/-! ### The masses through a sweep -/

theorem State.MassesOk.setRecord (h : s.MassesOk) (k : Slot) (r : Rec) (hr : r.mass ≤ 10000) :
    (s.setRecord k (some r)).MassesOk := by
  intro i q hq
  rw [State.record_setRecord] at hq
  split at hq
  · cases hq; exact hr
  · exact h i q hq

theorem State.MassesOk.of_record (h : s.MassesOk) (ht : ∀ i, t.record i = s.record i) : t.MassesOk :=
  fun i r hr => h i r (ht i ▸ hr)

theorem State.MassesOk.makePass (h : s.MassesOk) (e : Entry) : (s.makePass e).MassesOk := by
  unfold State.makePass
  dsimp only
  split
  · next r hr =>
    have hr' : s.expect e .atGate = some r := hr
    exact (h.setRecord e.slot { r with stage := .inShredder } (h _ r (State.expect_record hr').1 :)).of_record (fun _ => rfl)
  · exact h

theorem State.MassesOk.makeWaitingPass (h : s.MassesOk) : s.makeWaitingPass.MassesOk := by
  unfold State.makeWaitingPass
  split
  · rw [State.makePass_setArb]; exact h.makePass _
  · exact h

theorem State.MassesOk.pullFromFeed (h : s.MassesOk) (k : Slot) (r : Rec) (hr : r.mass ≤ 10000) :
    (s.pullFromFeed k r).MassesOk := by
  unfold State.pullFromFeed
  dsimp only
  split
  · exact (h.setRecord k { r.quarantined.returned with stage := .discharged } hr).of_record (fun _ => rfl)
  · exact (h.setRecord k { r.quarantined with stage := .discharged } hr).of_record (fun _ => rfl)

theorem State.MassesOk.sweepRecord (h : s.MassesOk) (z : ZoneId) (k : Slot) : (s.sweepRecord z k).MassesOk := by
  unfold State.sweepRecord
  split
  · exact h
  · next r hr =>
    have hm := h k r hr
    split
    iterate 3
      split
      · exact (h.setRecord k r.quarantined hm).of_record (fun _ => by unfold State.holdForQuarantine; split <;> simp)
      · exact h
    iterate 2
      split
      · exact h.setRecord k r.quarantined hm
      · exact h
    iterate 2
      split
      · exact h.pullFromFeed k r hm
      · exact h
    · split
      · exact (h.setRecord k { r.quarantined with stage := .shredUnconfirmed } hm).of_record (fun _ => rfl)
      · exact h
    · split
      · exact h.setRecord k r.quarantined hm
      · exact h

theorem State.MassesOk.makeSweep (h : s.MassesOk) (z : ZoneId) : (s.makeSweep z).MassesOk := by
  have hs : ∀ (l : List Slot) (u : State), u.MassesOk → (l.foldl (State.sweepRecord z) u).MassesOk := by
    intro l
    induction l with
    | nil => exact fun _ hu => hu
    | cons k l ih => exact fun u hu => ih _ (hu.sweepRecord z k)
  have h2 : (if z = 5 ∨ z = 6 then (s.setZone z { s.zone z with sweepWaiting := false }).makeWaitingPass
      else s.setZone z { s.zone z with sweepWaiting := false }).MassesOk := by
    split
    · exact State.MassesOk.makeWaitingPass (s := s.setZone z _) h
    · exact h
  refine (hs (Bank.places 256) _ h2).of_record (fun i => ?_)
  unfold State.makeSweep
  rw [State.evalAdmission_record, State.sweepAttention_record]
  rfl

theorem Moves.remainingSweeps (hm : c.massed → s.MassesOk) : Moves c s s.remainingSweeps := by
  have hl : ∀ (l : List ZoneId) (u : State), (c.massed → u.MassesOk) → Moves c u (l.foldl (fun t z => t.popSweep.makeSweep z) u) := by
    intro l
    induction l with
    | nil => exact fun _ _ => .refl
    | cons z l ih =>
      intro u hu
      have h1 : Moves c u (u.popSweep.makeSweep z) := Moves.popSweep.trans (Moves.makeSweep z hu)
      exact h1.trans (ih _ (fun k => State.MassesOk.makeSweep (s := u.popSweep) (hu k) z))
  exact hl _ s hm

/-! ### The end of a period -/

theorem Moves.foldl_running {α : Type} {f : State → α → State} (h : ∀ s a, s.running = true → Moves c s (f s a)) (l : List α)
    (s : State) (hr : s.running = true) : Moves c s (l.foldl f s) := by
  induction l generalizing s with
  | nil => exact .refl
  | cons a l ih => exact (h s a hr).trans (ih _ ((h s a hr).running.trans hr))

theorem Moves.tickLock (hr : s.running = true) : Moves c s s.tickLock := by
  unfold State.tickLock
  split
  · exact .refl
  · exact Moves.ite (fun _ => Moves.expireLock hr) (fun _ => .one (.lock s _))

theorem Moves.tickLink (b : BayId) (hr : s.running = true) : Moves c s (s.tickLink b) :=
  Moves.ite (fun _ => Moves.ite (fun _ => Moves.loseLink b hr) (fun _ => Moves.modBay .core)) (fun _ => .refl)

theorem Moves.tickHoldOff (b : BayId) : Moves c s (s.tickHoldOff b) := by
  refine Moves.ite (fun _ => ?_) (fun _ => .refl)
  split
  · exact Moves.ite (fun _ => Moves.expireHoldOff b) (fun _ => Moves.modBay .core)
  · exact .refl

theorem Moves.tickRest (b : BayId) : Moves c s (s.tickRest b) :=
  Moves.ite (fun h => Moves.ite (fun _ => Moves.endRest b h) (fun _ => Moves.modBay .core)) (fun _ => .refl)

theorem Bay.waitsRetry_release {x : Bay} (h : x.waitsRetry = true) : x.releasePending = false := by
  simp only [Bay.waitsRetry, Bool.and_eq_true, Bool.not_eq_true', decide_eq_true_eq] at h
  exact h.2

theorem Moves.tickRetry (b : BayId) : Moves c s (s.tickRetry b) :=
  Moves.ite (fun h => Moves.ite (fun _ => Moves.endRetry b (Bay.waitsRetry_release h)) (fun _ => Moves.modBay .core)) (fun _ => .refl)

theorem Moves.tickBay (b : BayId) (hr : s.running = true) : Moves c s (s.tickBay b) := by
  have h1 := Moves.tickLink (c := c) b hr
  unfold State.tickBay
  dsimp only
  split
  · exact h1.trans (Moves.tickHoldOff b)
  · exact h1.trans (Moves.tickRest b)
  · exact h1.trans (Moves.tickRetry b)
  all_goals exact h1

theorem Moves.tickDetector (d : DetId) (hr : s.running = true) : Moves c s (s.tickDetector d) :=
  Moves.ite (fun _ => Moves.ite (fun _ => Moves.detectorLapse d hr) (fun _ => .one (.detectorQuiet s d _ (.inl rfl)))) (fun _ => .refl)

theorem Moves.tickAnalyser (w : Analyser) (hr : s.running = true) : Moves c s (s.tickAnalyser w) :=
  Moves.ite (fun _ => Moves.ite (fun _ => Moves.analyserLapse w hr) (fun _ => Moves.setAnalyser w _)) (fun _ => .refl)

theorem Moves.tickConfirm (hr : s.running = true) : Moves c s s.tickConfirm := by
  unfold State.tickConfirm
  split
  · exact .refl
  · exact Moves.ite (fun _ => Moves.confirmElapsed hr) (fun _ => .one (.chamber s _ rfl rfl rfl rfl rfl rfl))

theorem Moves.tickPurge (hr : s.running = true) : Moves c s s.tickPurge := by
  unfold State.tickPurge
  split
  · exact .refl
  · exact Moves.ite (fun _ => Moves.purgeExpired hr) (fun _ => .one (.chamber s _ rfl rfl rfl rfl rfl rfl))

theorem Moves.tickGate : Moves c s s.tickGate := by
  unfold State.tickGate
  split
  · exact .refl
  · exact Moves.ite (fun _ => Moves.gateExpired) (fun _ => .one (.feed s _ rfl rfl rfl rfl rfl (.inl rfl)))

theorem Moves.tickShred : Moves c s s.tickShred := by
  unfold State.tickShred
  split
  · exact .refl
  · exact Moves.ite (fun _ => Moves.shredExpired) (fun _ => .one (.feed s _ rfl rfl rfl rfl rfl (.inl rfl)))

theorem Moves.tickWindow : Moves c s s.tickWindow := by
  unfold State.tickWindow
  split
  · exact .refl
  · next m hm =>
    exact Moves.ite (fun _ => Moves.windowEnded) (fun _ => .one (.feed s _ rfl rfl rfl rfl rfl (.inl (by simp [hm]))))

/-- The end of a period of a running part (log entry 9). -/
theorem Moves.tick : Moves c s s.tick := by
  refine Moves.ite (fun hr => ?_) (fun _ => .refl)
  have h1 := Moves.tickLock (c := c) hr
  have h2 := h1.trans (Moves.foldl_running (fun _ b hu => Moves.tickBay b hu) (Bank.places 12) _ (h1.running.trans hr))
  have h3 := h2.trans (Moves.foldl_running (fun _ d hu => Moves.tickDetector d hu) (Bank.places 28) _ (h2.running.trans hr))
  have h4 := h3.trans (Moves.tickAnalyser .a (h3.running.trans hr))
  have h5 := h4.trans (Moves.tickAnalyser .b (h4.running.trans hr))
  have h6 := h5.trans (Moves.tickConfirm (h5.running.trans hr))
  have h7 := h6.trans (Moves.tickPurge (h6.running.trans hr))
  exact ((h7.trans Moves.tickWindow).trans Moves.tickGate).trans Moves.tickShred

/-! ### The supplies and RESET -/

theorem Steps.loseVdd : Steps c s s.loseVdd := by
  unfold State.loseVdd
  split
  · exact Moves.steps .refl
  all_goals exact Last.steps (.stop s .off (.inl rfl))

theorem Steps.loseRetention : Steps c s s.loseRetention := by
  unfold State.loseRetention
  split
  · exact Last.steps (.retention s false)
  all_goals exact Moves.steps .refl

theorem Last.chooseStart (hp : s.phase = .off ∨ s.phase = .inReset)
    (hi : c.front = some .powerUp ∨ c.front = some .resetRelease) : Last c s s.chooseStart := by
  unfold State.chooseStart State.startKind
  split
  · exact .warm s hp
  · next h => exact .cold s hi (by simpa using h)

theorem Steps.reachVdd (hi : c.front = some .powerUp) : Steps c s s.reachVdd := by
  unfold State.reachVdd
  split
  · next hp =>
    split
    · exact Last.steps (.offReset s hp)
    · exact Last.steps (Last.chooseStart (.inl hp) (.inl hi))
  all_goals exact Moves.steps .refl

theorem Moves.resetLine (v : Bool) : Moves c s (s.setLines { s.lines with reset := v }) := .one (.lines s _ (.inl rfl))

theorem Steps.assertReset : Steps c s s.assertReset := by
  unfold State.assertReset
  dsimp only
  split
  · exact (Moves.resetLine true).steps
  all_goals exact (Moves.resetLine true).then_last (.stop _ .inReset (.inr rfl))

theorem Steps.releaseReset (hi : c.front = some .resetRelease) : Steps c s s.releaseReset := by
  unfold State.releaseReset
  dsimp only
  split
  · next hp => exact (Moves.resetLine false).then_last (Last.chooseStart (.inr hp) (.inr hi))
  all_goals exact (Moves.resetLine false).steps

theorem Steps.finishStart (hf : c.Fits s) : Steps c s s.finishStart := by
  unfold State.finishStart
  split
  · next k hk =>
    have h := Moves.remainingSweeps (c := c) hf.massed
    exact h.then_last (.finish _ k (h.phase.trans hk))
  all_goals exact Moves.steps .refl

/-! ### Every command -/

theorem Moves.whenRunning {f : State → State} (h : s.running = true → Moves c s (f s)) : Moves c s (s.whenRunning f) :=
  Moves.ite h (fun _ => .refl)

/-- A discrete input takes a level other than PLANT_PERMIT's. -/
theorem Moves.inputLine (l : Lines) (h : l.plantPermit = s.lines.plantPermit) : Moves c s (s.setLines l) :=
  .one (.lines s l (.inl h))

/-- Every command that is no request in a grant, no supply event: a chain of moves. Every command: a chain and at most one
move that ends the step. -/
theorem exec_steps (i : Instr) (s : State) (hi : c.front = some i) (hf : c.Fits s) (ha : c.Allows i) :
    ∃ t, exec i s = .next t ∧ Steps c s t := by
  cases i
  -- requests that take a grant
  case lockTable | unlockTable | setAccess | register | readRecord | find | scan | amend | retire | quarantine | liftQuarantine
    | confirmShred | readTallies | resetTallies | assignBay | abortBay | enqueue | withdraw =>
    exact ⟨_, rfl, Steps.granted _ _ hf ha⟩
  -- requests that take none
  case status | readBay | readChamber | readQueue | readZone =>
    refine ⟨_, rfl, (Moves.served _ _ (fun _ _ _ => ?_)).steps⟩
    first
      | exact .refl
      | exact Moves.onBay _ (fun _ => .refl)
      | exact Moves.onZone _ (fun _ _ => .refl)
  case getAttention p => exact ⟨_, rfl, (Moves.served _ _ (fun hr _ _ => .one (.attend s p _ hr))).steps⟩
  case setAttentionMask p m => exact ⟨_, rfl, (Moves.served _ _ (fun hr _ _ => .one (.mask s p _ hr))).steps⟩
  case setSoftStop => exact ⟨_, rfl, (Moves.served _ _ (fun _ _ _ => Moves.serveSoftStop _ _)).steps⟩
  case setLevelCap p bay cap =>
    refine ⟨_, rfl, (Moves.served _ _ (fun _ _ ho => ?_)).steps⟩
    have hcap : 1 ≤ cap ∧ cap ≤ 15 := by simp [operandsOk, within] at ho; omega
    exact Moves.serveLevelCap _ _ hcap.1 hcap.2
  case clearFault => exact ⟨_, rfl, (Moves.served _ _ (fun _ _ _ => Moves.serveClearFault _)).steps⟩
  case purge => exact ⟨_, rfl, (Moves.served _ _ (fun hr _ _ => Moves.servePurge hr)).steps⟩
  case stopChamber => exact ⟨_, rfl, (Moves.served _ _ (fun hr _ _ => Moves.serveStopChamber hr)).steps⟩
  case resumeFeed => exact ⟨_, rfl, (Moves.served _ _ (fun _ _ _ => Moves.serveResumeFeed)).steps⟩
  case clearAlarm p zone =>
    refine ⟨_, rfl, (Moves.served _ _ (fun hr hp _ => ?_)).steps⟩
    have hp : p = .plant := by simpa [portAccepts] using hp
    exact Moves.serveClearAlarm zone hr (hp ▸ hi)
  case setClass => exact ⟨_, rfl, (Moves.served _ _ (fun _ _ _ => Moves.serveSetClass _ _)).steps⟩
  case setBayConfig p bay rating cap toff n mode combine retry =>
    refine ⟨_, rfl, (Moves.served _ _ (fun _ _ ho => ?_)).steps⟩
    have hcap : 1 ≤ cap ∧ cap ≤ 15 := by simp [operandsOk, within] at ho; omega
    split
    · exact Moves.serveBayConfig _ _ hcap.1 hcap.2
    · exact .refl
  case setZoneConfig => exact ⟨_, rfl, (Moves.served _ _ (fun _ _ _ => Moves.serveZoneConfig _ _)).steps⟩
  case setDetectorMap => exact ⟨_, rfl, (Moves.served _ _ (fun hr _ _ => Moves.serveDetectorMap _ _ _ _ hr)).steps⟩
  case setChamberConfig => exact ⟨_, rfl, (Moves.served _ _ (fun _ _ _ => Moves.serveChamberConfig _)).steps⟩
  case setTiming => exact ⟨_, rfl, (Moves.served _ _ (fun _ _ _ => Moves.serveTiming _ _ _ _ _)).steps⟩
  case readSetting p g x =>
    refine ⟨_, rfl, ?_⟩
    split
    · exact Steps.granted _ _ hf ha
    · exact (Moves.served _ _ (fun _ _ _ => .refl)).steps
  -- frames
  case frameError => exact ⟨_, rfl, (Moves.onFrameError _ _).steps⟩
  case unknownRequest => exact ⟨_, rfl, (Moves.onUnknownRequest _ _).steps⟩
  case overrun => exact ⟨_, rfl, (Moves.onOverrun _).steps⟩
  case chipSelectRise => exact ⟨_, rfl, (Moves.onChipSelectRise _ _).steps⟩
  case plantByteGapTimeout => exact ⟨_, rfl, (Moves.cutFrame _ _).steps⟩
  case answerSent => exact ⟨_, rfl, (Moves.onAnswerSent _).steps⟩
  case lockHoldExpiry => exact ⟨_, rfl, (Moves.whenRunning Moves.expireLock).steps⟩
  -- the engines' grants
  case energyCarry => exact ⟨_, rfl, (Moves.grantCarry _ hf).steps⟩
  case hazardFlagWrite => exact ⟨_, rfl, (Moves.grantFlag _ hf).steps⟩
  case stageChangeWrite => exact ⟨_, rfl, (Moves.grantStage _ hf).steps⟩
  case unbindingGrant => exact ⟨_, rfl, (Moves.grantUnbind _ hf).steps⟩
  case admissionWrite => exact ⟨_, rfl, (Moves.grantAdmission hf).steps⟩
  case passWrite => exact ⟨_, rfl, (Moves.grantPass hf).steps⟩
  case unexpectedPassWrite => exact ⟨_, rfl, (Moves.grantUnexpected hf).steps⟩
  case returnWrite => exact ⟨_, rfl, (Moves.grantReturn hf).steps⟩
  case retirementWrite => exact ⟨_, rfl, (Moves.grantRetirement hf (ha.frees rfl)).steps⟩
  case shredUnconfirmedWrite => exact ⟨_, rfl, (Moves.grantUnconfirmed hf).steps⟩
  case quarantineSweep => exact ⟨_, rfl, (Moves.grantSweep hf).steps⟩
  -- frames from the field and the ends of times
  case sampleFrame => exact ⟨_, rfl, (Moves.onBayLink _ _).steps⟩
  case linkTimeout b => exact ⟨_, rfl, (Moves.whenRunning (fun hr => Moves.ite (fun _ => Moves.loseLink b hr) (fun _ => .refl))).steps⟩
  case holdOffExpiry b => exact ⟨_, rfl, (Moves.whenRunning (fun _ => Moves.ite (fun _ => Moves.expireHoldOff b) (fun _ => .refl))).steps⟩
  case restEnd b => exact ⟨_, rfl, (Moves.whenRunning (fun _ => Moves.ite (fun h => Moves.endRest b h) (fun _ => .refl))).steps⟩
  case retryWaitElapsed b =>
    exact ⟨_, rfl, (Moves.whenRunning (fun _ => Moves.ite (fun h => Moves.endRetry b (Bay.waitsRetry_release h)) (fun _ => .refl))).steps⟩
  case sensorFrame => exact ⟨_, rfl, (Moves.onSensorLink _).steps⟩
  case analyserFreshnessLapse => exact ⟨_, rfl, (Moves.whenRunning (Moves.analyserLapse _)).steps⟩
  case detectorFreshnessLapse => exact ⟨_, rfl, (Moves.whenRunning (Moves.detectorLapse _)).steps⟩
  case flameScan => exact ⟨_, rfl, (Moves.whenRunning (Moves.scanAll _ _)).steps⟩
  case confirmTimeElapsed => exact ⟨_, rfl, (Moves.whenRunning Moves.confirmElapsed).steps⟩
  case purgeTimeout => exact ⟨_, rfl, (Moves.whenRunning Moves.purgeExpired).steps⟩
  case gateTimeout => exact ⟨_, rfl, (Moves.whenRunning (fun _ => Moves.gateExpired)).steps⟩
  case shredTimeout => exact ⟨_, rfl, (Moves.whenRunning (fun _ => Moves.shredExpired)).steps⟩
  case returnWindowEnd => exact ⟨_, rfl, (Moves.whenRunning (fun _ => Moves.windowEnded)).steps⟩
  -- discrete inputs
  case stopLineChange b high =>
    exact ⟨_, rfl, ((Moves.inputLine { s.lines with stop := s.lines.stop.set b high } rfl).trans (Moves.whenRunning (fun _ => Moves.stopChanged b _))).steps⟩
  case doorClosedChange v =>
    refine ⟨_, rfl, ((Moves.inputLine { s.lines with doorClosed := v } rfl).trans (Moves.whenRunning (fun hr => ?_))).steps⟩
    exact Moves.ite (fun _ => .refl) (fun _ => Moves.ite (fun _ => Moves.doorCloses hr) (fun _ => Moves.doorOpens hr))
  case gatePass =>
    refine ⟨_, rfl, (Moves.whenRunning (fun hr => ?_)).steps⟩
    have h1 := Moves.feedPass (c := c) (s := s)
    exact h1.trans (Moves.chamberPass (h1.running.trans hr) s.feedPass_gate)
  case throatEmpty =>
    refine ⟨_, rfl, ((Moves.inputLine { s.lines with throatEmpty := true } rfl).trans (Moves.whenRunning (fun hr => ?_))).steps⟩
    have h1 := Moves.feedThroatEmpty (c := c) (s := s.setLines { s.lines with throatEmpty := true })
    exact (h1.trans (Moves.chamberThroatEmpty (h1.running.trans hr))).trans Moves.evalAdmission
  case throatEmptyDeassert =>
    exact ⟨_, rfl, ((Moves.inputLine { s.lines with throatEmpty := false } rfl).trans (Moves.whenRunning (fun _ => Moves.evalAdmission))).steps⟩
  case plantPermitChange v =>
    refine ⟨_, rfl, Moves.steps ?_⟩
    exact Moves.ite (fun hr => .one (.permit s _ hr)) (fun hr => .one (.lines s _ (.inr (by simpa using hr))))
  -- supplies and RESET
  case vddLoss => exact ⟨_, rfl, Steps.loseVdd⟩
  case retentionLoss => exact ⟨_, rfl, Steps.loseRetention⟩
  case powerUp => exact ⟨_, rfl, Steps.reachVdd hi⟩
  case resetAssert => exact ⟨_, rfl, Steps.assertReset⟩
  case resetRelease => exact ⟨_, rfl, Steps.releaseReset hi⟩
  case startEnd => exact ⟨_, rfl, Steps.finishStart hf⟩

/-! ### Every step -/

/-- The state as the front command finds it: the command has left the queue. -/
def State.taken (s : State) : State := { s with pending := s.pending.tail }

/-- Every step is a chain of moves and at most one move that ends it. -/
theorem step_steps (h : step s = .next t) (hi : c.front = s.pending.head?) (hf : c.Fits s.taken)
    (ha : ∀ i, s.pending.head? = some i → c.Allows i) : Steps c s.taken t := by
  unfold step at h
  split at h
  · next i rest hp =>
    have ht : s.taken = { s with pending := rest } := by simp [State.taken, hp]
    obtain ⟨u, hu, hs⟩ := exec_steps i s.taken (by simpa [hp] using hi) hf (ha i (by simp [hp]))
    rw [← ht, hu] at h
    cases h
    exact hs
  · next hp =>
    have ht : s.taken = s := by unfold State.taken; rw [hp, List.tail_nil, ← hp]
    cases h
    rw [ht]
    exact Moves.tick.steps

/-- What is asked of a step when nothing is known of the state it begins in. -/
def Cause.any (s : State) : Cause := { front := s.pending.head?, calm := False, massed := False, resets := True, frees := True }

theorem Moves.keeps {law : State → Prop} (h : Moves c s t) (hm : ∀ s t, Move c s t → law s → law t) (hs : law s) : law t := by
  induction h with
  | refl => exact hs
  | tail _ k ih => exact hm _ _ k ih

theorem Cause.any_allows (s : State) : ∀ i, s.pending.head? = some i → (Cause.any s).Allows i :=
  fun _ _ => ⟨fun _ _ => trivial, fun _ => trivial⟩

theorem Cause.any_fits (s : State) : (Cause.any s).Fits s.taken :=
  ⟨fun k => k.elim, fun k => k.elim, fun _ _ _ => ⟨fun _ _ => trivial, fun _ => trivial⟩⟩

/-- A law that every move and every last move keeps is kept by every step. -/
theorem kept_of_moves {law : State → Prop} (hq : ∀ (s : State) l, law s → law { s with pending := l })
    (hm : ∀ c s t, Move c s t → law s → law t) (hl : ∀ c s t, Last c s t → law s → law t) : KeptByEveryStep law := by
  intro s t hs h
  obtain ⟨u, hu, hlast⟩ := step_steps (c := .any s) h rfl (Cause.any_fits s) (Cause.any_allows s)
  have h1 : law u := hu.keeps (hm _) (hq s _ hs)
  rcases hlast with rfl | k
  · exact h1
  · exact hl _ _ _ k h1

end Sys2Proof.Machine
end

section
/-!
PROOFS. The starts: what a warm start's reconciliation makes of the records, the bays and the path list, and what it leaves.
-/

namespace Sys2Proof.Machine

variable {c : Cause} {s t : State}

/-- A fold over distinct places, one of which acts on a part of the state. -/
theorem foldl_once {α β : Type} {f : State → α → State} (g : State → β) (h : β → β) (a : α)
    (hact : ∀ t, g (f t a) = h (g t)) (hother : ∀ t b, b ≠ a → g (f t b) = g t) {l : List α} (hl : l.Nodup) (ha : a ∈ l)
    (s : State) : g (l.foldl f s) = h (g s) := by
  induction l generalizing s with
  | nil => cases ha
  | cons b l ih =>
    obtain ⟨hb, hl⟩ := List.nodup_cons.mp hl
    rw [List.foldl_cons]
    rcases List.mem_cons.mp ha with rfl | ha
    · have hrest : ∀ (m : List α), a ∉ m → ∀ u, g (m.foldl f u) = g u := by
        intro m
        induction m with
        | nil => intro _ u; rfl
        | cons k m ihm =>
          intro hm u
          rw [List.mem_cons, not_or] at hm
          rw [List.foldl_cons, ihm hm.2, hother u k (Ne.symm hm.1)]
      rw [hrest l hb, hact]
    · have hne : b ≠ a := fun e => hb (e ▸ ha)
      rw [ih hl ha, hother s b hne]

/-! ### The parts that a reconciliation leaves -/

/-- A part that no step of the reconciliation of a bay touches. -/
theorem State.reconcileBay_frame {β : Type} (g : State → β) (hr : ∀ t k r, g (t.setRecord k r) = g t)
    (ht : ∀ t x, g (t.setTallies x) = g t) (hb : ∀ t b x, g (t.setBay b x) = g t) (s : State) (b : BayId) :
    g (s.reconcileBay b) = g s := by
  have hcredit : ∀ t k r n, g (State.creditEnergy t k r n) = g t := fun t k r n => (ht _ _).trans (hr _ _ _)
  have hmake : ∀ t w, g (State.makeRetained t w) = g t := by
    intro t w
    unfold State.makeRetained
    split
    · unfold State.makeCarry
      split
      · exact hcredit _ _ _ _
      · rfl
    · unfold State.makeFlag
      split
      · exact hr _ _ _
      · rfl
    all_goals rfl
  have hround : ∀ t, g (State.roundBay t b) = g t := by
    intro t
    unfold State.roundBay
    split
    · split
      · exact hcredit _ _ _ _
      · rfl
    · rfl
  calc g (s.reconcileBay b) = g (((s.bay b).writes.foldl State.makeRetained s).roundBay b) := hb _ _ _
    _ = g ((s.bay b).writes.foldl State.makeRetained s) := hround _
    _ = g s := foldl_frame g State.makeRetained hmake _ s

theorem State.reconcileSlot_frame {β : Type} (g : State → β) (hr : ∀ t k r, g (t.setRecord k r) = g t)
    (hf : ∀ t k, g (t.setFeed (t.feed.unconfirmPath k)) = g t) (s : State) (k : Slot) : g (s.reconcileSlot k) = g s := by
  unfold State.reconcileSlot
  split
  · rfl
  · next r _ =>
    split
    iterate 4 exact hr _ _ _
    · exact (hf (s.setRecord k (some { r with stage := .shredUnconfirmed })) k).trans (hr _ _ _)
    all_goals rfl

/-- A part that the arbiter does not hold is that part after the records. -/
theorem State.reconcile_of {β : Type} (g : State → β) (ha : ∀ t a, g (t.setArb a) = g t) (s : State) :
    g s.reconcile = g ((Bank.places 256).foldl State.reconcileSlot ((Bank.places 12).foldl State.reconcileBay s)) := by
  unfold State.reconcile State.setAccess
  dsimp only
  rw [ha, ha]

/-- A part that no step of a reconciliation touches. -/
theorem State.reconcile_frame {β : Type} (g : State → β) (hr : ∀ t k r, g (t.setRecord k r) = g t)
    (ht : ∀ t x, g (t.setTallies x) = g t) (hb : ∀ t b x, g (t.setBay b x) = g t)
    (hf : ∀ t k, g (t.setFeed (t.feed.unconfirmPath k)) = g t) (ha : ∀ t a, g (t.setArb a) = g t) (s : State) :
    g s.reconcile = g s := by
  rw [State.reconcile_of g ha, foldl_frame g State.reconcileSlot (fun t k => State.reconcileSlot_frame g hr hf t k),
    foldl_frame g State.reconcileBay (fun t b => State.reconcileBay_frame g hr ht hb t b)]

@[simp] theorem State.reconcile_settings (s : State) : s.reconcile.settings = s.settings :=
  s.reconcile_frame State.settings (fun _ _ _ => rfl) (fun _ _ => rfl) (fun _ _ _ => rfl) (fun _ _ => rfl) (fun _ _ => rfl)
@[simp] theorem State.reconcile_zones (s : State) : s.reconcile.zones = s.zones :=
  s.reconcile_frame State.zones (fun _ _ _ => rfl) (fun _ _ => rfl) (fun _ _ _ => rfl) (fun _ _ => rfl) (fun _ _ => rfl)
@[simp] theorem State.reconcile_chamber (s : State) : s.reconcile.chamber = s.chamber :=
  s.reconcile_frame State.chamber (fun _ _ _ => rfl) (fun _ _ => rfl) (fun _ _ _ => rfl) (fun _ _ => rfl) (fun _ _ => rfl)
@[simp] theorem State.reconcile_line (s : State) : s.reconcile.line = s.line :=
  s.reconcile_frame State.line (fun _ _ _ => rfl) (fun _ _ => rfl) (fun _ _ _ => rfl) (fun _ _ => rfl) (fun _ _ => rfl)
@[simp] theorem State.reconcile_plant (s : State) : s.reconcile.plant = s.plant :=
  s.reconcile_frame State.plant (fun _ _ _ => rfl) (fun _ _ => rfl) (fun _ _ _ => rfl) (fun _ _ => rfl) (fun _ _ => rfl)
@[simp] theorem State.reconcile_detectors (s : State) : s.reconcile.detectors = s.detectors :=
  s.reconcile_frame State.detectors (fun _ _ _ => rfl) (fun _ _ => rfl) (fun _ _ _ => rfl) (fun _ _ => rfl) (fun _ _ => rfl)
@[simp] theorem State.reconcile_pending (s : State) : s.reconcile.pending = s.pending :=
  s.reconcile_frame State.pending (fun _ _ _ => rfl) (fun _ _ => rfl) (fun _ _ _ => rfl) (fun _ _ => rfl) (fun _ _ => rfl)

@[simp] theorem State.reconcile_feed_queue (s : State) : s.reconcile.feed.queue = s.feed.queue :=
  s.reconcile_frame (fun t => t.feed.queue) (fun _ _ _ => rfl) (fun _ _ => rfl) (fun _ _ _ => rfl) (fun _ _ => rfl) (fun _ _ => rfl)
@[simp] theorem State.reconcile_feed_gate (s : State) : s.reconcile.feed.gate = s.feed.gate :=
  s.reconcile_frame (fun t => t.feed.gate) (fun _ _ _ => rfl) (fun _ _ => rfl) (fun _ _ _ => rfl) (fun _ _ => rfl) (fun _ _ => rfl)
@[simp] theorem State.reconcile_feed_gateOpen (s : State) : s.reconcile.feed.gateOpen = s.feed.gateOpen :=
  s.reconcile_frame (fun t => t.feed.gateOpen) (fun _ _ _ => rfl) (fun _ _ => rfl) (fun _ _ _ => rfl) (fun _ _ => rfl) (fun _ _ => rfl)
@[simp] theorem State.reconcile_feed_memory (s : State) : s.reconcile.feed.memory = s.feed.memory :=
  s.reconcile_frame (fun t => t.feed.memory) (fun _ _ _ => rfl) (fun _ _ => rfl) (fun _ _ _ => rfl) (fun _ _ => rfl) (fun _ _ => rfl)

@[simp] theorem State.reconcile_feedWrites (s : State) : s.reconcile.arb.feedWrites = [] := rfl

/-! ### The records through a reconciliation -/

/-- What a record keeps when energy is added and hazard flags are set. -/
def Rec.core (r : Rec) : Nat × ClassId × Nat × Stage × Option BayId × Bool :=
  (r.tag, r.cls, r.mass, r.stage, r.bay, r.flags.quarantine)

/-- A record after the second part of a reconciliation, by its stage (R29). -/
def Rec.reconciled (r : Rec) : Rec :=
  match r.stage with
  | .probing | .discharging | .resting => { r.broken with stage := .waiting, bay := none }
  | .atGate => { r.returned with stage := .queued }
  | .inShredder => { r with stage := .shredUnconfirmed }
  | .waiting | .discharged | .queued | .shredUnconfirmed => r

/-- The tallies that a credit of energy leaves. -/
def State.recordTallies (s : State) : Nat × Nat × Nat × Nat :=
  (s.tallies.registered, s.tallies.shredded, s.tallies.intact, s.tallies.massAdmitted)

theorem State.setRecord_core (s : State) (k : Slot) (r q : Rec) (hr : s.record k = some r) (hq : q.core = r.core) (i : Slot) :
    ((s.setRecord k (some q)).record i).map Rec.core = (s.record i).map Rec.core := by
  rw [State.record_setRecord]
  split
  · next h => subst h; simp [hr, hq]
  · rfl

theorem State.makeRetained_core (s : State) (w : BayWrite) (i : Slot) :
    ((s.makeRetained w).record i).map Rec.core = (s.record i).map Rec.core := by
  unfold State.makeRetained
  split
  · unfold State.makeCarry
    split
    · next e _ r hr =>
      exact s.setRecord_core e.slot r { r with energy := satAdd 999999 r.energy 1 } (State.named_record hr).1 rfl i
    · rfl
  · next f =>
    unfold State.makeFlag
    split
    · next r hr => exact s.setRecord_core _ _ _ (State.named_record hr).1 (by cases f <;> rfl) i
    · rfl
  all_goals rfl

theorem State.roundBay_core (s : State) (b : BayId) (i : Slot) :
    ((s.roundBay b).record i).map Rec.core = (s.record i).map Rec.core := by
  unfold State.roundBay
  split
  · next e _ =>
    split
    · next r hr =>
      exact s.setRecord_core e.slot r { r with energy := satAdd 999999 r.energy (roundUp (s.bay b).frac) }
        (State.named_record hr).1 rfl i
    · rfl
  · rfl

theorem State.reconcileBay_core (s : State) (b : BayId) (i : Slot) :
    ((s.reconcileBay b).record i).map Rec.core = (s.record i).map Rec.core := by
  have h := foldl_frame (fun t => (t.record i).map Rec.core) State.makeRetained (fun t w => t.makeRetained_core w i)
    (s.bay b).writes s
  exact (State.roundBay_core _ b i).trans h

theorem State.reconcileSlot_record (s : State) (k i : Slot) :
    (s.reconcileSlot k).record i = if i = k then (s.record i).map Rec.reconciled else s.record i := by
  unfold State.reconcileSlot
  split
  · next h =>
    split
    · next e => rw [e, h]; rfl
    · rfl
  · next r h =>
    have hset : ∀ q, r.reconciled = q → (s.setRecord k (some q)).record i
        = if i = k then (s.record i).map Rec.reconciled else s.record i := fun q hq => by
      rw [State.record_setRecord]
      split
      · next e => rw [e, h]; simp [hq]
      · rfl
    have hkeep : r.reconciled = r → s.record i = if i = k then (s.record i).map Rec.reconciled else s.record i := fun hq => by
      split
      · next e => rw [e, h]; simp [hq]
      · rfl
    split
    iterate 4 next hg => exact hset _ (by simp [Rec.reconciled, hg])
    · next hg => exact hset { r with stage := .shredUnconfirmed } (by simp [Rec.reconciled, hg])
    all_goals next hg => exact hkeep (by simp [Rec.reconciled, hg])

theorem State.reconcileSlots_record (s : State) (i : Slot) :
    ((Bank.places 256).foldl State.reconcileSlot s).record i = (s.record i).map Rec.reconciled :=
  foldl_once (fun t => t.record i) (Option.map Rec.reconciled) i (fun t => by simp [State.reconcileSlot_record])
    (fun t k hk => by simp [State.reconcileSlot_record, Ne.symm hk]) (List.nodup_finRange 256) (List.mem_finRange i) s

theorem Rec.core_reconciled {r q : Rec} (h : r.core = q.core) : r.reconciled.core = q.reconciled.core := by
  simp only [Rec.core, Prod.mk.injEq] at h
  obtain ⟨h1, h2, h3, h4, h5, h6⟩ := h
  unfold Rec.reconciled
  rw [h4]
  cases q.stage <;> simp [Rec.core, Rec.broken, Rec.returned, h1, h2, h3, h4, h5, h6]

/-- Every record through a reconciliation: energy, hazard flags and the flags of R29 aside, it is the record by its stage. -/
theorem State.reconcile_core (s : State) (i : Slot) :
    (s.reconcile.record i).map Rec.core = (s.record i).map (fun r => r.reconciled.core) := by
  have h1 : (((Bank.places 12).foldl State.reconcileBay s).record i).map Rec.core = (s.record i).map Rec.core :=
    foldl_frame (fun t => (t.record i).map Rec.core) State.reconcileBay (fun t b => t.reconcileBay_core b i) _ s
  have h2 : s.reconcile.record i = (((Bank.places 12).foldl State.reconcileBay s).record i).map Rec.reconciled :=
    (State.reconcile_of (fun t => t.record i) (fun _ _ => rfl) s).trans (State.reconcileSlots_record _ i)
  rw [h2]
  generalize ((Bank.places 12).foldl State.reconcileBay s).record i = x at h1
  generalize s.record i = y at h1
  cases x <;> cases y <;> simp_all
  exact Rec.core_reconciled h1

/-- A record before a reconciliation, for one after it. -/
theorem State.reconcile_record_some {i : Slot} {q : Rec} (h : s.reconcile.record i = some q) :
    ∃ r, s.record i = some r ∧ q.core = r.reconciled.core := by
  have := s.reconcile_core i
  rw [h] at this
  cases hr : s.record i with
  | none => simp [hr] at this
  | some r => exact ⟨r, rfl, by simpa [hr] using this⟩

theorem State.reconcile_record_of_some {i : Slot} {r : Rec} (h : s.record i = some r) :
    ∃ q, s.reconcile.record i = some q ∧ q.core = r.reconciled.core := by
  have := s.reconcile_core i
  rw [h] at this
  cases hq : s.reconcile.record i with
  | none => simp [hq] at this
  | some q => exact ⟨q, rfl, by simpa [hq] using this⟩

/-! ### Tallies and bays through a reconciliation -/

theorem State.reconcile_recordTallies (s : State) : s.reconcile.recordTallies = s.recordTallies := by
  have hcredit : ∀ (t : State) k r n, (t.creditEnergy k r n).recordTallies = t.recordTallies := fun _ _ _ _ => rfl
  have hmake : ∀ (t : State) w, (t.makeRetained w).recordTallies = t.recordTallies := by
    intro t w
    unfold State.makeRetained
    split
    · unfold State.makeCarry; split <;> rfl
    · unfold State.makeFlag; split <;> rfl
    all_goals rfl
  have hbay : ∀ (t : State) b, (t.reconcileBay b).recordTallies = t.recordTallies := by
    intro t b
    have hround : ∀ u : State, (u.roundBay b).recordTallies = u.recordTallies := by
      intro u
      unfold State.roundBay
      split
      · split <;> rfl
      · rfl
    exact (hround _).trans (foldl_frame State.recordTallies State.makeRetained hmake _ t)
  have hslot : ∀ (t : State) k, (t.reconcileSlot k).recordTallies = t.recordTallies := fun t k =>
    State.reconcileSlot_frame State.recordTallies (fun _ _ _ => rfl) (fun _ _ => rfl) t k
  have h1 := foldl_frame State.recordTallies State.reconcileBay hbay (Bank.places 12) s
  have h2 := foldl_frame State.recordTallies State.reconcileSlot hslot (Bank.places 256) ((Bank.places 12).foldl State.reconcileBay s)
  rw [State.reconcile_of State.recordTallies (fun _ _ => rfl), h2, h1]

/-- The channel of a bay after its reconciliation (R76). -/
def Bay.reconciled (x : Bay) : Bay := { x with binding := none, frac := 0, writes := [] }

theorem State.reconcileBay_bay (s : State) (b b' : BayId) :
    (s.reconcileBay b).bay b' = if b' = b then (s.bay b').reconciled else s.bay b' := by
  have hmake : ∀ (t : State) w, (t.makeRetained w).bay b' = t.bay b' := by
    intro t w
    unfold State.makeRetained
    split
    · unfold State.makeCarry; split <;> rfl
    · unfold State.makeFlag; split <;> rfl
    all_goals rfl
  have hround : ∀ u : State, (u.roundBay b).bay b' = u.bay b' := by
    intro u
    unfold State.roundBay
    split
    · split <;> rfl
    · rfl
  have h : (((s.bay b).writes.foldl State.makeRetained s).roundBay b).bay b' = s.bay b' :=
    (hround _).trans (foldl_frame (fun t => t.bay b') State.makeRetained hmake _ s)
  unfold State.reconcileBay State.modBay
  rw [State.bay_setBay]
  split
  · next e => subst e; rw [h]; rfl
  · exact h

theorem State.reconcile_bay (s : State) (b : BayId) : s.reconcile.bay b = (s.bay b).reconciled := by
  have h : ((Bank.places 12).foldl State.reconcileBay s).bay b = (s.bay b).reconciled :=
    foldl_once (fun t => t.bay b) Bay.reconciled b (fun t => by simp [State.reconcileBay_bay])
      (fun t k hk => by simp [State.reconcileBay_bay, Ne.symm hk]) (List.nodup_finRange 12) (List.mem_finRange b) s
  have h2 := foldl_frame (fun t => t.bay b) State.reconcileSlot
    (fun t k => State.reconcileSlot_frame (fun t => t.bay b) (fun _ _ _ => rfl) (fun _ _ => rfl) t k) (Bank.places 256)
    ((Bank.places 12).foldl State.reconcileBay s)
  rw [State.reconcile_of (fun t => t.bay b) (fun _ _ => rfl), h2, h]

/-! ### The path list through a reconciliation -/

/-- The entries of a slot in the shredder path list. -/
def Feed.entriesOf (f : Feed) (i : Slot) : List PathEntry := f.path.filter (fun x => decide (x.slot = i))

theorem Feed.entriesOf_unconfirmPath (f : Feed) (k i : Slot) : (f.unconfirmPath k).entriesOf i
    = if i = k then (f.entriesOf i).map (fun x => { x with unconfirmed := true }) else f.entriesOf i := by
  unfold Feed.entriesOf Feed.unconfirmPath
  dsimp only
  induction f.path with
  | nil => simp
  | cons x l ih =>
    rw [List.map_cons, List.filter_cons, List.filter_cons, ih]
    by_cases hx : x.slot = k <;> by_cases hi : i = k
    · subst hi; simp [hx]
    · simp [hx, hi, Ne.symm hi]
    · subst hi; simp [hx]
    · simp [hx, hi]

/-- The entries of a slot after a reconciliation: unconfirmed when its record was IN_SHREDDER (R29). -/
def settledEntries (o : Option Rec) (l : List PathEntry) : List PathEntry :=
  if o.map Rec.stage = some .inShredder then l.map (fun x => { x with unconfirmed := true }) else l

theorem State.reconcileSlot_entries (s : State) (k i : Slot) : (s.reconcileSlot k).feed.entriesOf i
    = if i = k then settledEntries (s.record i) (s.feed.entriesOf i) else s.feed.entriesOf i := by
  unfold State.reconcileSlot settledEntries
  split
  · next h =>
    split
    · next e => simp [e, h]
    · rfl
  · next r h =>
    have hkeep : r.stage ≠ .inShredder → s.feed.entriesOf i = if i = k then
        (if (s.record i).map Rec.stage = some .inShredder then (s.feed.entriesOf i).map (fun x => { x with unconfirmed := true })
          else s.feed.entriesOf i) else s.feed.entriesOf i := fun hg => by
      split
      · next e => rw [e, h]; simp [hg]
      · rfl
    split
    iterate 4 next hg => exact hkeep (by simp [hg])
    · next hg =>
      refine (Feed.entriesOf_unconfirmPath s.feed k i).trans ?_
      split
      · next e => rw [e, h]; simp [hg]
      · rfl
    all_goals next hg => exact hkeep (by simp [hg])

theorem State.reconcile_entries (s : State) (i : Slot) :
    s.reconcile.feed.entriesOf i = settledEntries (s.record i) (s.feed.entriesOf i) := by
  have h := foldl_once (f := State.reconcileSlot) (l := Bank.places 256) (fun t => (t.record i, t.feed.entriesOf i)) (fun p => (p.1.map Rec.reconciled, settledEntries p.1 p.2)) i
    (fun t => by simp [State.reconcileSlot_record, State.reconcileSlot_entries])
    (fun t k hk => by simp [State.reconcileSlot_record, State.reconcileSlot_entries, Ne.symm hk])
    (List.nodup_finRange 256) (List.mem_finRange i) ((Bank.places 12).foldl State.reconcileBay s)
  have hfeed : ((Bank.places 12).foldl State.reconcileBay s).feed = s.feed :=
    foldl_frame State.feed State.reconcileBay
      (fun t b => State.reconcileBay_frame State.feed (fun _ _ _ => rfl) (fun _ _ => rfl) (fun _ _ _ => rfl) t b) _ s
  have hcore : (((Bank.places 12).foldl State.reconcileBay s).record i).map Rec.stage = (s.record i).map Rec.stage := by
    have h1 := foldl_frame (fun t => (t.record i).map Rec.core) State.reconcileBay (fun t b => t.reconcileBay_core b i)
      (Bank.places 12) s
    generalize ((Bank.places 12).foldl State.reconcileBay s).record i = x at h1
    generalize s.record i = y at h1
    cases x <;> cases y <;> simp_all [Rec.core]
  have h1 := State.reconcile_of (fun t => t.feed.entriesOf i) (fun _ _ => rfl) s
  have h2 := congrArg Prod.snd h
  dsimp only at h1 h2
  rw [h1, h2, hfeed]
  simp only [settledEntries, hcore]

/-- The records that the path list names, in order. -/
def Feed.pathNames (f : Feed) : List (Slot × Nat) := f.path.map (fun x => (x.slot, x.tag))

theorem Feed.pathNames_unconfirmPath (f : Feed) (k : Slot) : (f.unconfirmPath k).pathNames = f.pathNames := by
  simp only [Feed.pathNames, Feed.unconfirmPath, List.map_map]
  refine List.map_congr_left (fun x _ => ?_)
  simp only [Function.comp]
  split <;> rfl

theorem State.reconcile_pathNames (s : State) : s.reconcile.feed.pathNames = s.feed.pathNames :=
  State.reconcile_frame (fun t => t.feed.pathNames) (fun _ _ _ => rfl) (fun _ _ => rfl) (fun _ _ _ => rfl)
    (fun t k => t.feed.pathNames_unconfirmPath k) (fun _ _ => rfl) s

/-! ### The end of a start -/

/-- A part that no bay's start touches. -/
theorem State.startBays_frame {β : Type} (g : State → β) (h : ∀ t b x, g (t.setBay b x) = g t) (s : State) :
    g s.startBays = g s := foldl_frame g _ (fun _ _ => h _ _ _) _ s

/-- A part that no bay's start touches and that is not the phase, the ports, the chamber or the feed. -/
theorem State.completeStart_frame {β : Type} (g : State → β) (h : ∀ t b x, g (t.setBay b x) = g t) (k : StartKind)
    (hend : ∀ (t : State) l p f x, g (({ t with phase := .running, retention := true, lastStart := k, line := l, plant := p, feed := f } : State).setChamber
      x).driveChamber = g t) (s : State) : g (s.completeStart k) = g s.stopMain :=
  (hend _ _ _ _ _).trans (s.stopMain.startBays_frame g h)

/-- The unbound state that the settings, the line and the soft stop of a bay give (R51, R52). -/
def restOf (k : BayCfg) (line soft : Bool) : BayState :=
  if (match k.combine with | .or => line || soft | .and => line && soft) then .stopped else .idle

theorem State.restState_eq (s : State) (b : BayId) :
    s.restState b = restOf (s.bayCfg b) (s.lines.stop.get b) (s.bay b).softStop := rfl

theorem State.startBays_bay (s : State) (b : BayId) :
    s.startBays.bay b = (s.bay b).started ((s.bayCfg b).rating.isSome) (s.restState b) s.settings.timing.link := by
  have h : s.startBays.bay b = (s.bay b).started ((s.bayCfg b).rating.isSome) (s.restState b) s.settings.timing.link
      ∧ s.startBays.lines = s.lines ∧ s.startBays.settings = s.settings := by
    have hfold := foldl_once (f := fun t b => t.modBay b (fun x =>
        x.started ((t.bayCfg b).rating.isSome) (t.restState b) t.settings.timing.link))
      (fun t => (t.bay b, t.lines, t.settings))
      (fun p => (p.1.started ((p.2.2.bays.get b).rating.isSome)
        (restOf (p.2.2.bays.get b) (p.2.1.stop.get b) p.1.softStop)
        p.2.2.timing.link, p.2)) b ?_ ?_ (List.nodup_finRange 12) (List.mem_finRange b) s
    · have hb := congrArg Prod.fst hfold
      have hl := congrArg (fun p => p.2.1) hfold
      have hs := congrArg (fun p => p.2.2) hfold
      exact ⟨hb, hl, hs⟩
    · intro t; simp [State.modBay, State.restState_eq, State.bayCfg]
    · intro t k hk; simp [State.modBay, State.bay_setBay, Ne.symm hk]
  exact h.1

end Sys2Proof.Machine
end

section
/-!
PROOFS. The custody of the records: what a move may do to tags, classes, use counts and the tallies of records. From it follow
the laws of unique tags (R3), of the use counts (R174) and the first law of R25.
-/

namespace Sys2Proof.Machine

variable {c : Cause} {s t : State}

/-! ### Counting a bank's items -/

theorem Bank.count_set {α : Type} {n : Nat} (b : Bank α n) (i : Fin n) (x : α) (p : α → Bool) :
    (b.set i x).count p + (if p (b.get i) then 1 else 0) = b.count p + (if p x then 1 else 0) := by
  have hi : i.1 < b.1.length := by rw [b.2]; exact i.2
  have hle : (if p (b.get i) then 1 else 0) ≤ b.count p := List.boole_getElem_le_countP hi
  have h : (b.set i x).count p = b.count p - (if p (b.get i) then 1 else 0) + (if p x then 1 else 0) := List.countP_set hi
  omega

theorem Bank.count_congr {α β : Type} {n : Nat} {a : Bank α n} {b : Bank β n} {p : α → Bool} {q : β → Bool}
    (h : ∀ i, p (a.get i) = q (b.get i)) : a.count p = b.count q := by
  rw [Bank.count_eq_length_filter, Bank.count_eq_length_filter]
  congr 1
  exact List.filter_congr (fun i _ => h i)

theorem Bank.count_pos {α : Type} {n : Nat} {b : Bank α n} {p : α → Bool} (i : Fin n) (h : p (b.get i) = true) :
    1 ≤ b.count p :=
  List.countP_pos_iff.mpr ⟨b.get i, List.getElem_mem _, h⟩

theorem Bank.count_le {α : Type} {n : Nat} (b : Bank α n) (p : α → Bool) : b.count p ≤ n :=
  Nat.le_trans List.countP_le_length (Nat.le_of_eq b.2)

/-! ### What a move does to the custody of the records -/

/-- What names a record and its class. -/
def Rec.identity (r : Rec) : Nat × ClassId := (r.tag, r.cls)

/-- The tallies of records stand still. -/
def State.SameTallies (s t : State) : Prop :=
  t.tallies.registered = s.tallies.registered ∧ t.tallies.shredded = s.tallies.shredded ∧ t.tallies.intact = s.tallies.intact

/-- The records keep their tags and classes, and nothing is counted. -/
structure State.SameCustody (s t : State) : Prop where
  records : ∀ i, (t.record i).map Rec.identity = (s.record i).map Rec.identity := by exact fun _ => rfl
  uses : t.settings.useCount = s.settings.useCount := by rfl
  tallies : s.SameTallies t := by exact ⟨rfl, rfl, rfl⟩

/-- What a move does to the custody of the records. -/
inductive Custody (s t : State) : Prop
  /-- Nothing that the laws of custody name. -/
  | same (h : s.SameCustody t)
  /-- A record enters a FREE slot. -/
  | new (k : Slot) (q : Rec) (hf : s.record k = none) (ht : s.findTag q.tag = none) (hs : t.slots = s.slots.set k (some q))
      (hu : t.settings.useCount = s.settings.useCount.set q.cls (s.settings.useCount.get q.cls + 1))
      (hr : t.tallies.registered = satAdd tallyMax s.tallies.registered 1) (hd : t.tallies.shredded = s.tallies.shredded)
      (hi : t.tallies.intact = s.tallies.intact)
  /-- A record changes its class. -/
  | reclass (k : Slot) (r q : Rec) (hr : s.record k = some r) (ht : q.tag = r.tag) (hs : t.slots = s.slots.set k (some q))
      (hu : t.settings.useCount = ((s.unuseClass r.cls).useClass q.cls).settings.useCount) (hy : s.SameTallies t)
  /-- A record leaves its slot. -/
  | free (k : Slot) (r : Rec) (hr : s.record k = some r) (hs : t.slots = s.slots.set k none)
      (hu : t.settings.useCount = s.settings.useCount.set r.cls (s.settings.useCount.get r.cls - 1))
      (hg : t.tallies.registered = s.tallies.registered)
      (hy : (t.tallies.shredded = satAdd tallyMax s.tallies.shredded 1 ∧ t.tallies.intact = s.tallies.intact)
        ∨ (t.tallies.shredded = s.tallies.shredded ∧ t.tallies.intact = satAdd tallyMax s.tallies.intact 1))
  /-- A counting period begins. -/
  | recount (hs : t.slots = s.slots) (hu : t.settings.useCount = s.settings.useCount) (hg : t.tallies.registered = s.liveCount)
      (hd : t.tallies.shredded = 0) (hi : t.tallies.intact = 0)
  /-- Every slot is FREE and nothing is counted. -/
  | empty (hs : ∀ i, t.record i = none) (hu : ∀ k, t.settings.useCount.get k = 0) (ht : t.tallies = {})

theorem State.SameCustody.refl (s : State) : s.SameCustody s := {}

theorem State.SameCustody.trans {u : State} (h : s.SameCustody t) (k : t.SameCustody u) : s.SameCustody u where
  records i := (k.records i).trans (h.records i)
  uses := k.uses.trans h.uses
  tallies := ⟨k.tallies.1.trans h.tallies.1, k.tallies.2.1.trans h.tallies.2.1, k.tallies.2.2.trans h.tallies.2.2⟩

/-- Every part that the laws of custody name stands still. -/
theorem State.SameCustody.of_eq (hs : t.slots = s.slots) (hu : t.settings.useCount = s.settings.useCount)
    (ht : t.tallies = s.tallies) : s.SameCustody t where
  records i := by rw [State.record, State.record, hs]
  uses := hu
  tallies := by rw [State.SameTallies, ht]; exact ⟨rfl, rfl, rfl⟩

/-- A record changed without its tag and class. -/
theorem State.SameCustody.of_set {k : Slot} {r q : Rec} (hr : s.record k = some r) (hq : q.identity = r.identity)
    (hs : t.slots = s.slots.set k (some q)) (hu : t.settings.useCount = s.settings.useCount) (ht : s.SameTallies t) :
    s.SameCustody t where
  records i := by
    rw [State.record, hs, Bank.get_set]
    split
    · next h => subst h; simp [hr, hq]
    · rfl
  uses := hu
  tallies := ht

theorem Custody.of_set {k : Slot} {r q : Rec} (hr : s.record k = some r) (hq : q.identity = r.identity)
    (hs : t.slots = s.slots.set k (some q)) (hu : t.settings.useCount = s.settings.useCount := by rfl)
    (ht : s.SameTallies t := by exact ⟨rfl, rfl, rfl⟩) : Custody s t := .same (.of_set hr hq hs hu ht)

theorem Custody.of_eq (hs : t.slots = s.slots := by rfl) (hu : t.settings.useCount = s.settings.useCount := by rfl)
    (ht : t.tallies = s.tallies := by rfl) : Custody s t := .same (.of_eq hs hu ht)

theorem StageWrite.apply_identity (w : StageWrite) (r : Rec) : (w.apply r).identity = r.identity := by
  obtain ⟨ht, hc, -⟩ := w.apply_frame r
  rw [Rec.identity, ht, hc]; rfl

theorem Move.custody_pull (k : Slot) (r : Rec) (hr : s.record k = some r) : Custody s (s.pullFromFeed k r) := by
  unfold State.pullFromFeed
  dsimp only
  split
  · exact .of_set (q := { r.quarantined.returned with stage := .discharged }) hr rfl rfl
  · exact .of_set (q := { r.quarantined with stage := .discharged }) hr rfl rfl

theorem Move.custody_amend (k : Slot) (r : Rec) (f : OpField) (v : Nat) (hr : s.record k = some r) :
    Custody s (s.amendField k r f v) := by
  cases f
  case cls =>
    unfold State.amendField
    dsimp only
    split
    · next a _ => exact .reclass k r { r with cls := a } hr rfl rfl rfl ⟨rfl, rfl, rfl⟩
    · exact .same (.refl s)
  case cells => exact .of_set (q := { r with cells := v }) hr rfl rfl
  case capacity => exact .of_set (q := { r with capacity := v }) hr rfl rfl
  case declared => exact .of_set (q := { r with declared := v }) hr rfl rfl
  case mass => exact .of_set (q := { r with mass := v }) hr rfl rfl
  case damaged => exact .of_set (q := { r with flags := { r.flags with damaged := decide (v = 1) } }) hr rfl rfl

/-- What every move does to the custody of the records. -/
theorem Move.custody (h : Move c s t) : Custody s t := by
  cases h
  case port p x _ _ _ _ => exact .of_eq (by simp) (by simp) (by simp)
  case attend | mask | evalAdmission | askLate | startReturn | pass | unexpected | enterChamber =>
    exact .of_eq (by simp) (by simp) (by simp)
  case settings t hu _ _ _ => exact .of_eq rfl hu
  case bind k r b y hr _ _ _ _ _ => exact .of_set (q := { r with stage := .probing, bay := some b, rebounds := 0 }) hr rfl rfl
  case release b e r q n y _ hr _ hq _ _ _ _ =>
    refine .of_set (q := q) (State.named_record hr).1 ?_ ?_
    · rw [Rec.identity, hq.1, hq.2.1]; rfl
    · exact Bank.set_set _ _ _ _
  case register k p a tag cells capacity declared mass damaged hf ht =>
    exact .new k (newRecord p tag a cells capacity declared mass damaged) hf ht rfl rfl rfl rfl rfl
  case amend k r f v hr _ => exact Move.custody_amend k r f v hr
  case retire k r hr _ _ => exact .free k r hr rfl rfl rfl (.inr ⟨rfl, rfl⟩)
  case flags k r f hr _ => exact .of_set (q := { r with flags := f }) hr rfl rfl
  case credit k r n hr => exact .of_set (q := { r with energy := satAdd 999999 r.energy n }) hr rfl rfl
  case stage b w r _ hr => exact .of_set (State.expect_record hr).1 (w.apply_identity r) rfl
  case pull k r hr _ => exact Move.custody_pull k r hr
  case enqueue k r hr _ _ _ _ =>
    exact .of_set (q := { r with stage := .queued }) hr rfl (by simp [State.setRecord, State.setFeed]) (by simp)
      (by simp [State.SameTallies])
  case withdraw k r hr _ =>
    exact .of_set (q := { r with stage := .discharged }) hr rfl (by simp [State.setRecord, State.setFeed]) (by simp)
      (by simp [State.SameTallies])
  case openGate e l r f _ _ hr _ _ _ =>
    exact .of_set (q := { r.admitted with stage := .atGate }) (State.expect_record hr).1 rfl
      (by simp [State.setRecord, State.setFeed, State.popFeed, State.setArb]) (by simp [State.popFeed])
      (by simp [State.SameTallies, State.popFeed])
  case enterPath e r _ hr _ => exact .of_set (q := { r with stage := .inShredder }) (State.expect_record hr).1 rfl rfl
  case takenPath e r _ hr _ => exact .of_set (q := { r with stage := .shredUnconfirmed }) (State.expect_record hr).1 rfl rfl
  case giveBack e r _ hr => exact .of_set (q := { r.returned with stage := .queued }) (State.expect_record hr).1 rfl rfl
  case shredded k r hr _ _ => exact .free k r hr rfl rfl rfl (.inl ⟨rfl, rfl⟩)
  case recover k r hr _ n => exact .of_set (q := { r.recoveredBack with stage := .discharged }) hr rfl rfl
  case unconfirm k r f hr _ => exact .of_set (q := { r with stage := .shredUnconfirmed, flags := f }) hr rfl rfl
  case tallies _ => exact .recount rfl rfl rfl rfl rfl
  all_goals exact .of_eq

theorem State.SameTallies.of_recordTallies (h : t.recordTallies = s.recordTallies) : s.SameTallies t := by
  simp only [State.recordTallies, Prod.mk.injEq] at h
  exact ⟨h.1, h.2.1, h.2.2.1⟩

theorem Rec.reconciled_identity (r : Rec) : r.reconciled.identity = r.identity := by
  unfold Rec.reconciled; split <;> rfl

theorem State.reconcile_custody (s : State) : s.SameCustody s.reconcile where
  records i := by
    have h := s.reconcile_core i
    have hid : ∀ r : Rec, r.identity = (r.core.1, r.core.2.1) := fun _ => rfl
    cases hr : s.record i with
    | none =>
      rw [hr] at h
      cases hq : s.reconcile.record i with
      | none => rfl
      | some q => simp [hq] at h
    | some r =>
      obtain ⟨q, hq, he⟩ := State.reconcile_record_of_some hr
      rw [hq, Option.map_some, Option.map_some, hid q, he, ← hid, Rec.reconciled_identity]
  uses := by rw [State.reconcile_settings]
  tallies := .of_recordTallies s.reconcile_recordTallies

theorem State.SameCustody.with_phase (h : s.SameCustody t) (p : Phase) : s.SameCustody { t with phase := p } :=
  ⟨h.records, h.uses, h.tallies⟩

/-- What the end of a step does to the custody of the records. -/
theorem Last.custody (h : Last c s t) : Custody s t := by
  cases h
  case wait => exact .of_eq (by simp) (by simp) (by simp)
  case warm =>
    have h0 : s.SameCustody s.stopMain := .of_eq rfl rfl rfl
    exact .same ((h0.trans s.stopMain.reconcile_custody).with_phase _)
  case cold =>
    refine .empty (fun i => Bank.get_fill i none) (fun k => ?_) ?_
    · exact Bank.get_fill (n := 8) k 0
    · dsimp only [State.coldValues]
  case finish k _ =>
    exact .of_eq (State.completeStart_frame State.slots (fun _ _ _ => rfl) k (fun _ _ _ _ _ => rfl) s)
      (State.completeStart_frame (fun t => t.settings.useCount) (fun _ _ _ => rfl) k (fun _ _ _ _ _ => rfl) s)
      (State.completeStart_frame State.tallies (fun _ _ _ => rfl) k (fun _ _ _ _ _ => rfl) s)
  all_goals exact .of_eq

/-! ### The laws of custody -/

theorem State.SameCustody.record_some (h : s.SameCustody t) {i : Slot} {q : Rec} (hq : t.record i = some q) :
    ∃ r, s.record i = some r ∧ r.tag = q.tag ∧ r.cls = q.cls := by
  have := h.records i
  rw [hq] at this
  cases hr : s.record i with
  | none => simp [hr] at this
  | some r =>
    rw [hr] at this
    simp only [Option.map_some, Option.some.injEq, Rec.identity, Prod.mk.injEq] at this
    exact ⟨r, rfl, this.1.symm, this.2.symm⟩

/-- No move gives two live records one tag (R3). -/
theorem Custody.tagsUnique (h : Custody s t) (hs : s.TagsUnique) : t.TagsUnique := by
  have hset : ∀ (k : Slot) (x : Option Rec), t.slots = s.slots.set k x →
      (∀ q, x = some q → ∀ i r, i ≠ k → s.record i = some r → r.tag ≠ q.tag) → t.TagsUnique := by
    intro k x hslots hx i j r q hr hq he
    rw [State.record, hslots, Bank.get_set] at hr hq
    split at hr <;> split at hq
    · next a b => exact a.trans b.symm
    · next a b => exact absurd he.symm (hx r hr j q b hq)
    · next a b => exact absurd he (hx q hq i r a hr)
    · exact hs i j r q hr hq he
  cases h with
  | same h =>
    intro i j r q hr hq he
    obtain ⟨r', hr', ht, -⟩ := h.record_some hr
    obtain ⟨q', hq', ht', -⟩ := h.record_some hq
    exact hs i j r' q' hr' hq' (by rw [ht, ht', he])
  | new k q hf ht hslots =>
    refine hset k _ hslots (fun q' e i r _ hr => ?_)
    cases e
    exact (s.findTag_none q.tag).mp ht i r hr
  | reclass k r q hr ht hslots =>
    refine hset k _ hslots (fun q' e i r' hne hr' => ?_)
    cases e
    exact fun e => hne (hs i k r' r hr' hr (e.trans ht))
  | free k r hr hslots => exact hset k none hslots (fun _ e => by cases e)
  | recount hslots =>
    intro i j r q hr hq he
    rw [State.record, hslots] at hr hq
    exact hs i j r q hr hq he
  | empty hnone =>
    intro i j r q hr
    rw [hnone i] at hr
    cases hr

/-- Whether a slot's record is of a class. -/
def ofClass (a : ClassId) (o : Option Rec) : Bool :=
  match o with | some r => decide (r.cls = a) | none => false

theorem State.classUsers_eq (s : State) (a : ClassId) : s.classUsers a = s.slots.count (ofClass a) := rfl

theorem ofClass_map (a : ClassId) (o : Option Rec) :
    ofClass a o = match o.map Rec.identity with | some x => decide (x.2 = a) | none => false := by
  cases o <;> rfl

/-- The users of a class when a slot changes. -/
theorem State.classUsers_set {k : Slot} {x : Option Rec} (a : ClassId) (hs : t.slots = s.slots.set k x) :
    t.classUsers a + (if ofClass a (s.record k) then 1 else 0) = s.classUsers a + (if ofClass a x then 1 else 0) := by
  rw [State.classUsers_eq, State.classUsers_eq, hs]
  exact Bank.count_set _ _ _ _

/-- Every move keeps the use counts equal to the users of each class (R174). -/
theorem Custody.useLaw (h : Custody s t) (hs : s.UseLaw) : t.UseLaw := by
  intro a
  have ha := hs a
  have hfree : ∀ k r, s.record k = some r → 1 ≤ s.classUsers r.cls := fun k r hr =>
    Bank.count_pos k (by show ofClass r.cls (s.record k) = true; simp [hr, ofClass])
  cases h with
  | same h =>
    rw [h.uses, ha, State.classUsers_eq, State.classUsers_eq]
    refine Bank.count_congr (fun i => ?_)
    show ofClass a (s.record i) = ofClass a (t.record i)
    rw [ofClass_map, ofClass_map, h.records i]
  | new k q hf _ hslots hu =>
    have hset := State.classUsers_set a hslots
    rw [hf] at hset
    rw [hu, Bank.get_set]
    simp only [ofClass] at hset
    split
    · next e => subst e; simp at hset; omega
    · next e => simp [Ne.symm e] at hset; omega
  | reclass k r q hr _ hslots hu =>
    have hset := State.classUsers_set a hslots
    have hpos := hfree k r hr
    have hr1 := hs r.cls
    rw [hr] at hset
    simp only [ofClass] at hset
    rw [hu]
    simp only [State.useClass, State.unuseClass, State.setSettings, Bank.get_set]
    by_cases e1 : a = q.cls <;> by_cases e2 : a = r.cls
    · subst e1; rw [← e2] at hr1 hpos; simp [← e2] at hset ⊢; omega
    · subst e1; simp [e2, Ne.symm e2] at hset ⊢; omega
    · subst e2; simp [e1, Ne.symm e1] at hset ⊢; omega
    · simp [e1, e2, Ne.symm e1, Ne.symm e2] at hset ⊢; omega
  | free k r hr hslots hu =>
    have hset := State.classUsers_set a hslots
    have hpos := hfree k r hr
    rw [hr] at hset
    simp only [ofClass] at hset
    rw [hu, Bank.get_set]
    split
    · next e => subst e; simp at hset; omega
    · next e => simp [Ne.symm e] at hset; omega
  | recount hslots hu => rw [hu, ha, State.classUsers, State.classUsers, hslots]
  | empty hnone hu =>
    rw [hu a, State.classUsers_eq]
    refine (List.countP_eq_zero.mpr (fun o ho => ?_)).symm
    obtain ⟨i, hi, e⟩ := List.getElem_of_mem ho
    have := hnone ⟨i, by have := t.slots.2; omega⟩
    rw [← e, show t.slots.1[i] = none from this]
    simp [ofClass]

/-- The live count when a slot changes. -/
theorem State.liveCount_set {k : Slot} {x : Option Rec} (hs : t.slots = s.slots.set k x) :
    t.liveCount + (if (s.record k).isSome then 1 else 0) = s.liveCount + (if x.isSome then 1 else 0) := by
  rw [State.liveCount, State.liveCount, hs]
  exact Bank.count_set _ _ _ _

/-- Every move keeps the first law of R25. -/
theorem Custody.tallyLaw (h : Custody s t) (hs : s.TallyLaw) : t.TallyLaw := by
  obtain ⟨hle, heq⟩ := hs
  have hmax : tallyMax = 4294967295 := rfl
  unfold State.TallyLaw
  rw [hmax] at hle heq ⊢
  cases h with
  | same h =>
    obtain ⟨h1, h2, h3⟩ := h.tallies
    have hl : t.liveCount = s.liveCount := Bank.count_congr (fun i => by
      have := congrArg Option.isSome (h.records i)
      simpa [State.record] using this)
    rw [h1, h2, h3, hl]
    exact ⟨hle, heq⟩
  | new k q hf _ hslots _ hr hd hi =>
    have hset := State.liveCount_set hslots
    rw [hf] at hset
    rw [hr, hd, hi]
    simp [satAdd, tallyMax] at hset ⊢
    omega
  | reclass k r q hr _ hslots _ hy =>
    obtain ⟨h1, h2, h3⟩ := hy
    have hset := State.liveCount_set hslots
    rw [hr] at hset
    rw [h1, h2, h3]
    simp at hset
    omega
  | free k r hr hslots _ hg hy =>
    have hset := State.liveCount_set hslots
    rw [hr] at hset
    simp at hset
    rw [hg]
    rcases hy with ⟨hd, hi⟩ | ⟨hd, hi⟩ <;> rw [hd, hi] <;> simp only [satAdd, tallyMax] <;> omega
  | recount hslots _ hg hd hi =>
    have hl : t.liveCount = s.liveCount := by rw [State.liveCount, State.liveCount, hslots]
    have hb : s.liveCount ≤ 256 := Bank.count_le _ _
    rw [hg, hd, hi, hl]
    omega
  | empty hnone _ ht =>
    have hl : t.liveCount = 0 := List.countP_eq_zero.mpr (fun o ho => by
      obtain ⟨i, hi, e⟩ := List.getElem_of_mem ho
      have := hnone ⟨i, by have := t.slots.2; omega⟩
      rw [← e, show t.slots.1[i] = none from this]
      simp)
    rw [ht, hl]
    exact ⟨Nat.zero_le _, .inr rfl⟩

/-- Settles O6: every move of a step keeps the tags apart; a new record's tag is held by no live record (R3, R14). -/
theorem tagsStayUnique : Obligations.TagsStayUnique :=
  kept_of_moves (fun _ _ h => h) (fun _ _ _ h => h.custody.tagsUnique) (fun _ _ _ h => h.custody.tagsUnique)

/-- Settles O8: a move that gives a slot, takes it or changes its class moves the use counts with it. -/
theorem useCountsFollowTheRecords : Obligations.UseCountsFollowTheRecords :=
  kept_of_moves (fun _ _ h => h) (fun _ _ _ h => h.custody.useLaw) (fun _ _ _ h => h.custody.useLaw)

end Sys2Proof.Machine
end

section
/-!
PROOFS. What a move does to each bay channel; the laws of the load levels (R50) and of the accumulators (R80).
-/

namespace Sys2Proof.Machine

variable {c : Cause} {s t : State}

/-- What a move does to the channel of a bay and to its cap. -/
inductive BayMove (s t : State) (b : BayId) : Prop
  /-- Nothing. -/
  | same (hx : t.bay b = s.bay b) (hc : (t.bayCfg b).cap = (s.bayCfg b).cap)
  /-- A change that keeps the binding and the pack-temperature channel. -/
  | keeps (h : (s.bay b).Keeps (s.bayCfg b).cap (t.bay b)) (hc : (t.bayCfg b).cap = (s.bayCfg b).cap)
  /-- A change of the pack-temperature channel. -/
  | packed (d : Option Chan) (hx : t.bay b = { s.bay b with pack := d }) (hc : (t.bayCfg b).cap = (s.bayCfg b).cap)
  /-- New settings. -/
  | config (h1 : 1 ≤ (t.bayCfg b).cap) (h2 : (t.bayCfg b).cap ≤ 15)
      (h : (t.bay b).binding = (s.bay b).binding ∧ (t.bay b).pack = (s.bay b).pack ∧ (t.bay b).frac = (s.bay b).frac
        ∧ (t.bay b).writes = (s.bay b).writes)
      (hl : (s.bay b).LevelLegal (s.bayCfg b).cap → (t.bay b).LevelLegal (t.bayCfg b).cap)
      (hk : (s.bay b).BindOk → (t.bay b).BindOk)
  /-- A binding begins. -/
  | bound (hm : (t.bay b).mode = .probing) (hl : (t.bay b).level = 0) (hf : (t.bay b).frac = 0)
      (hb : (t.bay b).binding ≠ none) (hw : (t.bay b).writes = (s.bay b).writes) (hc : (t.bayCfg b).cap = (s.bayCfg b).cap)
  /-- A binding ends. -/
  | unbound (hl : (t.bay b).level = 0) (hp : (t.bay b).releasePending = false) (hf : (t.bay b).frac = 0)
      (hb : (t.bay b).binding = none)
      (hm : ((t.bay b).mode = .faulted ∧ ((t.bay b).fault ≠ none
          ∨ ((s.bay b).mode = .faulted ∧ (t.bay b).fault = (s.bay b).fault)))
        ∨ (t.bay b).mode = .stopped ∨ (t.bay b).mode = .idle)
      (hw : ∀ w ∈ (t.bay b).writes, w ∈ (s.bay b).writes) (hc : (t.bayCfg b).cap = (s.bayCfg b).cap)

theorem State.pullFromFeed_bay (s : State) (k : Slot) (r : Rec) (b : BayId) : (s.pullFromFeed k r).bay b = s.bay b := by
  unfold State.pullFromFeed; dsimp only; split <;> rfl

theorem State.pullFromFeed_settings (s : State) (k : Slot) (r : Rec) : (s.pullFromFeed k r).settings = s.settings := by
  unfold State.pullFromFeed; dsimp only; split <;> rfl

theorem State.amendField_bay (s : State) (k : Slot) (r : Rec) (f : OpField) (v : Nat) (b : BayId) :
    (s.amendField k r f v).bay b = s.bay b := by
  unfold State.amendField
  split
  · split <;> rfl
  all_goals rfl

theorem State.amendField_bayCfg (s : State) (k : Slot) (r : Rec) (f : OpField) (v : Nat) (b : BayId) :
    (s.amendField k r f v).bayCfg b = s.bayCfg b := by
  unfold State.amendField
  split
  · split <;> rfl
  all_goals rfl

/-- A channel replaced, as every bay sees it. -/
theorem BayMove.of_setBay {b : BayId} {y : Bay} (ht : ∀ b', t.bay b' = if b' = b then y else s.bay b')
    (hc : ∀ b', (t.bayCfg b').cap = (s.bayCfg b').cap) (h : t.bay b = y → BayMove s t b) (b' : BayId) : BayMove s t b' := by
  by_cases e : b' = b
  · subst e; exact h (by simpa using ht b')
  · exact .same (by simpa [e] using ht b') (hc b')

/-- What every move does to each bay channel. -/
theorem Move.bayMove (h : Move c s t) (b : BayId) : BayMove s t b := by
  cases h
  case port | attend | mask | evalAdmission | askLate | startReturn | pass | unexpected | enqueue | withdraw | enterChamber =>
    exact .same (by simp) (by simp)
  case openGate => exact .same (by simp [State.popFeed]) (by simp [State.popFeed])
  case settings t _ _ _ hb => exact .same rfl (hb b)
  case bay b₁ y h =>
    refine BayMove.of_setBay (fun b' => State.bay_setBay ..) (fun _ => rfl) (fun e => ?_) b
    exact .keeps (by rw [e]; exact h) rfl
  case bays l h => exact .keeps (h b) rfl
  case bayCfg b₁ k y h1 h2 h hl hk =>
    by_cases e : b = b₁
    · subst e
      have hy : ((s.setBayCfg b k).setBay b y).bay b = y := by simp
      have hcfg : ((s.setBayCfg b k).setBay b y).bayCfg b = k := by simp [State.setBayCfg, State.bayCfg]
      exact .config (by rw [hcfg]; exact h1) (by rw [hcfg]; exact h2) (by rw [hy]; exact h) (by rw [hy, hcfg]; exact hl)
        (by rw [hy]; exact hk)
    · refine .same ?_ ?_
      · rw [State.bay_setBay, if_neg e]; rfl
      · simp [State.setBayCfg, State.bayCfg, Bank.get_set, e]
  case bind k r b₁ y _ _ _ _ _ hy =>
    obtain ⟨hm, hbind, hl, hf, -, hw⟩ := hy
    refine BayMove.of_setBay (b := b₁) (y := y) (fun b' => ?_) (by intro b'; rfl) (fun e => ?_) b
    · exact State.bay_setBay ..
    · exact .bound (by rw [e, hm]) (by rw [e, hl]) (by rw [e, hf]) (by rw [e, hbind]; simp)
        (by rw [e, hw]) rfl
  case release b₁ e r q n y _ _ _ _ _ hy hm hw =>
    obtain ⟨hbind, -, hf, hl, hp⟩ := hy
    refine BayMove.of_setBay (b := b₁) (y := y) (fun b' => ?_) (by intro b'; rfl) (fun e => ?_) b
    · exact State.bay_setBay ..
    · exact .unbound (by rw [e, hl]) (by rw [e, hp]) (by rw [e, hf]) (by rw [e, hbind]) (by rw [e]; exact hm)
        (by rw [e]; exact hw) rfl
  case pack b₁ d =>
    refine BayMove.of_setBay (b := b₁) (y := { s.bay b₁ with pack := some d }) (fun b' => ?_) (by intro b'; rfl) (fun e => ?_) b
    · exact State.bay_setBay ..
    · exact .packed (some d) e rfl
  case packQuiet b₁ a d _ _ =>
    refine BayMove.of_setBay (b := b₁) (y := { s.bay b₁ with pack := some d }) (fun b' => ?_) (by intro b'; rfl) (fun e => ?_) b
    · exact State.bay_setBay ..
    · exact .packed (some d) e rfl
  case amend k r f v _ _ => exact .same (s.amendField_bay k r f v b) (by rw [State.amendField_bayCfg])
  case pull k r _ _ => exact .same (s.pullFromFeed_bay k r b) (by rw [State.bayCfg, State.pullFromFeed_settings]; rfl)
  all_goals exact .same rfl rfl

/-! ### The start's channels -/

theorem State.stopMain_bay (s : State) (b : BayId) : s.stopMain.bay b = (s.bay b).retained := Bank.get_map _ _ _

theorem State.with_phase_bay (s : State) (p : Phase) (b : BayId) : ({ s with phase := p } : State).bay b = s.bay b := rfl

theorem State.with_phase_bayCfg (s : State) (p : Phase) (b : BayId) : ({ s with phase := p } : State).bayCfg b = s.bayCfg b := rfl

theorem State.reconcile_phase_bay (s : State) (p : Phase) (b : BayId) :
    ({ s.stopMain.reconcile with phase := p } : State).bay b = (s.bay b).retained.reconciled := by
  rw [State.with_phase_bay, State.reconcile_bay, State.stopMain_bay]

theorem State.completeStart_bay (s : State) (k : StartKind) (b : BayId) : (s.completeStart k).bay b =
    (s.bay b).retained.started ((s.bayCfg b).rating.isSome) (s.stopMain.restState b) s.settings.timing.link := by
  have h := s.stopMain.startBays_bay b
  rw [State.stopMain_bay] at h
  exact h

theorem State.completeStart_settings (s : State) (k : StartKind) : (s.completeStart k).settings = s.settings :=
  State.completeStart_frame State.settings (fun _ _ _ => rfl) k (fun _ _ _ _ _ => rfl) s

/-- The state of a bay at the end of a start: UNCONFIGURED, STOPPED or IDLE (R51). -/
theorem State.completeStart_mode (s : State) (k : StartKind) (b : BayId) :
    ((s.completeStart k).bay b).mode = .unconfigured ∨ ((s.completeStart k).bay b).mode = .stopped
      ∨ ((s.completeStart k).bay b).mode = .idle := by
  rw [State.completeStart_bay]
  unfold Bay.started
  dsimp only
  split
  · rcases s.stopMain.restState_cases b with h | h <;> simp [h]
  · exact .inl rfl

/-- The channels of a part that starts cold. -/
theorem State.cold_bay (s : State) (p : Phase) (b : BayId) : ({ s.coldValues with phase := p } : State).bay b = {} :=
  Bank.get_fill (n := 12) b ({} : Bay)

theorem State.cold_bayCfg (s : State) (p : Phase) (b : BayId) : ({ s.coldValues with phase := p } : State).bayCfg b = {} :=
  Bank.get_fill (n := 12) b ({} : BayCfg)

/-! ### Load levels -/

theorem Bay.LevelLegal.of_zero {x : Bay} {n m : Nat} (h : x.LevelLegal n) (hm : m = n) {y : Bay} (hy : y.level = 0) :
    y.LevelLegal m := by rw [hm]; exact h.zero hy

theorem BayMove.levelLegal {b : BayId} (h : BayMove s t b) (hs : (s.bay b).LevelLegal (s.bayCfg b).cap) :
    (t.bay b).LevelLegal (t.bayCfg b).cap := by
  cases h with
  | same hx hc => rw [hx, hc]; exact hs
  | keeps h hc => rw [hc]; exact h.level hs
  | packed d hx hc => rw [hx, hc]; exact hs
  | config _ _ _ hl => exact hl hs
  | bound _ hl _ _ _ hc => exact hs.of_zero hc hl
  | unbound hl _ _ _ _ _ hc => exact hs.of_zero hc hl

theorem Bay.levelLegal_start : ({} : Bay).LevelLegal ({} : BayCfg).cap := by
  refine ⟨fun _ _ => rfl, fun h => ?_, fun h => ?_, fun _ => rfl, ?_, ?_⟩
  · cases h
  · cases h
  · decide
  · decide

/-- The end of a step keeps the levels legal: where the main domain stops or starts every level is 0 (R76, R196). -/
theorem Last.levelsLegal (h : Last c s t) (hs : s.LevelsLegal) : t.LevelsLegal := by
  intro b
  have hb := hs b
  cases h with
  | wait p req => simpa using hb
  | stop ph _ => exact hb.of_zero rfl (by rw [show State.bay { s.stopMain with phase := ph } b = _ from s.stopMain_bay b]; rfl)
  | offReset _ => exact hb
  | retention _ => exact hb
  | warm _ =>
    refine hb.of_zero ?_ (by rw [State.reconcile_phase_bay]; rfl)
    rw [State.with_phase_bayCfg, State.bayCfg, State.reconcile_settings]; rfl
  | cold _ _ =>
    have hx := State.cold_bay s.stopMain (.starting .cold) b
    have hk := State.cold_bayCfg s.stopMain (.starting .cold) b
    rw [hx, hk]
    exact Bay.levelLegal_start
  | finish k _ =>
    refine hb.of_zero ?_ (by rw [State.completeStart_bay]; rfl)
    rw [State.bayCfg, State.completeStart_settings]; rfl

/-- Settles O9: no channel ever takes a level that R50 forbids, move by move. -/
theorem loadLevelsStayLegal : Obligations.LoadLevelsStayLegal :=
  kept_of_moves (fun _ _ h => h) (fun _ _ _ h hs b => (h.bayMove b).levelLegal (hs b)) (fun _ _ _ h => h.levelsLegal)

/-! ### Accumulators -/

/-- What R80 asks of one channel. -/
def Bay.EnergyOk (x : Bay) : Prop := x.frac < 36000000 ∧ (x.binding = none → x.frac = 0)

theorem BayMove.energyOk {b : BayId} (h : BayMove s t b) (hs : (s.bay b).EnergyOk) : (t.bay b).EnergyOk := by
  obtain ⟨hlt, hz⟩ := hs
  have hzero : (t.bay b).frac = 0 → (t.bay b).EnergyOk := fun e => by rw [Bay.EnergyOk, e]; exact ⟨by decide, fun _ => rfl⟩
  cases h with
  | same hx _ => rw [hx]; exact ⟨hlt, hz⟩
  | keeps h _ =>
    rw [Bay.EnergyOk, h.binding]
    rcases h.frac with e | ⟨hb, e⟩
    · rw [e]; exact ⟨hlt, hz⟩
    · exact ⟨e, fun k => absurd k hb⟩
  | packed d hx _ => rw [hx]; exact ⟨hlt, hz⟩
  | config _ _ h _ _ => rw [Bay.EnergyOk, h.1, h.2.2.1]; exact ⟨hlt, hz⟩
  | bound _ _ hf => exact hzero hf
  | unbound _ _ hf => exact hzero hf

/-- The end of a step: the accumulator is retained with its binding (Table 11-1), or goes with it (R76). -/
theorem Last.energyLaw (h : Last c s t) (hs : s.EnergyLaw) : t.EnergyLaw := by
  intro b
  have hb : (s.bay b).EnergyOk := hs b
  have hzero : ∀ {x : Bay}, t.bay b = x → x.frac = 0 → (t.bay b).EnergyOk :=
    fun e h => by rw [e, Bay.EnergyOk, h]; exact ⟨by decide, fun _ => rfl⟩
  cases h with
  | wait p req => simpa [Bay.EnergyOk] using hb
  | stop ph _ => rw [show State.bay { s.stopMain with phase := ph } b = _ from s.stopMain_bay b]; exact hb
  | offReset _ => exact hb
  | retention _ => exact hb
  | warm _ => exact hzero (State.reconcile_phase_bay s _ b) rfl
  | cold _ _ => exact hzero (State.cold_bay s.stopMain _ b) rfl
  | finish k _ => rw [State.completeStart_bay]; exact hb

/-- Settles O10: F moves by the integration alone, which leaves the rest of a whole watt-hour, and goes with the binding. -/
theorem accumulatorsStayBelowOneWattHour : Obligations.AccumulatorsStayBelowOneWattHour :=
  kept_of_moves (fun _ _ h => h) (fun _ _ _ h hs b => (h.bayMove b).energyOk (hs b)) (fun _ _ _ h => h.energyLaw)

end Sys2Proof.Machine
end

section
/-!
PROOFS. The laws of the attention lines (R189) and of the outputs (R130, R131, R135, R140, R196).
-/

namespace Sys2Proof.Machine

variable {c : Cause} {s t : State}

/-! ### Attention -/

/-- What R189 and R196 ask of a port. -/
theorem State.attentionLaw_iff (s : State) : s.AttentionLaw ↔ ∀ p, (s.port p).LineFollows s.running :=
  ⟨fun h p => by cases p <;> simp only [State.port, h.1, h.2], fun h => ⟨h .line, h .plant⟩⟩

theorem State.AttentionLaw.setPort (h : s.AttentionLaw) (p : Port) (x : PortState) (hx : x.LineFollows s.running) :
    (s.setPort p x).AttentionLaw := by
  cases p
  · exact ⟨hx, h.2⟩
  · exact ⟨h.1, hx⟩

theorem State.AttentionLaw.of_ports (h : s.AttentionLaw) (hl : t.line = s.line) (hp : t.plant = s.plant)
    (hr : t.running = s.running) : t.AttentionLaw := by
  unfold State.AttentionLaw; rw [hl, hp, hr]; exact h

theorem PortState.attend_follows (x : PortState) (f : Attn → Attn) : (x.attend f).LineFollows true :=
  ⟨fun _ => rfl, fun h => by cases h⟩

theorem State.AttentionLaw.raise (h : s.AttentionLaw) (f : Attn → Attn) : (s.raise f).AttentionLaw := by
  cases hr : s.running with
  | false => simpa [State.raise, State.raisePort, hr] using h
  | true =>
    rw [s.raise_eq hr]
    have hrun : State.running { s with line := s.line.attend f, plant := s.plant.attend f } = true := hr
    rw [State.AttentionLaw, hrun]
    exact ⟨s.line.attend_follows f, s.plant.attend_follows f⟩

theorem State.AttentionLaw.startReturn (h : s.AttentionLaw) : s.startReturn.AttentionLaw := by
  unfold State.startReturn
  split
  · exact h
  · next e _ =>
    have h1 : (((s.setFeed s.feed.closeGate).remember e).askFeed (.giveBack e)).AttentionLaw :=
      h.of_ports (by simp) (by simp) (by simp)
    exact h1.raise _

theorem State.AttentionLaw.enterChamber (h : s.AttentionLaw) (g : ChamberState) : (s.enterChamber g).AttentionLaw := by
  have h1 : ((s.setChamber { s.chamber with state := g }).driveChamber).AttentionLaw := h
  have h2 := h1.raise (fun a => { a with chamber := true })
  unfold State.enterChamber
  split
  · exact h
  · unfold State.feedChamberReport
    dsimp only
    have h3 : ∀ u : State, u.AttentionLaw → u.evalAdmission.AttentionLaw :=
      fun u hu => hu.of_ports (by simp) (by simp) (by simp)
    refine h3 _ ?_
    split
    · split
      iterate 3 exact State.AttentionLaw.startReturn h2
      all_goals exact h2
    · exact h2

/-- Every move keeps the attention lines (R189). -/
theorem Move.attentionLaw (h : Move c s t) (hs : s.AttentionLaw) : t.AttentionLaw := by
  cases h
  case port p x ha hm hl hw =>
    refine hs.setPort p x ?_
    have hp := (s.attentionLaw_iff.mp hs) p
    unfold PortState.LineFollows at hp ⊢
    rw [ha, hm, hl]; exact hp
  case attend p f hr => exact hs.setPort p _ (by rw [hr]; exact (s.port p).attend_follows f)
  case mask p m hr =>
    refine hs.setPort p _ ?_
    rw [hr]
    exact ⟨fun _ => rfl, fun k => by cases k⟩
  case enterChamber g _ _ => exact hs.enterChamber g
  case pull k r _ _ => exact hs.of_ports (s.pullFromFeed_ports k r).1 (s.pullFromFeed_ports k r).2 (by simp [State.running, State.pullFromFeed_phase])
  case amend k r f v _ _ =>
    exact hs.of_ports (s.amendField_ports k r f v).1 (s.amendField_ports k r f v).2 (by simp [State.running, State.amendField_phase])
  case evalAdmission | askLate | startReturn | pass | unexpected | enqueue | withdraw =>
    exact hs.of_ports (by simp) (by simp) (by simp)
  case openGate => exact hs.of_ports (by simp [State.popFeed]) (by simp [State.popFeed]) (by simp [State.popFeed])
  all_goals exact hs

theorem PortState.retained_follows (x : PortState) : x.retained.LineFollows false := ⟨fun h => (by cases h), fun _ => rfl⟩

theorem PortState.started_follows (x : PortState) : x.started.LineFollows true := ⟨fun _ => rfl, fun h => by cases h⟩

theorem State.running_of_phase (s : State) (h : s.phase ≠ .running) : s.running = false := by
  unfold State.running
  cases hp : s.phase <;> simp_all

theorem State.AttentionLaw.stopped (hl : t.line.attnLine = false) (hp : t.plant.attnLine = false) (h : t.phase ≠ .running) :
    t.AttentionLaw := by
  rw [State.AttentionLaw, t.running_of_phase h]
  exact ⟨⟨fun h => (by cases h), fun _ => hl⟩, ⟨fun h => (by cases h), fun _ => hp⟩⟩

theorem State.AttentionLaw.starting (hl : s.line.attnLine = false) (hp : s.plant.attnLine = false) (k : StartKind) :
    ({ s with phase := .starting k } : State).AttentionLaw :=
  .stopped (t := { s with phase := .starting k }) hl hp (by simp)

/-- The end of a step: the lines are inactive while the main domain is gone, and follow {RESTART} at the end of a start. -/
theorem Last.attentionLaw (h : Last c s t) (hs : s.AttentionLaw) : t.AttentionLaw := by
  cases h with
  | wait p req => exact hs.setPort p _ ((s.attentionLaw_iff.mp hs) p)
  | stop ph hph => exact .stopped rfl rfl (by rcases hph with e | e <;> rw [e] <;> simp)
  | offReset hp =>
    have hrun := s.running_of_phase (by rw [hp]; simp)
    rw [State.AttentionLaw, hrun] at hs
    exact .stopped (hs.1.2 rfl) (hs.2.2 rfl) (by simp)
  | retention _ => exact hs
  | warm _ =>
    have hl : s.stopMain.reconcile.line.attnLine = false := by rw [State.reconcile_line]; rfl
    have hp : s.stopMain.reconcile.plant.attnLine = false := by rw [State.reconcile_plant]; rfl
    exact State.AttentionLaw.starting hl hp _
  | cold _ _ => exact .stopped rfl rfl (by simp)
  | finish k _ =>
    have hrun : (s.completeStart k).running = true := rfl
    rw [State.AttentionLaw, hrun]
    exact ⟨PortState.started_follows _, PortState.started_follows _⟩

/-- Settles O12: a port's line moves with its pending set and its mask in the same event. -/
theorem attentionLinesFollowThePendingSets : Obligations.AttentionLinesFollowThePendingSets :=
  kept_of_moves (fun _ _ h => h) (fun _ _ _ h => h.attentionLaw) (fun _ _ _ h => h.attentionLaw)

/-! ### Outputs -/

/-- The outputs while the part runs, with the gate (R130, R131, R135, R140). -/
structure State.OutputsRun (s : State) : Prop where
  nitrogen : s.chamber.nitrogen = s.chamber.state.nitrogen
  flood : s.chamber.flood = decide (s.chamber.state = .fire)
  permit : s.chamber.permit = permitOf s.chamber.state s.chamber.eff s.settings.chamber.abort
  shred : s.chamber.shredPermit = (s.chamber.permit && s.lines.plantPermit)
  gate : s.feed.gateOpen = s.feed.gate.isSome
  inert : s.feed.gateOpen = true → s.chamber.state = .inert

/-- The outputs while the part does not run (R196). -/
def State.OutputsOff (s : State) : Prop :=
  s.chamber.nitrogen = false ∧ s.chamber.flood = false ∧ s.chamber.shredPermit = false ∧ s.feed.gateOpen = false

theorem State.outputsLaw_iff (s : State) : s.OutputsLaw ↔ (s.running = true → s.OutputsRun) ∧ (s.running = false → s.OutputsOff) := by
  unfold State.OutputsLaw State.OutputsOff
  refine and_congr (imp_congr_right fun _ => ⟨?_, ?_⟩) Iff.rfl
  · rintro ⟨h1, h2, h3, h4, h5, h6⟩; exact ⟨h1, h2, h3, h4, h5, h6⟩
  · rintro ⟨h1, h2, h3, h4, h5, h6⟩; exact ⟨h1, h2, h3, h4, h5, h6⟩

/-- What the outputs law reads. -/
structure State.SameOutputs (s t : State) : Prop where
  running : t.running = s.running := by rfl
  chamber : t.chamber = s.chamber := by rfl
  abort : t.settings.chamber.abort = s.settings.chamber.abort := by rfl
  permit : t.lines.plantPermit = s.lines.plantPermit := by rfl
  gate : t.feed.gate = s.feed.gate := by rfl
  gateOpen : t.feed.gateOpen = s.feed.gateOpen := by rfl

theorem State.SameOutputs.law (h : s.SameOutputs t) (hs : s.OutputsLaw) : t.OutputsLaw := by
  unfold State.OutputsLaw
  rw [h.running, h.chamber, h.abort, h.permit, h.gate, h.gateOpen]
  exact hs

/-- The outputs driven again over a gate that stands as it should. -/
theorem State.driveChamber_outputs (hr : s.running = true) (hg : s.feed.gateOpen = s.feed.gate.isSome)
    (hi : s.feed.gateOpen = true → s.chamber.state = .inert) : s.driveChamber.OutputsLaw := by
  rw [State.outputsLaw_iff]
  exact ⟨fun _ => ⟨rfl, rfl, rfl, rfl, hg, hi⟩, fun h => by rw [show s.driveChamber.running = s.running from rfl, hr] at h; cases h⟩

/-- The gate closed over outputs that stand. -/
theorem State.OutputsLaw.closed (h : s.OutputsLaw) (hr : t.running = s.running) (hc : t.chamber = s.chamber)
    (ha : t.settings = s.settings) (hl : t.lines = s.lines) (hg : t.feed.gate = none) (ho : t.feed.gateOpen = false) :
    t.OutputsLaw := by
  rw [State.outputsLaw_iff] at h ⊢
  rw [hr]
  refine ⟨fun k => ?_, fun k => ?_⟩
  · obtain ⟨h1, h2, h3, h4, -, -⟩ := h.1 k
    exact ⟨by rw [hc]; exact h1, by rw [hc]; exact h2, by rw [hc, ha]; exact h3, by rw [hc, hl]; exact h4, by rw [hg, ho]; rfl,
      fun e => by rw [ho] at e; cases e⟩
  · obtain ⟨h1, h2, h3, -⟩ := h.2 k
    exact ⟨by rw [hc]; exact h1, by rw [hc]; exact h2, by rw [hc]; exact h3, ho⟩

theorem State.evalAdmission_gate (s : State) : s.evalAdmission.feed.gate = s.feed.gate
    ∧ s.evalAdmission.feed.gateOpen = s.feed.gateOpen := by
  unfold State.evalAdmission
  split
  · split
    · simp
    · exact ⟨rfl, rfl⟩
  · exact ⟨rfl, rfl⟩

theorem State.evalAdmission_sameOutputs (s : State) : s.SameOutputs s.evalAdmission where
  running := by simp
  chamber := by simp
  abort := by simp
  permit := by simp
  gate := s.evalAdmission_gate.1
  gateOpen := s.evalAdmission_gate.2

/-- A gate record returned leaves none (R146). -/
theorem State.startReturn_gate (s : State) : s.startReturn.feed.gate = none
    ∧ (s.startReturn.feed.gateOpen = false ∨ (s.feed.gate = none ∧ s.startReturn.feed.gateOpen = s.feed.gateOpen)) := by
  unfold State.startReturn
  split
  · next h => exact ⟨h, .inr ⟨h, rfl⟩⟩
  · refine ⟨?_, .inl ?_⟩ <;> simp [Feed.closeGate, State.remember, State.raiseFeed]

/-- The chamber after a change of state: the outputs of the new state (R130, R131). -/
theorem State.enterChamber_chamber (s : State) (g : ChamberState) (h : s.chamber.state ≠ g) : (s.enterChamber g).chamber
    = ({ s.chamber with state := g }).drive s.settings.chamber.abort s.lines.plantPermit := by
  unfold State.enterChamber State.feedChamberReport
  rw [if_neg h]
  dsimp only
  split
  · split <;> simp [State.driveChamber]
  · simp [State.driveChamber]

/-- The gate after a change of chamber state (R132): it stays, but for a chamber that leaves INERT for a state without the
interlock. -/
theorem State.enterChamber_gate (s : State) (g : ChamberState) (h : s.chamber.state ≠ g) :
    ((s.chamber.state ≠ .inert ∨ g = .shredding ∨ g = .purging)
      ∧ (s.enterChamber g).feed.gate = s.feed.gate ∧ (s.enterChamber g).feed.gateOpen = s.feed.gateOpen)
    ∨ ((s.enterChamber g).feed.gate = none ∧ ((s.enterChamber g).feed.gateOpen = false
      ∨ (s.feed.gate = none ∧ (s.enterChamber g).feed.gateOpen = s.feed.gateOpen))) := by
  obtain ⟨x, hx⟩ : ∃ x, x = (((s.setChamber { s.chamber with state := g }).driveChamber).raiseChamber) := ⟨_, rfl⟩
  have hf : x.feed = s.feed := by rw [hx]; simp
  unfold State.enterChamber State.feedChamberReport
  rw [if_neg h, ← hx]
  dsimp only
  rw [(State.evalAdmission_gate _).1, (State.evalAdmission_gate _).2]
  split
  · split
    iterate 3
      obtain ⟨h1, h2⟩ := x.startReturn_gate
      rw [hf] at h2
      exact .inr ⟨h1, h2⟩
    · exact .inr ⟨rfl, .inl rfl⟩
    · exact absurd ‹s.chamber.state = .inert› h
    · exact .inl ⟨.inr (.inl rfl), by rw [hf], by rw [hf]⟩
    · exact .inl ⟨.inr (.inr rfl), by rw [hf], by rw [hf]⟩
  · next hi => exact .inl ⟨.inl hi, by rw [hf], by rw [hf]⟩

/-- A change of the chamber's state keeps the outputs law: the gate is closed before the interlock goes (R132). -/
theorem State.OutputsLaw.enterChamber (hs : s.OutputsLaw) (g : ChamberState) (hr : s.running = true)
    (hg : g = .shredding ∨ g = .purging → s.chamber.state ≠ .inert ∨ s.feed.gate = none) : (s.enterChamber g).OutputsLaw := by
  by_cases h : s.chamber.state = g
  · rw [State.enterChamber, if_pos h]; exact hs
  obtain ⟨-, -, -, -, h5, h6⟩ := (s.outputsLaw_iff.mp hs).1 hr
  have hclosed : s.chamber.state ≠ .inert → s.feed.gate = none := fun k => by
    cases hgate : s.feed.gate with
    | none => rfl
    | some e => exact absurd (h6 (by rw [h5, hgate]; rfl)) k
  have hnone : (s.enterChamber g).feed.gate = none ∧ (s.enterChamber g).feed.gateOpen = false := by
    rcases s.enterChamber_gate g h with ⟨hk, e1, e2⟩ | ⟨e1, e2⟩
    · have hn : s.feed.gate = none := by
        by_cases hi : s.chamber.state = .inert
        · exact (hg (hk.resolve_left (fun k => k hi))).resolve_left (fun k => k hi)
        · exact hclosed hi
      exact ⟨e1.trans hn, by rw [e2, h5, hn]; rfl⟩
    · refine ⟨e1, ?_⟩
      rcases e2 with e | ⟨hn, e⟩
      · exact e
      · rw [e, h5, hn]; rfl
  rw [State.outputsLaw_iff]
  refine ⟨fun _ => ?_, fun k => by rw [State.enterChamber_running, hr] at k; cases k⟩
  have hc := s.enterChamber_chamber g h
  exact ⟨by rw [hc]; rfl, by rw [hc]; rfl, by rw [hc, State.enterChamber_settings]; rfl,
    by rw [hc, State.enterChamber_lines]; rfl, by rw [hnone.1, hnone.2]; rfl, fun k => by rw [hnone.2] at k; cases k⟩

theorem State.pullFromFeed_outputs (s : State) (k : Slot) (r : Rec) (hs : s.OutputsLaw) : (s.pullFromFeed k r).OutputsLaw := by
  unfold State.pullFromFeed
  dsimp only
  split
  · exact hs.closed rfl rfl rfl rfl rfl rfl
  · exact State.SameOutputs.law {} hs

theorem State.amendField_outputs (s : State) (k : Slot) (r : Rec) (f : OpField) (v : Nat) (hs : s.OutputsLaw) :
    (s.amendField k r f v).OutputsLaw := by
  unfold State.amendField
  split
  · split
    · exact State.SameOutputs.law {} hs
    · exact hs
  all_goals exact State.SameOutputs.law {} hs

theorem State.forget_gate (s : State) (e : Entry) : (s.forget e).feed.gate = s.feed.gate
    ∧ (s.forget e).feed.gateOpen = s.feed.gateOpen := by
  unfold State.forget
  split
  · split <;> exact ⟨rfl, rfl⟩
  · exact ⟨rfl, rfl⟩

theorem State.forget_sameOutputs (s : State) (e : Entry) : s.SameOutputs (s.forget e) where
  running := by simp
  chamber := by simp
  abort := by simp
  permit := by simp
  gate := (s.forget_gate e).1
  gateOpen := (s.forget_gate e).2

/-- Every move keeps the outputs law. -/
theorem Move.outputsLaw (h : Move c s t) (hs : s.OutputsLaw) : t.OutputsLaw := by
  have same : s.SameOutputs t → t.OutputsLaw := fun k => k.law hs
  cases h
  case port p x _ _ _ _ => exact same { running := by simp, chamber := by simp, abort := by simp, permit := by simp, gate := by simp, gateOpen := by simp }
  case attend p f _ => exact same { running := by simp, chamber := by simp, abort := by simp, permit := by simp, gate := by simp, gateOpen := by simp }
  case mask p m _ => exact same { running := by simp, chamber := by simp, abort := by simp, permit := by simp, gate := by simp, gateOpen := by simp }
  case askLate w _ => exact same { running := by simp, chamber := by simp, abort := by simp, permit := by simp, gate := by simp, gateOpen := by simp }
  case lines l hl =>
    rcases hl with e | e
    · exact same { permit := e }
    · rw [State.outputsLaw_iff] at hs ⊢
      exact ⟨fun k => (by rw [show (s.setLines l).running = s.running from rfl, e] at k; cases k), hs.2⟩
  case permit l hr =>
    obtain ⟨-, -, -, -, h5, h6⟩ := (s.outputsLaw_iff.mp hs).1 hr
    exact State.driveChamber_outputs (s := s.setLines l) hr h5 h6
  case settings k _ _ hk _ => exact same { abort := congrArg ChamberCfg.abort hk }
  case chamberCfg k hstate =>
    rw [State.outputsLaw_iff] at hs ⊢
    refine ⟨fun hr => ?_, hs.2⟩
    obtain ⟨h1, h2, h3, h4, h5, h6⟩ := hs.1 hr
    refine ⟨h1, h2, ?_, h4, h5, h6⟩
    have hp : ∀ a, permitOf s.chamber.state s.chamber.eff a = false := fun a => by rcases hstate with e | e <;> rw [e] <;> rfl
    exact (h3.trans (hp _)).trans (hp _).symm
  case chamber x h1 h2 h3 h4 h5 h6 =>
    rw [State.outputsLaw_iff] at hs ⊢
    refine ⟨fun hr => ?_, fun hr => ?_⟩
    · obtain ⟨k1, k2, k3, k4, k5, k6⟩ := hs.1 hr
      have hx : (s.setChamber x).chamber = x := rfl
      exact ⟨by rw [hx, h3, h1]; exact k1, by rw [hx, h4, h1]; exact k2, by rw [hx, h5, h1, h2]; exact k3,
        by rw [hx, h6, h5]; exact k4, k5, by rw [hx, h1]; exact k6⟩
    · obtain ⟨k1, k2, k3, k4⟩ := hs.2 hr
      exact ⟨h3.trans k1, h4.trans k2, h6.trans k3, k4⟩
  case drive x hx hr =>
    obtain ⟨-, -, -, -, h5, h6⟩ := (s.outputsLaw_iff.mp hs).1 hr
    exact State.driveChamber_outputs (s := s.setChamber x) hr h5 (fun k => hx.trans (h6 k))
  case enterChamber g hr hg => exact hs.enterChamber g hr hg
  case feed f _ hg ho _ _ _ => exact same { gate := hg, gateOpen := ho }
  case closeGate => exact hs.closed rfl rfl rfl rfl rfl rfl
  case evalAdmission => exact s.evalAdmission_sameOutputs.law hs
  case startReturn e _ =>
    exact hs.closed (by simp) (by simp) (by simp) (by simp) (by simp [State.remember, Feed.closeGate]) (by simp [State.remember, Feed.closeGate])
  case pass e f _ _ hg ho _ _ _ => exact hs.closed (by simp) (by simp) (by simp) (by simp) (by simp [hg]) (by simp [ho])
  case unexpected f _ _ hg ho _ _ _ =>
    exact same { running := by simp, chamber := by simp, abort := by simp, permit := by simp, gate := by simp [hg], gateOpen := by simp [ho] }
  case amend k r f v _ _ => exact s.amendField_outputs k r f v hs
  case pull k r _ _ => exact s.pullFromFeed_outputs k r hs
  case enqueue k r _ _ _ _ _ => exact (State.forget_sameOutputs _ _).law (State.SameOutputs.law {} hs)
  case withdraw k r _ _ => exact (State.forget_sameOutputs _ _).law (State.SameOutputs.law {} hs)
  case openGate e l r f hr _ _ ha _ hf =>
    refine (State.forget_sameOutputs _ _).law ?_
    have hi : s.chamber.state = .inert := by
      simp only [State.admits, State.admissionConditions, List.all_cons, id, Bool.and_eq_true, decide_eq_true_eq] at ha
      exact ha.2.1
    rw [State.outputsLaw_iff] at hs ⊢
    obtain ⟨h1, h2, h3, h4, -, -⟩ := hs.1 hr
    exact ⟨fun _ => ⟨h1, h2, h3, h4, by rw [hf]; rfl, fun _ => hi⟩, fun k => absurd (hr.symm.trans k) (by simp)⟩
  all_goals exact same {}

theorem State.OutputsLaw.off (h : t.phase ≠ .running) (hn : t.chamber.nitrogen = false) (hf : t.chamber.flood = false)
    (hs : t.chamber.shredPermit = false) (hg : t.feed.gateOpen = false) : t.OutputsLaw := by
  rw [State.outputsLaw_iff, t.running_of_phase h]
  exact ⟨fun k => (by cases k), fun _ => ⟨hn, hf, hs, hg⟩⟩

theorem State.OutputsLaw.starting (hc : s.chamber = {}) (hg : s.feed.gateOpen = false) (k : StartKind) :
    ({ s with phase := .starting k } : State).OutputsLaw :=
  .off (t := { s with phase := .starting k }) (by simp) (by simp [hc]) (by simp [hc]) (by simp [hc]) hg

theorem State.completeStart_feed (s : State) (k : StartKind) :
    (s.completeStart k).feed = { s.feed.retained with block := s.stopMain.startBays.startBlock } := by
  have h : s.stopMain.startBays.feed = s.stopMain.feed := s.stopMain.startBays_frame State.feed (fun _ _ _ => rfl)
  show { s.stopMain.startBays.feed with block := s.stopMain.startBays.startBlock } = _
  rw [h]; rfl

/-- The end of a step: every output is inactive without the main domain, and driven at the end of a start (R196, R197). -/
theorem Last.outputsLaw (h : Last c s t) (hs : s.OutputsLaw) : t.OutputsLaw := by
  cases h with
  | wait p req => exact State.SameOutputs.law (by constructor <;> simp) hs
  | stop ph hph => exact .off (by rcases hph with e | e <;> rw [e] <;> simp) rfl rfl rfl rfl
  | offReset hp =>
    obtain ⟨h1, h2, h3, h4⟩ := (s.outputsLaw_iff.mp hs).2 (s.running_of_phase (by rw [hp]; simp))
    exact .off (by simp) h1 h2 h3 h4
  | retention _ => exact State.SameOutputs.law {} hs
  | warm _ =>
    refine State.OutputsLaw.starting ?_ ?_ _
    · rw [State.reconcile_chamber]; rfl
    · rw [State.reconcile_feed_gateOpen]; rfl
  | cold _ _ => exact State.OutputsLaw.starting rfl rfl _
  | finish k _ =>
    rw [State.outputsLaw_iff]
    refine ⟨fun _ => ⟨rfl, rfl, rfl, rfl, ?_, fun e => ?_⟩, fun e => ?_⟩
    · rw [State.completeStart_feed]; rfl
    · rw [State.completeStart_feed] at e; cases e
    · cases e

/-- Settles O11: the outputs are driven wherever the chamber, EFF, the abort level or PLANT_PERMIT change, and a chamber
leaves INERT only with the gate closed or handed over. -/
theorem outputsFollowTheChamberState : Obligations.OutputsFollowTheChamberState :=
  kept_of_moves (fun _ _ h => h) (fun _ _ _ h => h.outputsLaw) (fun _ _ _ h => h.outputsLaw)

end Sys2Proof.Machine
end

section
/-!
PROOFS. The zones follow their vote (R162), and ALARM is a latch (R163): what a move does to the channels and the state of each
zone.
-/

namespace Sys2Proof.Machine

variable {c : Cause} {s t : State}

/-- The zones' own states stand still. -/
def State.SameZones (s t : State) : Prop :=
  ∀ z, (t.zone z).state = (s.zone z).state ∧ (t.zone z).degraded = (s.zone z).degraded

/-- What a move does to the zones and their channels. -/
inductive VoteMove (c : Cause) (s t : State) : Prop
  /-- No zone and no channel of one changes its state. -/
  | same (hz : s.SameZones t) (hc : ∀ z, t.channelStates z = s.channelStates z)
  /-- A channel of one zone changes, and the zone takes its vote's result. -/
  | settled (z : ZoneId) (u : State) (ht : t = u.settle z) (hz : s.SameZones u)
      (hc : ∀ z', z' ≠ z → u.channelStates z' = s.channelStates z')
  /-- A zone without a channel in WARN or ALARM_LEVEL is cleared. -/
  | clear (z : ZoneId) (ht : t = s.setZone z { s.zone z with state := .normal }) (hq : s.zoneQuiet z = true)
      (hi : c.front = some (.clearAlarm .plant z.1))

/-- The parts of the state that the votes read. -/
theorem VoteMove.of_parts (hz : s.SameZones t) (hf : ∀ z, (t.zone z).flame.state = (s.zone z).flame.state)
    (hm : t.settings.detectors = s.settings.detectors) (hd : ∀ d, (t.detector d).chan.state = (s.detector d).chan.state)
    (hp : ∀ b, (t.bay b).pack.map Chan.state = (s.bay b).pack.map Chan.state) : VoteMove c s t :=
  .same hz (fun z => by simp only [State.channelStates, State.mappedTo, hf, hm, hd, hp])

/-- Only bays, records and other parts that no vote reads change. -/
theorem VoteMove.of_bays (hz : t.zones = s.zones := by rfl) (hm : t.settings.detectors = s.settings.detectors := by rfl)
    (hd : t.detectors = s.detectors := by rfl) (hp : ∀ b, (t.bay b).pack = (s.bay b).pack := by exact fun _ => rfl) :
    VoteMove c s t :=
  .of_parts (fun z => by simp [State.zone, hz]) (fun z => by simp [State.zone, hz]) hm
    (fun d => by simp [State.detector, hd]) (fun b => by rw [hp b])

theorem State.mem_mappedTo {z : ZoneId} {d : DetId} : d ∈ s.mappedTo z ↔ ∃ m, s.settings.detectors.get d = some m ∧ m.zone = z := by
  unfold State.mappedTo Bank.places
  simp only [List.mem_filter, List.mem_finRange, true_and]
  cases s.settings.detectors.get d <;> simp

/-- A detector changed does not change the channels of the zones it is not mapped to. -/
theorem State.setDetector_channelStates (d : DetId) (x : Detector) (z : ZoneId)
    (h : ∀ m, s.settings.detectors.get d = some m → m.zone ≠ z) : (s.setDetector d x).channelStates z = s.channelStates z := by
  have hmap : (s.setDetector d x).mappedTo z = s.mappedTo z := rfl
  have hstates : (s.mappedTo z).map (fun e => ((s.setDetector d x).detector e).chan.state)
      = (s.mappedTo z).map (fun e => (s.detector e).chan.state) := by
    refine List.map_congr_left (fun e he => ?_)
    obtain ⟨m, hm, hz⟩ := State.mem_mappedTo.mp he
    have hne : e ≠ d := fun k => h m (k ▸ hm) hz
    simp [State.detector, State.setDetector, Bank.get_set, hne]
  unfold State.channelStates
  rw [hmap, hstates]
  rfl

/-- The pack-temperature channel of a bay changed does not change the channels of the other zones. -/
theorem State.setBay_channelStates (b : BayId) (y : Bay) (z : ZoneId) (h : z ≠ bayZone b) :
    (s.setBay b y).channelStates z = s.channelStates z := by
  have hpack : (zoneBays z).filterMap (fun b' => ((s.setBay b y).bay b').pack.map Chan.state)
      = (zoneBays z).filterMap (fun b' => (s.bay b').pack.map Chan.state) := by
    refine filterMap_eq_of_mem (fun b' hb => ?_)
    have hz : bayZone b' = z := by simpa using (mem_zoneBays ..).mp hb
    have hne : b' ≠ b := fun k => h (k ▸ hz.symm)
    rw [State.bay_setBay, if_neg hne]
  unfold State.channelStates
  rw [hpack]
  rfl

/-- The map entry of an address changed does not change the channels of the zones it names neither before nor after. -/
theorem State.setMap_channelStates (d : DetId) (o : Option MapEntry) (z : ZoneId)
    (h1 : ∀ m, s.settings.detectors.get d = some m → m.zone ≠ z) (h2 : ∀ m, o = some m → m.zone ≠ z) :
    (s.setSettings { s.settings with detectors := s.settings.detectors.set d o }).channelStates z = s.channelStates z := by
  have hmap : (s.setSettings { s.settings with detectors := s.settings.detectors.set d o }).mappedTo z = s.mappedTo z := by
    unfold State.mappedTo
    refine List.filter_congr (fun e _ => ?_)
    simp only [State.setSettings, Bank.get_set]
    by_cases he : e = d
    · subst he
      rw [if_pos rfl]
      cases ho : o with
      | none =>
        cases hg : s.settings.detectors.get e with
        | none => rfl
        | some m => simp [h1 m hg]
      | some m' =>
        cases hg : s.settings.detectors.get e with
        | none => simp [h2 m' ho]
        | some m => simp [h1 m hg, h2 m' ho]
    · rw [if_neg he]
  unfold State.channelStates
  rw [hmap]
  rfl

theorem State.setZone_channelStates (z z' : ZoneId) (x : Zone) (h : z' ≠ z) :
    (s.setZone z x).channelStates z' = s.channelStates z' := by
  unfold State.channelStates
  rw [State.zone_setZone, if_neg h]
  rfl

theorem State.SameZones.of_zones (h : t.zones = s.zones := by rfl) : s.SameZones t := fun z => by simp [State.zone, h]

theorem State.SameZones.of_setZone (z : ZoneId) (x : Zone) (hs : x.state = (s.zone z).state) (hd : x.degraded = (s.zone z).degraded) :
    s.SameZones (s.setZone z x) := fun z' => by
  rw [State.zone_setZone]
  split
  · next e => subst e; exact ⟨hs, hd⟩
  · exact ⟨rfl, rfl⟩

/-- What every move does to the zones. -/
theorem Move.voteMove (h : Move c s t) : VoteMove c s t := by
  cases h
  case port | attend | mask | evalAdmission | askLate | startReturn | pass | unexpected | enqueue | withdraw | enterChamber =>
    exact .of_bays (by simp) (by simp) (by simp) (by simp)
  case openGate => exact .of_bays (by simp [State.popFeed]) (by simp [State.popFeed]) (by simp [State.popFeed]) (by simp [State.popFeed])
  case settings k _ hd _ _ => exact .of_bays rfl hd
  case bay b y h =>
    refine .of_bays (hp := fun b' => ?_)
    rw [State.bay_setBay]
    split
    · next e => subst e; exact h.pack
    · rfl
  case bays l h => exact .of_bays (hp := fun b => (h b).pack)
  case bayCfg b k y _ _ h _ _ =>
    refine .of_bays (hp := fun b' => ?_)
    rw [State.bay_setBay]
    split
    · next e => subst e; exact h.2.1
    · rfl
  case bind k r b y _ _ _ _ _ _ => exact .settled (bayZone b) _ rfl .of_zones (fun z hz => State.setBay_channelStates (s := s.setRecord k _) b y z hz)
  case release b e r q n y _ _ _ _ _ _ _ _ =>
    exact .settled (bayZone b) _ rfl .of_zones
      (fun z hz => State.setBay_channelStates (s := (s.creditEnergy e.slot r n).setRecord e.slot _) b y z hz)
  case sweepWaiting z w =>
    refine .of_parts (.of_setZone z _ rfl rfl) (fun z' => ?_) rfl (fun _ => rfl) (fun _ => rfl)
    rw [State.zone_setZone]
    split
    · next e => subst e; rfl
    · rfl
  case detector d m x h =>
    refine .settled m.zone _ rfl .of_zones (fun z hz => State.setDetector_channelStates d x z (fun m' hm' => ?_))
    cases h.symm.trans hm'
    exact Ne.symm hz
  case detectorQuiet d x h =>
    rcases h with h | h
    · refine .of_parts .of_zones (fun _ => rfl) rfl (fun d' => ?_) (fun _ => rfl)
      simp only [State.detector, State.setDetector, Bank.get_set]
      split
      · next e => subst e; exact h
      · rfl
    · exact .same .of_zones (fun z => State.setDetector_channelStates d x z (fun m hm => by rw [h] at hm; cases hm))
  case pack b d => exact .settled (bayZone b) _ rfl .of_zones (fun z hz => State.setBay_channelStates b _ z hz)
  case packQuiet b a d h hs =>
    refine .of_parts .of_zones (fun _ => rfl) rfl (fun _ => rfl) (fun b' => ?_)
    simp only [State.modBay, State.bay_setBay]
    split
    · next e => subst e; simp [h, hs]
    · rfl
  case flame z f => exact .settled z _ rfl (.of_setZone z _ rfl rfl) (fun z' hz => State.setZone_channelStates z z' _ hz)
  case flameQuiet z f h =>
    refine .of_parts (.of_setZone z _ rfl rfl) (fun z' => ?_) rfl (fun _ => rfl) (fun _ => rfl)
    rw [State.zone_setZone]
    split
    · next e => subst e; exact h
    · rfl
  case unmap d m h =>
    refine .settled m.zone _ rfl .of_zones (fun z hz => State.setMap_channelStates d none z (fun m' hm' => ?_) (fun _ e => by cases e))
    cases h.symm.trans hm'
    exact Ne.symm hz
  case map d m h =>
    refine .settled m.zone _ rfl .of_zones (fun z hz => ?_)
    rw [State.setDetector_channelStates]
    · exact State.setMap_channelStates d (some m) z (fun m' hm' => by rw [h] at hm'; cases hm') (fun m' e => by cases e; exact Ne.symm hz)
    · intro m' hm'
      simp only [State.setSettings, Bank.get_set_same, Option.some.injEq] at hm'
      exact hm' ▸ Ne.symm hz
  case clear z hq hi => exact .clear z rfl hq hi
  case amend k r f v _ _ =>
    unfold State.amendField
    split
    · split <;> exact .of_bays
    all_goals exact .of_bays
  case pull k r _ _ =>
    unfold State.pullFromFeed
    dsimp only
    split <;> exact .of_bays
  all_goals exact .of_bays

/-! ### The vote's law -/

theorem State.settle_zone_same (s : State) (z : ZoneId) : ((s.settle z).zone z).state = voteOf (s.zone z).state (s.channelStates z)
    ∧ ((s.settle z).zone z).degraded = degradedOf (s.channelStates z) := by
  simp [State.settle]

theorem State.settle_zone_other (s : State) (z z' : ZoneId) (h : z' ≠ z) : (s.settle z).zone z' = s.zone z' := by
  simp [State.settle, State.zone_setZone, h]

/-- The vote's result does not touch the channels. -/
theorem State.settle_channelStates (s : State) (z z' : ZoneId) : (s.settle z).channelStates z' = s.channelStates z' := by
  have hf : ((s.settle z).zone z').flame = (s.zone z').flame := by
    unfold State.settle
    rw [State.zone_setZone]
    split
    · next e => subst e; rfl
    · rfl
  exact State.channelStates_congr z' hf rfl rfl (fun _ => rfl)

/-- Without a channel in WARN or ALARM_LEVEL the vote of a zone not in ALARM gives NORMAL (R162). -/
theorem voteOf_quiet (h : s.zoneQuiet z = true) : voteOf .normal (s.channelStates z) = .normal := by
  simp only [State.zoneQuiet, Bool.not_eq_true', Bool.or_eq_false_iff] at h
  obtain ⟨hw, ha⟩ := h
  have hn : warnCount (s.channelStates z) = 0 := List.count_eq_zero.mpr (by simpa using hw)
  have ha : .alarmLevel ∉ s.channelStates z := by simpa using ha
  simp [voteOf, alarming, hn, ha]

theorem VoteMove.zonesVoted (h : VoteMove c s t) (hs : s.ZonesVoted) : t.ZonesVoted := by
  intro z
  cases h with
  | same hz hc =>
    unfold State.Voted
    rw [(hz z).1, (hz z).2, hc z]
    exact hs z
  | settled z₁ u ht hz hc =>
    subst ht
    unfold State.Voted
    rw [State.settle_channelStates]
    by_cases e : z = z₁
    · subst e
      obtain ⟨h1, h2⟩ := u.settle_zone_same z
      rw [h1, h2, voteOf_twice]
      exact ⟨rfl, rfl⟩
    · rw [State.settle_zone_other _ _ _ e, (hz z).1, (hz z).2, hc z e]
      exact hs z
  | clear z₁ ht hq _ =>
    subst ht
    have hc : (s.setZone z₁ { s.zone z₁ with state := .normal }).channelStates z = s.channelStates z := by
      refine State.channelStates_congr z ?_ rfl rfl (fun _ => rfl)
      rw [State.zone_setZone]
      split
      · next e => subst e; rfl
      · rfl
    unfold State.Voted
    rw [hc, State.zone_setZone]
    split
    · next e =>
      subst e
      exact ⟨(voteOf_quiet hq).symm, (hs z).2⟩
    · exact hs z

/-- A zone leaves ALARM by a clearing alone (R163). -/
theorem VoteMove.alarm (h : VoteMove c s t) (z : ZoneId) (hs : (s.zone z).state = .alarm) :
    (t.zone z).state = .alarm ∨ c.front = some (.clearAlarm .plant z.1) := by
  cases h with
  | same hz _ => exact .inl ((hz z).1.trans hs)
  | settled z₁ u ht hz _ =>
    subst ht
    left
    by_cases e : z = z₁
    · subst e
      rw [(u.settle_zone_same z).1, (hz z).1, hs]
      simp [voteOf]
    · rw [State.settle_zone_other _ _ _ e, (hz z).1, hs]
  | clear z₁ ht hq hi =>
    subst ht
    by_cases e : z = z₁
    · exact .inr (e ▸ hi)
    · left
      rw [State.zone_setZone, if_neg e]
      exact hs

/-! ### The end of a step -/

theorem State.zone_stopMain (s : State) (z : ZoneId) : s.stopMain.zone z = (s.zone z).retained := Bank.get_map _ _ _

theorem State.with_phase_zone (s : State) (p : Phase) (z : ZoneId) : ({ s with phase := p } : State).zone z = s.zone z := rfl

theorem State.with_phase_detector (s : State) (p : Phase) (d : DetId) : ({ s with phase := p } : State).detector d = s.detector d := rfl

theorem State.warm_zone (s : State) (p : Phase) (z : ZoneId) :
    ({ s.stopMain.reconcile with phase := p } : State).zone z = (s.zone z).retained := by
  rw [State.with_phase_zone, ← State.zone_stopMain, State.zone, State.reconcile_zones]; rfl

theorem State.warm_detector (s : State) (p : Phase) (d : DetId) :
    ({ s.stopMain.reconcile with phase := p } : State).detector d = {} := by
  rw [State.with_phase_detector, State.detector, State.reconcile_detectors]
  exact Bank.get_fill (n := 28) d ({} : Detector)

/-- Where the main domain is gone every channel is NORMAL or none (R154, R155). -/
theorem State.ZonesVoted.retained (hz : ∀ z, ∃ x : Zone, t.zone z = x.retained) (hd : ∀ d, t.detector d = {})
    (hp : ∀ b, (t.bay b).pack = none) : t.ZonesVoted := by
  intro z
  obtain ⟨x, hx⟩ := hz z
  have hcs : t.channelStates z = .normal :: (t.mappedTo z).map (fun _ => ChanState.normal) := by
    unfold State.channelStates
    simp [hx, hd, hp, Zone.retained, Flame.state]
  have hnone : ∀ g ∈ t.channelStates z, g = .normal := by
    rw [hcs]
    intro g hg
    rcases List.mem_cons.mp hg with e | e
    · exact e
    · obtain ⟨_, _, e⟩ := List.mem_map.mp e
      exact e.symm
  have hfault : (t.channelStates z).contains .fault = false := by
    simpa using fun h => by simpa using hnone _ h
  have halarm : (t.channelStates z).contains .alarmLevel = false := by
    simpa using fun h => by simpa using hnone _ h
  have hwarn : warnCount (t.channelStates z) = 0 := List.count_eq_zero.mpr (fun h => by simpa using hnone _ h)
  unfold State.Voted voteOf alarming degradedOf
  rw [hfault, halarm, hwarn, hx]
  unfold Zone.retained
  dsimp only
  split <;> simp

theorem State.completeStart_zones (s : State) (k : StartKind) : (s.completeStart k).zones = s.stopMain.zones :=
  State.completeStart_frame State.zones (fun _ _ _ => rfl) k (fun _ _ _ _ _ => rfl) s

theorem State.completeStart_detectors (s : State) (k : StartKind) : (s.completeStart k).detectors = .fill 28 {} :=
  State.completeStart_frame State.detectors (fun _ _ _ => rfl) k (fun _ _ _ _ _ => rfl) s

theorem Last.zonesVoted (h : Last c s t) (hs : s.ZonesVoted) : t.ZonesVoted := by
  cases h with
  | wait p req =>
    exact VoteMove.zonesVoted (c := .any s) (.of_bays (by simp) (by simp) (by simp) (by simp)) hs
  | stop ph _ =>
    refine .retained (fun z => ⟨s.zone z, s.zone_stopMain z⟩) (fun d => ?_) (fun b => ?_)
    · exact Bank.get_fill (n := 28) d ({} : Detector)
    · rw [State.with_phase_bay, State.stopMain_bay]; rfl
  | offReset _ => exact hs
  | retention _ => exact hs
  | warm _ =>
    refine .retained (fun z => ⟨s.zone z, ?_⟩) (fun d => ?_) (fun b => ?_)
    · exact s.warm_zone _ z
    · exact s.warm_detector _ d
    · rw [State.reconcile_phase_bay]; rfl
  | cold _ _ =>
    refine .retained (fun z => ⟨{}, ?_⟩) (fun d => ?_) (fun b => ?_)
    · exact Bank.get_fill (n := 7) z ({} : Zone)
    · exact Bank.get_fill (n := 28) d ({} : Detector)
    · rw [State.cold_bay]
  | finish k _ =>
    refine .retained (fun z => ⟨s.zone z, ?_⟩) (fun d => ?_) (fun b => ?_)
    · rw [State.zone, State.completeStart_zones]; exact s.zone_stopMain z
    · rw [State.detector, State.completeStart_detectors]; exact Bank.get_fill (n := 28) d ({} : Detector)
    · rw [State.completeStart_bay]; rfl

/-- The ALARM latch is retained; the choice of a cold start alone clears it (R154, R171). -/
theorem Last.alarm (h : Last c s t) (z : ZoneId) (hs : (s.zone z).state = .alarm) : (t.zone z).state = .alarm
    ∨ ((c.front = some .powerUp ∨ c.front = some .resetRelease) ∧ s.retention = false) := by
  have hret : (s.zone z).retained.state = .alarm := by simp [Zone.retained, hs]
  cases h with
  | wait p req => exact .inl (by simpa using hs)
  | stop ph _ => exact .inl ((congrArg Zone.state (s.zone_stopMain z)).trans hret)
  | offReset _ => exact .inl hs
  | retention _ => exact .inl hs
  | warm _ =>
    exact .inl ((congrArg Zone.state (s.warm_zone _ z)).trans hret)
  | cold hi hr => exact .inr ⟨hi, hr⟩
  | finish k _ =>
    refine .inl ?_
    rw [State.zone, State.completeStart_zones]
    exact (congrArg Zone.state (s.zone_stopMain z)).trans hret

/-- A move leaves the retention flag. -/
theorem Move.retention (h : Move c s t) : t.retention = s.retention := by
  cases h
  case pull k r _ _ => unfold State.pullFromFeed; dsimp only; split <;> rfl
  case amend k r f v _ _ =>
    unfold State.amendField
    split
    · split <;> rfl
    all_goals rfl
  case port | attend | mask | evalAdmission | askLate | startReturn | pass | unexpected | enqueue | withdraw | enterChamber => simp
  case openGate => simp [State.popFeed]
  all_goals rfl

/-- ALARM is left by a CLEAR_ALARM of the zone from the Plant Port and by the choice of a cold start alone (R163). -/
theorem step_alarm (z : ZoneId) (hs : (s.zone z).state = .alarm) (h : step s = .next t) : (t.zone z).state = .alarm
    ∨ ∃ i rest, s.pending = i :: rest
      ∧ (i = .clearAlarm .plant z.1 ∨ ((i = .powerUp ∨ i = .resetRelease) ∧ s.retention = false)) := by
  obtain ⟨u, hu, hlast⟩ := step_steps (c := .any s) h rfl (Cause.any_fits s) (Cause.any_allows s)
  have hfront : ∀ i, (Cause.any s).front = some i → ∃ rest, s.pending = i :: rest := fun i hi => by
    have hh : s.pending.head? = some i := hi
    cases hp : s.pending with
    | nil => rw [hp] at hh; cases hh
    | cons j l => rw [hp] at hh; cases hh; exact ⟨l, rfl⟩
  have hmoves : u.retention = s.retention
      ∧ ((u.zone z).state = .alarm ∨ (Cause.any s).front = some (.clearAlarm .plant z.1)) := by
    refine hu.keeps (law := fun v => v.retention = s.retention
      ∧ ((v.zone z).state = .alarm ∨ (Cause.any s).front = some (.clearAlarm .plant z.1))) ?_ ⟨rfl, .inl hs⟩
    rintro v w hm ⟨hr, ha⟩
    refine ⟨hm.retention.trans hr, ?_⟩
    rcases ha with ha | hi
    · exact hm.voteMove.alarm z ha
    · exact .inr hi
  obtain ⟨hr, ha | hi⟩ := hmoves
  · rcases hlast with rfl | k
    · exact .inl ha
    · rcases k.alarm z ha with e | ⟨hi, hret⟩
      · exact .inl e
      · right
        rcases hi with hi | hi
        · obtain ⟨rest, hp⟩ := hfront _ hi
          exact ⟨_, rest, hp, .inr ⟨.inl rfl, hr ▸ hret⟩⟩
        · obtain ⟨rest, hp⟩ := hfront _ hi
          exact ⟨_, rest, hp, .inr ⟨.inr rfl, hr ▸ hret⟩⟩
  · obtain ⟨rest, hp⟩ := hfront _ hi
    exact .inr ⟨_, rest, hp, .inl rfl⟩

/-- Settles O13: a zone votes wherever one of its channels changes its state; ALARM is a latch. -/
theorem zonesFollowTheirVote : Obligations.ZonesFollowTheirVote :=
  ⟨kept_of_moves (fun _ _ h => h) (fun _ _ _ h => h.voteMove.zonesVoted) (fun _ _ _ h => h.zonesVoted),
    fun _ _ z hs h => step_alarm z hs h⟩

end Sys2Proof.Machine
end

section
/-!
PROOFS. The law of the bindings (R5, R64): what a move does to the bay fields of the records and to the bindings of the bays.
-/

namespace Sys2Proof.Machine

variable {c : Cause} {s t : State}

/-- An AMEND changes one record, and not its tag, its stage, its bay field and its QUARANTINE flag (R16). -/
theorem State.amendField_record (s : State) (k : Slot) (r : Rec) (f : OpField) (v : Nat) (hr : s.record k = some r) :
    ∃ q : Rec, (q.tag = r.tag ∧ q.stage = r.stage ∧ q.bay = r.bay ∧ q.flags.quarantine = r.flags.quarantine)
      ∧ ∀ i, (s.amendField k r f v).record i = if i = k then some q else s.record i := by
  have hkeep : ∀ i, s.record i = if i = k then some r else s.record i := fun i => by
    split
    · next e => rw [e, hr]
    · rfl
  unfold State.amendField
  split
  · split
    · next a _ => exact ⟨{ r with cls := a }, ⟨rfl, rfl, rfl, rfl⟩, fun i => State.record_setRecord ..⟩
    · exact ⟨r, ⟨rfl, rfl, rfl, rfl⟩, hkeep⟩
  · exact ⟨{ r with cells := v }, ⟨rfl, rfl, rfl, rfl⟩, fun i => State.record_setRecord ..⟩
  · exact ⟨{ r with capacity := v }, ⟨rfl, rfl, rfl, rfl⟩, fun i => State.record_setRecord ..⟩
  · exact ⟨{ r with declared := v }, ⟨rfl, rfl, rfl, rfl⟩, fun i => State.record_setRecord ..⟩
  · exact ⟨{ r with mass := v }, ⟨rfl, rfl, rfl, rfl⟩, fun i => State.record_setRecord ..⟩
  · exact ⟨{ r with flags := { r.flags with damaged := decide (v = 1) } }, ⟨rfl, rfl, rfl, rfl⟩, fun i => State.record_setRecord ..⟩

/-! ### What a move does to the ties between records and bays -/

/-- What ties a record to a bay. -/
def Rec.tie (r : Rec) : Nat × Bool × Option BayId := (r.tag, r.stage.bound, r.bay)

/-- The bindings stand still. -/
def State.SameBindings (s t : State) : Prop := ∀ b, (t.bay b).binding = (s.bay b).binding

/-- What a move does to the ties between records and bays. -/
inductive TieMove (s t : State) : Prop
  /-- Nothing. -/
  | same (hr : ∀ i, (t.record i).map Rec.tie = (s.record i).map Rec.tie) (hb : s.SameBindings t)
  /-- A record enters a FREE slot. -/
  | new (k : Slot) (q : Rec) (hf : s.record k = none) (hs : ∀ i, t.record i = if i = k then some q else s.record i)
      (hq : q.stage.bound = false ∧ q.bay = none) (hb : s.SameBindings t)
  /-- A record that is not bound leaves its slot. -/
  | free (k : Slot) (r : Rec) (hr : s.record k = some r) (hn : r.stage.bound = false)
      (hs : ∀ i, t.record i = if i = k then none else s.record i) (hb : s.SameBindings t)
  /-- A record and an unbound bay are bound. -/
  | bind (k : Slot) (r q : Rec) (b : BayId) (hr : s.record k = some r) (hn : r.stage.bound = false)
      (hu : (s.bay b).binding = none) (hs : ∀ i, t.record i = if i = k then some q else s.record i)
      (hq : q.stage.bound = true ∧ q.bay = some b)
      (hb : ∀ b', (t.bay b').binding = if b' = b then some { slot := k, tag := q.tag } else (s.bay b').binding)
      (hrun : s.running = true)
  /-- A binding ends. -/
  | release (b : BayId) (e : Entry) (r q : Rec) (he : (s.bay b).binding = some e) (hr : s.record e.slot = some r)
      (hs : ∀ i, t.record i = if i = e.slot then some q else s.record i) (hq : q.stage.bound = false ∧ q.bay = none)
      (hb : ∀ b', (t.bay b').binding = if b' = b then none else (s.bay b').binding)

/-- A record changed without its tag, its bay field and whether it is bound. -/
theorem TieMove.of_set {k : Slot} {r q : Rec} (hr : s.record k = some r) (hq : q.tie = r.tie)
    (hs : ∀ i, t.record i = if i = k then some q else s.record i) (hb : s.SameBindings t) : TieMove s t := by
  refine .same (fun i => ?_) hb
  rw [hs i]
  split
  · next e => subst e; simp [hr, hq]
  · rfl

theorem TieMove.of_eq (hr : t.slots = s.slots := by rfl) (hb : s.SameBindings t := by exact fun _ => rfl) : TieMove s t :=
  .same (fun i => by rw [State.record, State.record, hr]) hb

theorem State.SameBindings.of_setBay (b : BayId) (y : Bay) (h : y.binding = (s.bay b).binding) : s.SameBindings (s.setBay b y) := by
  intro b'
  rw [State.bay_setBay]
  split
  · next e => subst e; exact h
  · rfl

/-- What every move does to the ties, where the waiting stage changes keep a binding. -/
theorem Move.tieMove (h : Move c s t) (hs : s.BindingLaw) : TieMove s t := by
  cases h
  case port | attend | mask | evalAdmission | askLate | startReturn | pass | unexpected | enterChamber =>
    exact .of_eq (by simp) (fun b => by simp)
  case bay b y h => exact .of_eq rfl (.of_setBay b y h.binding)
  case bays l h => exact .of_eq rfl (fun b => (h b).binding)
  case bayCfg b k y _ _ h _ _ => exact .of_eq rfl (State.SameBindings.of_setBay (s := s.setBayCfg b k) b y h.1)
  case pack b d => exact .of_eq rfl (.of_setBay b _ rfl)
  case packQuiet b a d _ _ => exact .of_eq rfl (.of_setBay b _ rfl)
  case bind k r b y hr hw _ hm hrun hy =>
    refine .bind k r { r with stage := .probing, bay := some b, rebounds := 0 } b hr (by rw [hw]; rfl)
      (hs.unbound hrun b (.inr (.inr hm))) (fun i => State.record_setRecord ..) ⟨rfl, rfl⟩ (fun b' => ?_) hrun
    show ((State.setBay _ b y).bay b').binding = _
    rw [State.bay_setBay]
    split
    · exact hy.2.1
    · rfl
  case release b e r q n y hb hr _ hq hst hy _ _ =>
    refine .release b e r q hb (State.named_record hr).1 (fun i => ?_) ⟨?_, hq.2.2.2.1⟩ (fun b' => ?_)
    · show (State.setRecord _ e.slot (some q)).record i = _
      rw [State.record_setRecord]
      split
      · rfl
      · next h => exact (State.record_setRecord ..).trans (if_neg h)
    · rcases hst hs with k | k <;> rw [k] <;> rfl
    · show ((State.setBay _ b y).bay b').binding = _
      rw [State.bay_setBay]
      split
      · exact hy.1
      · rfl
  case register k p a tag cells capacity declared mass damaged hf _ =>
    exact .new k (newRecord p tag a cells capacity declared mass damaged) hf (fun i => State.record_setRecord ..) ⟨rfl, rfl⟩ (fun _ => rfl)
  case amend k r f v hr hw =>
    obtain ⟨q, hq, hset⟩ := s.amendField_record k r f v hr
    exact .of_set hr (by rw [Rec.tie, hq.1, hq.2.1, hq.2.2.1]; rfl) hset (fun b => by rw [State.amendField_bay])
  case retire k r hr hw _ =>
    exact .free k r hr (by rcases hw with e | e <;> rw [e] <;> rfl) (fun i => State.record_setRecord ..) (fun _ => rfl)
  case flags k r f hr _ => exact .of_set (q := { r with flags := f }) hr rfl (fun i => State.record_setRecord ..) (fun _ => rfl)
  case credit k r n hr =>
    exact .of_set (q := { r with energy := satAdd 999999 r.energy n }) hr rfl (fun i => State.record_setRecord ..) (fun _ => rfl)
  case stage b w r hw hr =>
    obtain ⟨hrec, -, hg⟩ := State.expect_record hr
    obtain ⟨h1, -, -, h4, -, h6⟩ := w.apply_frame r
    obtain ⟨he, hn⟩ : w.expected.bound = true ∧ w.new.bound = true := hs.writes b _ hw
    refine .of_set hrec ?_ (fun i => State.record_setRecord ..) (fun _ => rfl)
    rw [Rec.tie, h1, h4, h6, Rec.tie, hg, he, hn]
  case pull k r hr hw =>
    have hn : r.stage.bound = false := by rcases hw with e | e <;> rw [e] <;> rfl
    unfold State.pullFromFeed
    dsimp only
    split
    · exact .of_set (q := { r.quarantined.returned with stage := .discharged }) hr (by rw [Rec.tie, Rec.tie, hn]; rfl)
        (fun i => State.record_setRecord ..) (fun _ => rfl)
    · exact .of_set (q := { r.quarantined with stage := .discharged }) hr (by rw [Rec.tie, Rec.tie, hn]; rfl)
        (fun i => State.record_setRecord ..) (fun _ => rfl)
  case enqueue k r hr hw _ _ _ =>
    exact .of_set (q := { r with stage := .queued }) hr (by rw [Rec.tie, Rec.tie, hw]; rfl)
      (fun i => by rw [State.forget_record]; exact State.record_setRecord ..) (fun b => by simp)
  case withdraw k r hr hw =>
    exact .of_set (q := { r with stage := .discharged }) hr (by rw [Rec.tie, Rec.tie, hw]; rfl)
      (fun i => by rw [State.forget_record]; exact State.record_setRecord ..) (fun b => by simp)
  case openGate e l r f _ _ hr _ _ _ =>
    obtain ⟨hrec, -, hg⟩ := State.expect_record hr
    exact .of_set (q := { r.admitted with stage := .atGate }) hrec (by rw [Rec.tie, Rec.tie, hg]; rfl)
      (fun i => by rw [State.forget_record]; exact State.record_setRecord ..) (fun b => by simp [State.popFeed])
  case enterPath e r _ hr _ =>
    obtain ⟨hrec, -, hg⟩ := State.expect_record hr
    exact .of_set (q := { r with stage := .inShredder }) hrec (by rw [Rec.tie, Rec.tie, hg]; rfl)
      (fun i => State.record_setRecord ..) (fun _ => rfl)
  case takenPath e r _ hr _ =>
    obtain ⟨hrec, -, hg⟩ := State.expect_record hr
    exact .of_set (q := { r with stage := .shredUnconfirmed }) hrec (by rw [Rec.tie, Rec.tie, hg]; rfl)
      (fun i => State.record_setRecord ..) (fun _ => rfl)
  case giveBack e r _ hr =>
    obtain ⟨hrec, -, hg⟩ := State.expect_record hr
    exact .of_set (q := { r.returned with stage := .queued }) hrec (by rw [Rec.tie, Rec.tie, hg]; rfl)
      (fun i => State.record_setRecord ..) (fun _ => rfl)
  case shredded k r hr hw _ =>
    exact .free k r hr (by rcases hw with e | e <;> rw [e] <;> rfl) (fun i => State.record_setRecord ..) (fun _ => rfl)
  case recover k r hr hw n =>
    exact .of_set (q := { r.recoveredBack with stage := .discharged }) hr (by rw [Rec.tie, Rec.tie, hw]; rfl)
      (fun i => State.record_setRecord ..) (fun _ => rfl)
  case unconfirm k r f hr hw =>
    exact .of_set (q := { r with stage := .shredUnconfirmed, flags := f }) hr (by rw [Rec.tie, Rec.tie, hw]; rfl)
      (fun i => State.record_setRecord ..) (fun _ => rfl)
  all_goals exact .of_eq

/-! ### The law -/

/-- The first three clauses of the law: records and bays name each other. -/
structure State.Tied (s : State) : Prop where
  bound : ∀ b e, (s.bay b).binding = some e →
    ∃ r, s.record e.slot = some r ∧ r.tag = e.tag ∧ r.stage.bound = true ∧ r.bay = some b
  named : ∀ i r b, s.record i = some r → r.bay = some b → (s.bay b).binding = some { slot := i, tag := r.tag }
  stages : ∀ i r, s.record i = some r → r.bay.isSome = r.stage.bound

/-- A record that is not bound names no bay. -/
theorem State.Tied.unbound_bay (h : s.Tied) {i : Slot} {r : Rec} (hr : s.record i = some r) (hn : r.stage.bound = false) :
    r.bay = none := by
  have := h.stages i r hr
  rw [hn] at this
  exact Option.isSome_eq_false_iff.mp this |> Option.isNone_iff_eq_none.mp

theorem TieMove.tied (h : TieMove s t) (hs : s.Tied) : t.Tied := by
  cases h with
  | same hr hb =>
    have hfrom : ∀ i q, t.record i = some q → ∃ r, s.record i = some r ∧ q.tie = r.tie := fun i q hq => by
      have := hr i
      rw [hq] at this
      cases h : s.record i with
      | none => simp [h] at this
      | some r => exact ⟨r, rfl, by simpa [h] using this⟩
    refine ⟨fun b e he => ?_, fun i q b hq hqb => ?_, fun i q hq => ?_⟩
    · obtain ⟨r, h1, h2, h3, h4⟩ := hs.bound b e (hb b ▸ he)
      have := hr e.slot
      rw [h1] at this
      cases hq : t.record e.slot with
      | none => simp [hq] at this
      | some q =>
        simp only [hq, Option.map_some, Option.some.injEq, Rec.tie, Prod.mk.injEq] at this
        exact ⟨q, rfl, this.1.trans h2, this.2.1.trans h3, this.2.2.trans h4⟩
    · obtain ⟨r, h1, h2⟩ := hfrom i q hq
      simp only [Rec.tie, Prod.mk.injEq] at h2
      rw [hb b, h2.1]
      exact hs.named i r b h1 (h2.2.2 ▸ hqb)
    · obtain ⟨r, h1, h2⟩ := hfrom i q hq
      simp only [Rec.tie, Prod.mk.injEq] at h2
      rw [h2.2.1, h2.2.2]
      exact hs.stages i r h1
  | new k q hf hset hq hb =>
    refine ⟨fun b e he => ?_, fun i x b hx hxb => ?_, fun i x hx => ?_⟩
    · obtain ⟨r, h1, h2⟩ := hs.bound b e (hb b ▸ he)
      have hne : e.slot ≠ k := fun h => by rw [h, hf] at h1; cases h1
      exact ⟨r, by rw [hset, if_neg hne]; exact h1, h2⟩
    · rw [hset] at hx
      split at hx
      · cases hx; rw [hq.2] at hxb; cases hxb
      · rw [hb b]; exact hs.named i x b hx hxb
    · rw [hset] at hx
      split at hx
      · cases hx; rw [hq.1, hq.2]; rfl
      · exact hs.stages i x hx
  | free k r hr hn hset hb =>
    refine ⟨fun b e he => ?_, fun i x b hx hxb => ?_, fun i x hx => ?_⟩
    · obtain ⟨q, h1, h2, h3, h4⟩ := hs.bound b e (hb b ▸ he)
      have hne : e.slot ≠ k := fun h => by rw [h, hr] at h1; cases h1; rw [hn] at h3; cases h3
      exact ⟨q, by rw [hset, if_neg hne]; exact h1, h2, h3, h4⟩
    · rw [hset] at hx
      split at hx
      · cases hx
      · rw [hb b]; exact hs.named i x b hx hxb
    · rw [hset] at hx
      split at hx
      · cases hx
      · exact hs.stages i x hx
  | bind k r q b hr hn hu hset hq hb =>
    refine ⟨fun b' e he => ?_, fun i x b' hx hxb => ?_, fun i x hx => ?_⟩
    · rw [hb b'] at he
      split at he
      · next e' =>
        cases he
        exact ⟨q, by rw [hset, if_pos rfl], rfl, hq.1, by rw [e', hq.2]⟩
      · obtain ⟨x, h1, h2, h3, h4⟩ := hs.bound b' e he
        have hne : e.slot ≠ k := fun h => by rw [h, hr] at h1; cases h1; rw [hn] at h3; cases h3
        exact ⟨x, by rw [hset, if_neg hne]; exact h1, h2, h3, h4⟩
    · rw [hset] at hx
      rw [hb b']
      split at hx
      · next e =>
        cases hx
        rw [hq.2] at hxb
        cases hxb
        rw [if_pos rfl, e]
      · have hold := hs.named i x b' hx hxb
        have hne : b' ≠ b := fun h => by rw [h, hu] at hold; cases hold
        rw [if_neg hne]
        exact hold
    · rw [hset] at hx
      split at hx
      · cases hx; rw [hq.1, hq.2]; rfl
      · exact hs.stages i x hx
  | release b e r q he hr hset hq hb =>
    obtain ⟨r', h1, -, -, hrb⟩ := hs.bound b e he
    rw [hr] at h1
    cases h1
    refine ⟨fun b' e' he' => ?_, fun i x b' hx hxb => ?_, fun i x hx => ?_⟩
    · rw [hb b'] at he'
      split at he'
      · cases he'
      · next hne =>
        obtain ⟨x, h1, h2, h3, h4⟩ := hs.bound b' e' he'
        have hslot : e'.slot ≠ e.slot := fun h => by
          rw [h, hr] at h1
          cases h1
          rw [hrb] at h4
          cases h4
          exact hne rfl
        exact ⟨x, by rw [hset, if_neg hslot]; exact h1, h2, h3, h4⟩
    · rw [hset] at hx
      split at hx
      · cases hx; rw [hq.2] at hxb; cases hxb
      · next hne =>
        have hold := hs.named i x b' hx hxb
        have hbne : b' ≠ b := fun h => by
          rw [h, he] at hold
          cases hold
          exact hne rfl
        rw [hb b', if_neg hbne]
        exact hold
    · rw [hset] at hx
      split at hx
      · cases hx; rw [hq.1, hq.2]; rfl
      · exact hs.stages i x hx

/-- What a move does to a bay keeps what the law asks of its channel. -/
theorem BayMove.bindOk {b : BayId} (h : BayMove s t b) (hs : (s.bay b).BindOk) : (t.bay b).BindOk := by
  cases h with
  | same hx _ => rw [hx]; exact hs
  | keeps h _ => exact h.ok hs
  | packed d hx _ => rw [hx]; exact hs
  | config _ _ _ _ hk => exact hk hs
  | bound hm _ _ _ _ _ => exact .of_mode (by rw [hm]; simp)
  | unbound _ _ _ hb hm _ _ =>
    refine ⟨fun _ => hb, fun hf => ?_⟩
    rcases hm with ⟨-, h | ⟨h1, h2⟩⟩ | h | h
    · exact h
    · rw [h2]; exact hs.2 h1
    · rw [h] at hf; cases hf
    · rw [h] at hf; cases hf

theorem BayMove.writes {b : BayId} (h : BayMove s t b) (hs : ∀ w ∈ (s.bay b).writes, w.Shaped) :
    ∀ w ∈ (t.bay b).writes, w.Shaped := by
  cases h with
  | same hx _ => rw [hx]; exact hs
  | keeps h _ => exact fun w hw => (h.writes w hw).elim (hs w) id
  | packed d hx _ => rw [hx]; exact hs
  | config _ _ h _ _ => rw [h.2.2.2]; exact hs
  | bound _ _ _ _ hw _ => rw [hw]; exact hs
  | unbound _ _ _ _ _ hw _ => exact fun w h => hs w (hw w h)

/-- No bay is bound while the part does not run. -/
theorem TieMove.unbound (h : TieMove s t) (hr : s.running = false) (hn : ∀ b, (s.bay b).binding = none) (b : BayId) :
    (t.bay b).binding = none := by
  cases h with
  | same _ hb => rw [hb b]; exact hn b
  | new _ _ _ _ _ hb => rw [hb b]; exact hn b
  | free _ _ _ _ _ hb => rw [hb b]; exact hn b
  | bind _ _ _ _ _ _ _ _ _ _ hrun => rw [hrun] at hr; cases hr
  | release b₁ e _ _ he => rw [hn b₁] at he; cases he

theorem State.BindingLaw.tied (h : s.BindingLaw) : s.Tied := ⟨h.bound, h.named, h.stages⟩

/-- Every move keeps the law of the bindings (R5, R64). -/
theorem Move.bindingLaw (h : Move c s t) (hs : s.BindingLaw) : t.BindingLaw := by
  have htie := h.tieMove hs
  have hrun : t.running = s.running := by simp [State.running, h.phase]
  have hok : s.running = true → ∀ b, (t.bay b).BindOk := fun k b => (h.bayMove b).bindOk ⟨hs.unbound k b, hs.faulted k b⟩
  obtain ⟨h1, h2, h3⟩ := htie.tied hs.tied
  exact
    { bound := h1, named := h2, stages := h3
      unbound := fun k b => (hok (hrun ▸ k) b).1
      faulted := fun k b => (hok (hrun ▸ k) b).2
      starting := fun k hk b =>
        have hp : s.phase = .starting k := h.phase ▸ hk
        htie.unbound (s.running_of_phase (by rw [hp]; simp)) (hs.starting k hp) b
      writes := fun b => (h.bayMove b).writes (hs.writes b) }

/-- A state without bindings, bay fields and waiting writes. -/
theorem State.BindingLaw.of_none (hb : ∀ b, (t.bay b).binding = none) (hr : ∀ i r, t.record i = some r → r.bay = none ∧ r.stage.bound = false)
    (hw : ∀ b, ∀ w ∈ (t.bay b).writes, w.Shaped) (hf : t.running = true → ∀ b, (t.bay b).mode ≠ .faulted) : t.BindingLaw where
  bound b e he := by rw [hb b] at he; cases he
  named i r b hi hrb := by rw [(hr i r hi).1] at hrb; cases hrb
  stages i r hi := by rw [(hr i r hi).1, (hr i r hi).2]; rfl
  unbound _ b _ := hb b
  faulted h b hm := absurd hm (hf h b)
  starting _ _ b := hb b
  writes := hw

theorem Rec.reconciled_bound (r : Rec) : r.reconciled.stage.bound = false := by
  unfold Rec.reconciled
  cases h : r.stage <;> simp [h, Stage.bound]

theorem Rec.reconciled_bay (r : Rec) (h : r.bay.isSome = r.stage.bound) : r.reconciled.bay = none := by
  unfold Rec.reconciled
  cases hg : r.stage <;> simp_all [Stage.bound, Rec.returned]

theorem State.cold_record (s : State) (p : Phase) (i : Slot) : ({ s.coldValues with phase := p } : State).record i = none :=
  Bank.get_fill i none

theorem State.with_phase_record (s : State) (p : Phase) (i : Slot) : ({ s with phase := p } : State).record i = s.record i := rfl

/-- The end of a step keeps the law: bindings are retained (Table 11-1) and end with a start's reconciliation (R29, R76). -/
theorem Last.bindingLaw (h : Last c s t) (hs : s.BindingLaw) : t.BindingLaw := by
  cases h with
  | wait p req =>
    cases p <;> exact ⟨hs.bound, hs.named, hs.stages, hs.unbound, hs.faulted, hs.starting, hs.writes⟩
  | stop ph hph =>
    have hb : ∀ b, (State.bay { s.stopMain with phase := ph } b) = (s.bay b).retained := s.stopMain_bay
    have hrun : State.running { s.stopMain with phase := ph } = false := by
      refine State.running_of_phase _ ?_
      rcases hph with e | e <;> rw [e] <;> simp
    exact
      { bound := fun b e he => hs.bound b e ((congrArg Bay.binding (hb b)).symm.trans he)
        named := fun i r b hr hrb => (congrArg Bay.binding (hb b)).trans (hs.named i r b hr hrb)
        stages := hs.stages
        unbound := fun k => by rw [hrun] at k; cases k
        faulted := fun k => by rw [hrun] at k; cases k
        starting := fun k hk => by rcases hph with e | e <;> rw [e] at hk <;> cases hk
        writes := fun b w hw => hs.writes b w (List.mem_filter.mp ((hb b) ▸ hw)).1 }
  | offReset hp =>
    exact
      { bound := hs.bound, named := hs.named, stages := hs.stages, writes := hs.writes
        unbound := fun k => by cases k
        faulted := fun k => by cases k
        starting := fun k hk => by cases hk }
  | retention _ => exact ⟨hs.bound, hs.named, hs.stages, hs.unbound, hs.faulted, hs.starting, hs.writes⟩
  | warm _ =>
    refine .of_none (fun b => ?_) (fun i q hq => ?_) (fun b w hw => ?_) (fun k => by cases k)
    · rw [State.reconcile_phase_bay]; rfl
    · rw [State.with_phase_record] at hq
      obtain ⟨r, hr, he⟩ := State.reconcile_record_some hq
      have hr : s.record i = some r := hr
      simp only [Rec.core, Prod.mk.injEq] at he
      rw [he.2.2.2.1, he.2.2.2.2.1]
      exact ⟨r.reconciled_bay (hs.stages i r hr), r.reconciled_bound⟩
    · rw [State.reconcile_phase_bay] at hw
      cases hw
  | cold _ _ =>
    refine .of_none (fun b => ?_) (fun i q hq => ?_) (fun b w hw => ?_) (fun k => by cases k)
    · rw [State.cold_bay]
    · exact absurd hq (by rw [s.stopMain.cold_record]; simp)
    · rw [State.cold_bay] at hw; cases hw
  | finish k hk =>
    have hrec : ∀ i, (s.completeStart k).record i = s.record i := fun i => by
      rw [State.record, State.completeStart_frame State.slots (fun _ _ _ => rfl) k (fun _ _ _ _ _ => rfl) s]; rfl
    have hnone := hs.starting k hk
    refine .of_none (fun b => ?_) (fun i r hr => ?_) (fun b w hw => ?_) (fun _ b hm => ?_)
    · rw [State.completeStart_bay]; exact hnone b
    · rw [hrec i] at hr
      have hbay : r.bay = none := by
        cases hb : r.bay with
        | none => rfl
        | some b => have := hs.named i r b hr hb; rw [hnone b] at this; cases this
      exact ⟨hbay, by rw [← hs.stages i r hr, hbay]; rfl⟩
    · rw [State.completeStart_bay] at hw
      exact hs.writes b w (List.mem_filter.mp hw).1
    · rcases s.completeStart_mode k b with e | e | e <;> rw [e] at hm <;> cases hm

/-- Settles O14: bindings begin and end with the stage and the bay field of their record in one grant (R64, R66, R67). -/
theorem bindingsFollowTheRecords : Obligations.BindingsFollowTheRecords :=
  kept_of_moves (fun _ _ h => ⟨h.bound, h.named, h.stages, h.unbound, h.faulted, h.starting, h.writes⟩)
    (fun _ _ _ h => h.bindingLaw) (fun _ _ _ h => h.bindingLaw)

end Sys2Proof.Machine
end

section
/-!
PROOFS. QUARANTINE keeps a record out of the feed (R7).
-/

namespace Sys2Proof.Machine

variable {c : Cause} {s t : State}

/-- What R7 asks of one record. -/
def Rec.Clear (r : Rec) : Prop := r.flags.quarantine = true → r.stage ≠ .queued ∧ r.stage ≠ .atGate ∧ r.stage ≠ .inShredder

theorem Rec.Clear.of_stage {r : Rec} (h : r.stage ≠ .queued ∧ r.stage ≠ .atGate ∧ r.stage ≠ .inShredder) : r.Clear := fun _ => h

/-- A record in the feed that R7 allows carries no QUARANTINE. -/
theorem Rec.Clear.free {r : Rec} (h : r.Clear) (hg : r.stage = .queued ∨ r.stage = .atGate) : r.flags.quarantine = false := by
  cases hq : r.flags.quarantine with
  | false => rfl
  | true =>
    obtain ⟨h1, h2, -⟩ := h hq
    rcases hg with e | e
    · exact absurd e h1
    · exact absurd e h2

theorem Rec.Clear.of_free {r : Rec} (h : r.flags.quarantine = false) : r.Clear := fun k => by rw [h] at k; cases k

/-- One slot changed to a record that R7 allows, or to none. -/
theorem State.QuarantineLaw.of_set (hs : s.QuarantineLaw) {k : Slot} {o : Option Rec} (hq : ∀ q, o = some q → q.Clear)
    (ht : ∀ i, t.record i = if i = k then o else s.record i) : t.QuarantineLaw := by
  intro i r hr
  rw [ht i] at hr
  split at hr
  · exact hq r hr
  · exact hs i r hr

theorem State.QuarantineLaw.of_some (hs : s.QuarantineLaw) {k : Slot} {q : Rec} (hq : q.Clear)
    (ht : ∀ i, t.record i = if i = k then some q else s.record i) : t.QuarantineLaw :=
  hs.of_set (fun _ e => by cases e; exact hq) ht

theorem State.QuarantineLaw.of_same (hs : s.QuarantineLaw) (ht : ∀ i, t.record i = s.record i := by exact fun _ => rfl) :
    t.QuarantineLaw := fun i r hr => hs i r (ht i ▸ hr)

theorem Stage.bound_clear {g : Stage} (h : g.bound = true) : g ≠ .queued ∧ g ≠ .atGate ∧ g ≠ .inShredder := by
  cases g <;> simp_all [Stage.bound]

/-- Every move from a state that keeps the bindings keeps QUARANTINE out of the feed. -/
theorem Move.quarantineLaw (h : Move c s t) (hb : s.BindingLaw) (hs : s.QuarantineLaw) : t.QuarantineLaw := by
  cases h
  case port | attend | mask | evalAdmission | askLate | startReturn | pass | unexpected | enterChamber => exact hs.of_same (by simp)
  case bind k r b y _ _ _ _ _ _ =>
    exact hs.of_some (q := { r with stage := .probing, bay := some b, rebounds := 0 }) (.of_stage (by simp)) (fun i => State.record_setRecord ..)
  case release b e r q n y _ _ _ _ hst _ _ _ =>
    refine hs.of_some (k := e.slot) (q := q) (.of_stage ?_) (fun i => ?_)
    · rcases hst hb with k | k <;> rw [k] <;> simp
    · show (State.setRecord _ e.slot (some q)).record i = _
      rw [State.record_setRecord]
      split
      · rfl
      · next h => exact (State.record_setRecord ..).trans (if_neg h)
  case register k p a tag cells capacity declared mass damaged _ _ =>
    exact hs.of_some (q := newRecord p tag a cells capacity declared mass damaged) (.of_stage (by simp [newRecord]))
      (fun i => State.record_setRecord ..)
  case amend k r f v hr hw =>
    obtain ⟨q, hq, hset⟩ := s.amendField_record k r f v hr
    exact hs.of_some (.of_stage (by rw [hq.2.1, hw]; simp)) hset
  case retire k r _ _ _ => exact hs.of_set (o := none) (fun _ e => by cases e) (fun i => State.record_setRecord ..)
  case flags k r f hr hq =>
    refine hs.of_some (q := { r with flags := f }) (fun hf => ?_) (fun i => State.record_setRecord ..)
    rcases hq hf with e | e
    · exact hs k r hr e
    · exact e
  case credit k r n hr =>
    exact hs.of_some (q := { r with energy := satAdd 999999 r.energy n }) (hs k r hr) (fun i => State.record_setRecord ..)
  case stage b w r hw hr =>
    obtain ⟨-, hn⟩ : w.expected.bound = true ∧ w.new.bound = true := hb.writes b _ hw
    refine hs.of_some (q := w.apply r) (.of_stage ?_) (fun i => State.record_setRecord ..)
    rw [(w.apply_frame r).2.2.2.2.2]
    exact Stage.bound_clear hn
  case pull k r hr hw =>
    unfold State.pullFromFeed
    dsimp only
    split
    · exact hs.of_some (q := { r.quarantined.returned with stage := .discharged }) (.of_stage (by simp)) (fun i => State.record_setRecord ..)
    · exact hs.of_some (q := { r.quarantined with stage := .discharged }) (.of_stage (by simp)) (fun i => State.record_setRecord ..)
  case enqueue k r _ _ hq _ _ =>
    exact hs.of_some (q := { r with stage := .queued }) (.of_free hq) (fun i => by rw [State.forget_record]; exact State.record_setRecord ..)
  case withdraw k r _ _ =>
    exact hs.of_some (q := { r with stage := .discharged }) (.of_stage (by simp))
      (fun i => by rw [State.forget_record]; exact State.record_setRecord ..)
  case openGate e l r f _ _ hr _ _ _ =>
    obtain ⟨hrec, -, hg⟩ := State.expect_record hr
    have hfree : r.flags.quarantine = false := Rec.Clear.free (hs _ r hrec) (.inl hg)
    exact hs.of_some (q := { r.admitted with stage := .atGate }) (.of_free hfree) (fun i => by rw [State.forget_record]; exact State.record_setRecord ..)
  case enterPath e r _ hr _ =>
    obtain ⟨hrec, -, hg⟩ := State.expect_record hr
    have hfree : r.flags.quarantine = false := Rec.Clear.free (hs _ r hrec) (.inr hg)
    exact hs.of_some (q := { r with stage := .inShredder }) (.of_free hfree)
      (fun i => State.record_setRecord ..)
  case takenPath e r _ hr _ =>
    exact hs.of_some (q := { r with stage := .shredUnconfirmed }) (.of_stage (by simp)) (fun i => State.record_setRecord ..)
  case giveBack e r _ hr =>
    obtain ⟨hrec, -, hg⟩ := State.expect_record hr
    have hfree : r.flags.quarantine = false := Rec.Clear.free (hs _ r hrec) (.inr hg)
    exact hs.of_some (q := { r.returned with stage := .queued }) (.of_free hfree)
      (fun i => State.record_setRecord ..)
  case shredded k r _ _ _ => exact hs.of_set (o := none) (fun _ e => by cases e) (fun i => State.record_setRecord ..)
  case recover k r _ _ n =>
    exact hs.of_some (q := { r.recoveredBack with stage := .discharged }) (.of_stage (by simp)) (fun i => State.record_setRecord ..)
  case unconfirm k r f _ _ =>
    exact hs.of_some (q := { r with stage := .shredUnconfirmed, flags := f }) (.of_stage (by simp)) (fun i => State.record_setRecord ..)
  all_goals exact hs.of_same

theorem Rec.reconciled_quarantine (r : Rec) : r.reconciled.flags.quarantine = r.flags.quarantine := by
  unfold Rec.reconciled; split <;> rfl

theorem Rec.Clear.reconciled {r q : Rec} (h : r.Clear) (he : q.core = r.reconciled.core) : q.Clear := by
  simp only [Rec.core, Prod.mk.injEq] at he
  obtain ⟨-, -, -, hst, -, hq⟩ := he
  intro hflag
  obtain ⟨h1, h2, h3⟩ := h (by rw [← r.reconciled_quarantine, ← hq, hflag])
  rw [hst]
  unfold Rec.reconciled
  split
  iterate 3 exact ⟨by simp, by simp, by simp⟩
  · next hg => exact absurd hg h2
  · next hg => exact absurd hg h3
  all_goals exact ⟨h1, h2, h3⟩

theorem State.completeStart_record (s : State) (k : StartKind) (i : Slot) : (s.completeStart k).record i = s.record i := by
  rw [State.record, State.completeStart_frame State.slots (fun _ _ _ => rfl) k (fun _ _ _ _ _ => rfl) s]; rfl

/-- The end of a step keeps QUARANTINE out of the feed (R29). -/
theorem Last.quarantineLaw (h : Last c s t) (hs : s.QuarantineLaw) : t.QuarantineLaw := by
  cases h with
  | wait p req => exact hs.of_same (by simp)
  | stop ph _ => exact hs.of_same
  | offReset _ => exact hs.of_same
  | retention _ => exact hs.of_same
  | warm _ =>
    intro i q hq
    rw [State.with_phase_record] at hq
    obtain ⟨r, hr, he⟩ := State.reconcile_record_some hq
    exact Rec.Clear.reconciled (hs i r hr) he
  | cold _ _ =>
    intro i q hq
    rw [s.stopMain.cold_record] at hq
    cases hq
  | finish k _ => exact hs.of_same (s.completeStart_record k)

/-- A law that every move keeps from a state with another law that every step keeps. -/
theorem kept_under_of_moves {premise law : State → Prop} (hp : ∀ (s : State) l, premise s → premise { s with pending := l })
    (hq : ∀ (s : State) l, law s → law { s with pending := l })
    (hm1 : ∀ c s t, Move c s t → premise s → premise t) (hm : ∀ c s t, Move c s t → premise s → law s → law t)
    (hl : ∀ c s t, Last c s t → premise s → law s → law t) : KeptUnder premise law := by
  intro s t hs1 hs h
  obtain ⟨u, hu, hlast⟩ := step_steps (c := .any s) h rfl (Cause.any_fits s) (Cause.any_allows s)
  have h1 : premise u ∧ law u := hu.keeps (law := fun v => premise v ∧ law v)
    (fun v w k hv => ⟨hm1 _ _ _ k hv.1, hm _ _ _ k hv.1 hv.2⟩) ⟨hp s _ hs1, hq s _ hs⟩
  rcases hlast with rfl | k
  · exact h1.2
  · exact hl _ _ _ k h1.1 h1.2

theorem State.BindingLaw.with_pending (h : s.BindingLaw) (l : List Instr) : ({ s with pending := l } : State).BindingLaw :=
  ⟨h.bound, h.named, h.stages, h.unbound, h.faulted, h.starting, h.writes⟩

/-- Settles O15: QUARANTINE takes a record out of the queue and the gate, and no record that carries it joins the feed. -/
theorem quarantinedRecordsStayOutOfTheFeed : Obligations.QuarantinedRecordsStayOutOfTheFeed :=
  kept_under_of_moves (fun _ l h => h.with_pending l) (fun _ _ h => h) (fun _ _ _ h => h.bindingLaw)
    (fun _ _ _ h => h.quarantineLaw) (fun _ _ _ h _ => h.quarantineLaw)

end Sys2Proof.Machine
end

section
/-!
PROOFS. The feed follows the records (R136, R139, R140, R144, R149): the part of the state that the feed law reads, and what each
kind of move does to it.
-/

namespace Sys2Proof.Machine

variable {c : Cause} {s t : State}

/-! ### What the feed law reads -/

/-- A stage in which a record stands in the feed. -/
def Stage.fed : Stage → Bool
  | .queued | .atGate | .inShredder | .shredUnconfirmed => true
  | .waiting | .probing | .discharging | .resting | .discharged => false

/-- What a slot's record is to the feed: its tag and its stage, when it stands in the feed. -/
def feedMark (o : Option Rec) : Option (Nat × Stage) :=
  match o with
  | some r => if r.stage.fed then some (r.tag, r.stage) else none
  | none => none

/-- What the feed law reads. -/
@[ext] structure Yard where
  marks : Slot → Option (Nat × Stage)
  queue : List Entry
  path : List PathEntry
  gate : Option Entry
  waiting : Bool
  memory : Option (Slot × Nat)
  writes : List FeedWrite

/-- What the feed law reads of a state. -/
def State.yard (s : State) : Yard where
  marks i := feedMark (s.record i)
  queue := s.feed.queue
  path := s.feed.path
  gate := s.feed.gate
  waiting := s.feed.admissionWaiting
  memory := s.feed.memory.map (fun m => (m.slot, m.tag))
  writes := s.arb.feedWrites

/-- The memory or a waiting unexpected-pass write names an entry (R144, R145). -/
def Yard.recalls (y : Yard) (e : Entry) : Prop := y.memory = some (e.slot, e.tag) ∨ .unexpected (some e) ∈ y.writes

/-- The feed law in the terms of the yard. -/
structure Yard.Ok (y : Yard) : Prop where
  room : y.queue.length ≤ 8
  once : (y.queue.map Entry.slot).Nodup
  entry : ∀ e ∈ y.queue, y.marks e.slot = some (e.tag, .queued) ∨ y.marks e.slot = some (e.tag, .atGate)
  queued : ∀ i n, y.marks i = some (n, .queued) ∨ y.marks i = some (n, .atGate) → { slot := i, tag := n } ∈ y.queue
  gateHead : ∀ i n, y.marks i = some (n, .atGate) → y.queue.head? = some { slot := i, tag := n }
  pathRoom : y.path.length ≤ 8
  pathOnce : (y.path.map PathEntry.slot).Nodup
  pathEntry : ∀ x ∈ y.path, y.marks x.slot = some (x.tag, if x.unconfirmed then .shredUnconfirmed else .inShredder)
  listed : ∀ i n g, y.marks i = some (n, g) → g = .inShredder ∨ g = .shredUnconfirmed → ∃ x ∈ y.path, x.slot = i
  record : ∀ e, y.gate = some e → y.marks e.slot = some (e.tag, .atGate)
  alone : ∀ i n, y.marks i = some (n, .atGate) → y.path = []
  quiet : y.gate ≠ none → ∀ w ∈ y.writes, w.admits = false ∧ w.leavesGate = false
  single : y.writes.countP FeedWrite.admits ≤ y.waiting.toNat
  order : y.writes.Pairwise (fun v w => v.admits = true → w.leavesGate = false)
  recalled : ∀ e, y.recalls e → y.marks e.slot = some (e.tag, .queued) → y.queue.head? = some e ∧ y.path = []

theorem feedMark_some {o : Option Rec} {n : Nat} {g : Stage} :
    feedMark o = some (n, g) ↔ ∃ r, o = some r ∧ r.tag = n ∧ r.stage = g ∧ g.fed = true := by
  cases o with
  | none => simp [feedMark]
  | some r =>
    unfold feedMark
    dsimp only
    split
    · next h =>
      simp only [Option.some.injEq, Prod.mk.injEq]
      constructor
      · rintro ⟨h1, h2⟩; exact ⟨r, rfl, h1, h2, h2 ▸ h⟩
      · rintro ⟨q, rfl, h1, h2, -⟩; exact ⟨h1, h2⟩
    · next h =>
      simp only [reduceCtorEq, Option.some.injEq, false_iff]
      rintro ⟨q, rfl, -, h2, h3⟩
      exact h (h2 ▸ h3)

theorem State.mark_iff (s : State) (i : Slot) (n : Nat) (g : Stage) (hg : g.fed = true) :
    s.yard.marks i = some (n, g) ↔ ∃ r, s.record i = some r ∧ r.tag = n ∧ r.stage = g :=
  feedMark_some.trans ⟨fun ⟨r, h1, h2, h3, _⟩ => ⟨r, h1, h2, h3⟩, fun ⟨r, h1, h2, h3⟩ => ⟨r, h1, h2, h3, hg⟩⟩

/-- The feed law is the law of the yard and the rule of the parked arbiter (R32). -/
theorem State.feedLaw_iff (s : State) :
    s.FeedLaw ↔ s.yard.Ok ∧ (s.arb.access = .parked → s.arb.feedWrites = []) := by
  have hq := fun i n => s.mark_iff i n .queued rfl
  have hg := fun i n => s.mark_iff i n .atGate rfl
  have hi := fun i n => s.mark_iff i n .inShredder rfl
  have hu := fun i n => s.mark_iff i n .shredUnconfirmed rfl
  constructor
  · rintro ⟨⟨q1, q2, q3, q4, q5⟩, ⟨p1, p2, p3, p4⟩, ⟨g1, g2, g3, g4, g5, g6, g7⟩⟩
    refine ⟨⟨q1, q2, fun e he => ?_, fun i n hn => ?_, fun i n hn => ?_, p1, p2, fun x hx => ?_, fun i n g hm hgs => ?_, fun e he => ?_,
      fun i n hn => ?_, g3, g4, g5, fun e hr he => ?_⟩, g7⟩
    · obtain ⟨r, h1, h2, h3 | h3⟩ := q3 e he
      · exact .inl ((hq _ _).mpr ⟨r, h1, h2, h3⟩)
      · exact .inr ((hg _ _).mpr ⟨r, h1, h2, h3⟩)
    · rcases hn with hn | hn
      · obtain ⟨r, h1, rfl, h3⟩ := (hq _ _).mp hn; exact q4 i r h1 (.inl h3)
      · obtain ⟨r, h1, rfl, h3⟩ := (hg _ _).mp hn; exact q4 i r h1 (.inr h3)
    · obtain ⟨r, h1, rfl, h3⟩ := (hg _ _).mp hn; exact q5 i r h1 h3
    · obtain ⟨r, h1, h2, h3⟩ := p3 x hx
      refine (s.mark_iff _ _ _ ?_).mpr ⟨r, h1, h2, h3⟩
      cases x.unconfirmed <;> rfl
    · rcases hgs with rfl | rfl
      · obtain ⟨r, h1, -, h3⟩ := (hi _ _).mp hm; exact p4 i r h1 (.inl h3)
      · obtain ⟨r, h1, -, h3⟩ := (hu _ _).mp hm; exact p4 i r h1 (.inr h3)
    · obtain ⟨r, h1, h2, h3⟩ := g1 e he; exact (hg _ _).mpr ⟨r, h1, h2, h3⟩
    · obtain ⟨r, h1, -, h3⟩ := (hg _ _).mp hn; exact g2 i r h1 h3
    · obtain ⟨r, h1, h2, h3⟩ := (hq _ _).mp he; exact g6 e r hr h1 h2 h3
  · rintro ⟨⟨q1, q2, q3, q4, q5, p1, p2, p3, p4, g1, g2, g3, g4, g5, g6⟩, g7⟩
    refine ⟨⟨q1, q2, fun e he => ?_, fun i r hr hs => ?_, fun i r hr hs => ?_⟩, ⟨p1, p2, fun x hx => ?_, fun i r hr hs => ?_⟩,
      ⟨fun e he => ?_, fun i r hr hs => ?_, g3, g4, g5, fun e r hr h1 h2 h3 => ?_, g7⟩⟩
    · rcases q3 e he with h | h
      · obtain ⟨r, h1, h2, h3⟩ := (hq _ _).mp h; exact ⟨r, h1, h2, .inl h3⟩
      · obtain ⟨r, h1, h2, h3⟩ := (hg _ _).mp h; exact ⟨r, h1, h2, .inr h3⟩
    · rcases hs with hs | hs
      · exact q4 i r.tag (.inl ((hq _ _).mpr ⟨r, hr, rfl, hs⟩))
      · exact q4 i r.tag (.inr ((hg _ _).mpr ⟨r, hr, rfl, hs⟩))
    · exact q5 i r.tag ((hg _ _).mpr ⟨r, hr, rfl, hs⟩)
    · obtain ⟨r, h1, h2, h3, -⟩ := feedMark_some.mp (p3 x hx); exact ⟨r, h1, h2, h3⟩
    · rcases hs with hs | hs
      · exact p4 i r.tag _ ((hi _ _).mpr ⟨r, hr, rfl, hs⟩) (.inl rfl)
      · exact p4 i r.tag _ ((hu _ _).mpr ⟨r, hr, rfl, hs⟩) (.inr rfl)
    · exact (hg _ _).mp (g1 e he)
    · exact g2 i r.tag ((hg _ _).mpr ⟨r, hr, rfl, hs⟩)
    · exact g6 e hr ((hq _ _).mpr ⟨r, h1, h2, h3⟩)

/-! ### What each kind of move makes of the yard -/

/-- The yard with the mark of one slot replaced. -/
def Yard.mark (y : Yard) (k : Slot) (o : Option (Nat × Stage)) : Yard :=
  { y with marks := fun i => if i = k then o else y.marks i }

/-- The queue without a slot. -/
def Yard.leave (y : Yard) (k : Slot) : Yard := { y with queue := y.queue.filter (fun x => decide (x.slot ≠ k)) }

theorem Yard.Ok.queue_slot {y : Yard} (h : y.Ok) {e : Entry} (he : e ∈ y.queue) {n : Nat} {g : Stage} (hm : y.marks e.slot = some (n, g)) :
    n = e.tag ∧ (g = .queued ∨ g = .atGate) := by
  rcases h.entry e he with k | k <;> rw [hm] at k <;> cases k
  · exact ⟨rfl, .inl rfl⟩
  · exact ⟨rfl, .inr rfl⟩

theorem Yard.Ok.not_queued {y : Yard} (h : y.Ok) {k : Slot} (hk : ∀ n, y.marks k ≠ some (n, .queued) ∧ y.marks k ≠ some (n, .atGate))
    {e : Entry} (he : e ∈ y.queue) : e.slot ≠ k := by
  intro e'
  rcases h.entry e he with hm | hm
  · exact (hk e.tag).1 (e' ▸ hm)
  · exact (hk e.tag).2 (e' ▸ hm)

theorem Yard.Ok.not_listed {y : Yard} (h : y.Ok) {k : Slot}
    (hk : ∀ n, y.marks k ≠ some (n, .inShredder) ∧ y.marks k ≠ some (n, .shredUnconfirmed)) {x : PathEntry} (hx : x ∈ y.path) :
    x.slot ≠ k := by
  intro e
  have hm := h.pathEntry x hx
  rw [e] at hm
  split at hm
  · exact (hk x.tag).2 hm
  · exact (hk x.tag).1 hm

/-- The gate's record is the only one AT_GATE. -/
theorem Yard.Ok.atGate_unique {y : Yard} (h : y.Ok) {i j : Slot} {n m : Nat} (hi : y.marks i = some (n, .atGate))
    (hj : y.marks j = some (m, .atGate)) : i = j := by
  have h1 := h.gateHead i n hi
  rw [h.gateHead j m hj] at h1
  cases h1
  rfl

/-- The head stays when another slot leaves the queue. -/
theorem head?_filter {l : List Entry} {k : Slot} {e : Entry} (h : l.head? = some e) (hne : e.slot ≠ k) :
    (l.filter (fun x => decide (x.slot ≠ k))).head? = some e := by
  cases l with
  | nil => cases h
  | cons a l => cases h; simp [hne]

/-- A queued record leaves the queue; the gate stays. -/
theorem Yard.Ok.leaveQueue {y : Yard} (h : y.Ok) {k : Slot} {n : Nat} (hk : y.marks k = some (n, .queued)) :
    ((y.mark k none).leave k).Ok := by
  have hlisted : ∀ x ∈ y.path, x.slot ≠ k := fun x hx => h.not_listed (fun m => by rw [hk]; simp) hx
  have hold : ∀ {i : Slot} {p : Nat × Stage}, (if i = k then none else y.marks i) = some p → i ≠ k ∧ y.marks i = some p :=
    fun {i p} hi => by
      split at hi
      · cases hi
      · next e => exact ⟨e, hi⟩
  exact
    { room := Nat.le_trans (List.length_filter_le _ _) h.room
      once := h.once.sublist (List.filter_sublist.map _)
      entry := fun e he => by
        obtain ⟨h1, h2⟩ := List.mem_filter.mp he
        have hne : e.slot ≠ k := by simpa using h2
        show (if e.slot = k then none else y.marks e.slot) = _ ∨ (if e.slot = k then none else y.marks e.slot) = _
        rw [if_neg hne]
        exact h.entry e h1
      queued := fun i m hm => by
        have hm : i ≠ k ∧ (y.marks i = some (m, .queued) ∨ y.marks i = some (m, .atGate)) := by
          rcases hm with hm | hm
          · exact ⟨(hold hm).1, .inl (hold hm).2⟩
          · exact ⟨(hold hm).1, .inr (hold hm).2⟩
        exact List.mem_filter.mpr ⟨h.queued i m hm.2, by simpa using hm.1⟩
      gateHead := fun i m hm => head?_filter (h.gateHead i m (hold hm).2) (hold hm).1
      pathRoom := h.pathRoom
      pathOnce := h.pathOnce
      pathEntry := fun x hx => (if_neg (hlisted x hx)).trans (h.pathEntry x hx)
      listed := fun i m g hm hg => h.listed i m g (hold hm).2 hg
      record := fun e he => by
        have hm := h.record e he
        exact (if_neg (fun e' => by rw [e', hk] at hm; cases hm)).trans hm
      alone := fun i m hm => h.alone i m (hold hm).2
      quiet := h.quiet
      single := h.single
      order := h.order
      recalled := fun e hr hm => by
        obtain ⟨h1, h2⟩ := h.recalled e hr (hold hm).2
        exact ⟨head?_filter h1 (hold hm).1, h2⟩ }

section
variable {y : Yard}

/-- The gate closed, the memory cleared or writes dropped. -/
theorem Yard.Ok.drop (h : y.Ok) {g : Option Entry} {m : Option (Slot × Nat)} {l : List FeedWrite} (hg : g = y.gate ∨ g = none)
    (hm : m = y.memory ∨ m = none) (hl : l.Sublist y.writes) : ({ y with gate := g, memory := m, writes := l } : Yard).Ok :=
  have hgate : ∀ {e}, g = some e → y.gate = some e := fun he => hg.elim (fun k => k ▸ he) (fun k => nomatch k ▸ he)
  have hmem : ∀ {x}, m = some x → y.memory = some x := fun he => hm.elim (fun k => k ▸ he) (fun k => nomatch k ▸ he)
  { h with
    record := fun e he => h.record e (hgate he)
    quiet := fun he w hw => by
      obtain ⟨e, he⟩ := Option.ne_none_iff_exists'.mp he
      exact h.quiet (by rw [hgate he]; simp) w (hl.subset hw)
    single := Nat.le_trans hl.countP_le h.single
    order := h.order.sublist hl
    recalled := fun e hr => h.recalled e (hr.imp hmem (fun k => hl.subset k)) }

/-- A write asked for: an admission with the gate free and none waiting, a pass or a return as the gate record is given up. -/
theorem Yard.Ok.ask (h : y.Ok) (w : FeedWrite) {g : Option Entry} {a : Bool} {m : Option (Slot × Nat)}
    (hg : g = y.gate ∨ g = none) (hquiet : g ≠ none → w.admits = false ∧ w.leavesGate = false)
    (ha : y.waiting = true → a = true) (hsingle : w.admits = true → y.waiting = false ∧ a = true)
    (horder : w.leavesGate = true → y.gate ≠ none)
    (hm : ∀ e : Entry, m = some (e.slot, e.tag) ∨ w = .unexpected (some e) →
      y.memory = some (e.slot, e.tag) ∨ y.marks e.slot ≠ some (e.tag, .queued)) :
    ({ y with gate := g, waiting := a, memory := m, writes := y.writes ++ [w] } : Yard).Ok :=
  have hgate : ∀ {e}, g = some e → y.gate = some e := fun he => hg.elim (fun k => k ▸ he) (fun k => nomatch k ▸ he)
  { h with
    record := fun e he => h.record e (hgate he)
    quiet := fun he v hv => by
      rcases List.mem_append.mp hv with hv | hv
      · obtain ⟨e, he'⟩ := Option.ne_none_iff_exists'.mp he
        exact h.quiet (by rw [hgate he']; simp) v hv
      · rw [List.mem_singleton.mp hv]; exact hquiet he
    single := by
      have hs := h.single
      rw [List.countP_append]
      cases hw : w.admits with
      | true =>
        obtain ⟨h1, h2⟩ := hsingle hw
        rw [h1] at hs
        have hzero : y.writes.countP FeedWrite.admits = 0 := Nat.le_zero.mp hs
        simp [hw, h2, hzero]
      | false =>
        cases hy : y.waiting with
        | true => simpa [hw, ha hy, hy] using hs
        | false =>
          rw [hy] at hs
          have hzero : y.writes.countP FeedWrite.admits = 0 := Nat.le_zero.mp hs
          simp [hw, hzero]
    order := List.pairwise_append.mpr ⟨h.order, List.pairwise_singleton _ _, fun v hv x hx hva => by
      rw [List.mem_singleton.mp hx]
      cases hl : w.leavesGate with
      | false => rfl
      | true => exact absurd hva (by rw [(h.quiet (horder hl) v hv).1]; simp)⟩
    recalled := fun e hr hq => by
      have hold : y.recalls e := by
        rcases hr with hr | hr
        · exact .inl ((hm e (.inl hr)).resolve_right (fun k => k hq))
        · rcases List.mem_append.mp hr with hr | hr
          · exact .inr hr
          · exact .inl ((hm e (.inr (List.mem_singleton.mp hr).symm)).resolve_right (fun k => k hq))
      exact h.recalled e hold hq }

/-- The front write is the only admission that waits. -/
theorem Yard.Ok.admission_alone (h : y.Ok) {e : Entry} {l : List FeedWrite} (hw : y.writes = .admission e :: l) :
    ∀ w ∈ l, w.admits = false ∧ w.leavesGate = false := by
  have hs := h.single
  have ho := h.order
  rw [hw] at hs ho
  have hzero : l.countP FeedWrite.admits = 0 := by
    have := Bool.toNat_le y.waiting
    have hcount : (FeedWrite.admission e :: l).countP FeedWrite.admits = l.countP FeedWrite.admits + 1 := List.countP_cons_of_pos rfl
    omega
  intro w hmem
  exact ⟨Bool.eq_false_iff.mpr (List.countP_eq_zero.mp hzero w hmem), (List.pairwise_cons.mp ho).1 w hmem rfl⟩

/-- An admission leaves the list without being made. -/
theorem Yard.Ok.popAdmission (h : y.Ok) {e : Entry} {l : List FeedWrite} (hw : y.writes = .admission e :: l) :
    ({ y with waiting := false, writes := l } : Yard).Ok :=
  { h with
    quiet := fun he w hm => h.quiet he w (by rw [hw]; exact List.mem_cons_of_mem _ hm)
    single := by
      have hzero : l.countP FeedWrite.admits = 0 := List.countP_eq_zero.mpr fun w hm => Bool.eq_false_iff.mp (h.admission_alone hw w hm).1
      simp [hzero]
    order := by have ho := h.order; rw [hw] at ho; exact (List.pairwise_cons.mp ho).2
    recalled := fun e' hr => h.recalled e' (hr.imp id (fun k => by rw [hw]; exact List.mem_cons_of_mem _ k)) }

/-- No record is AT_GATE while the head is QUEUED. -/
theorem Yard.Ok.none_atGate (h : y.Ok) {e : Entry} (hh : y.queue.head? = some e) (he : y.marks e.slot = some (e.tag, .queued))
    (i : Slot) (n : Nat) : y.marks i ≠ some (n, .atGate) := by
  intro hi
  have := h.gateHead i n hi
  rw [hh] at this
  cases this
  rw [he] at hi
  cases hi

/-- The marks of other slots. -/
theorem Yard.mark_of_ne (y : Yard) {k i : Slot} (o : Option (Nat × Stage)) (h : i ≠ k) : (y.mark k o).marks i = y.marks i := if_neg h

theorem Yard.mark_same (y : Yard) (k : Slot) (o : Option (Nat × Stage)) : (y.mark k o).marks k = o := if_pos rfl

/-- A mark given, or one that stood before. -/
theorem Yard.mark_some {k i : Slot} {o : Option (Nat × Stage)} {p : Nat × Stage} (h : (y.mark k o).marks i = some p) :
    (i = k ∧ o = some p) ∨ (i ≠ k ∧ y.marks i = some p) := by
  by_cases e : i = k
  · subst e; rw [y.mark_same] at h; exact .inl ⟨rfl, h⟩
  · rw [y.mark_of_ne o e] at h; exact .inr ⟨e, h⟩

/-- The head goes from QUEUED to the gate (R140). -/
theorem Yard.Ok.openGate (h : y.Ok) {e : Entry} {l : List FeedWrite} (hw : y.writes = .admission e :: l)
    (hh : y.queue.head? = some e) (he : y.marks e.slot = some (e.tag, .queued)) (hp : y.path = []) {m : Option (Slot × Nat)}
    (hm : m = y.memory ∨ m = none) :
    ({ y.mark e.slot (some (e.tag, .atGate)) with gate := some e, waiting := false, memory := m, writes := l } : Yard).Ok := by
  have hpop := (h.popAdmission hw).drop (.inl rfl) hm (List.Sublist.refl l)
  have hmark : ∀ {i : Slot} {p : Nat × Stage}, (if i = e.slot then some (e.tag, Stage.atGate) else y.marks i) = some p →
      (i = e.slot ∧ some (e.tag, Stage.atGate) = some p) ∨ (i ≠ e.slot ∧ y.marks i = some p) := Yard.mark_some
  exact
    { hpop with
      entry := fun x hx => by
        by_cases e' : x.slot = e.slot
        · right
          obtain ⟨ht, -⟩ := h.queue_slot hx (e' ▸ he)
          exact (if_pos e').trans (by rw [ht])
        · exact (h.entry x hx).imp (if_neg e').trans (if_neg e').trans
      queued := fun i n hn => by
        rcases hn with hn | hn <;> rcases hmark hn with ⟨rfl, k⟩ | ⟨-, k⟩
        · cases k
        · exact h.queued i n (.inl k)
        · cases k; exact h.queued e.slot e.tag (.inl he)
        · exact h.queued i n (.inr k)
      gateHead := fun i n hn => by
        rcases hmark hn with ⟨rfl, k⟩ | ⟨-, k⟩
        · obtain rfl : e.tag = n := congrArg Prod.fst (Option.some.inj k)
          exact hh
        · exact h.gateHead i n k
      pathEntry := fun x hx => absurd hp (List.ne_nil_of_mem hx)
      listed := fun i n g hn hg => by
        rcases hmark hn with ⟨rfl, k⟩ | ⟨-, k⟩
        · cases k; rcases hg with hg | hg <;> cases hg
        · exact h.listed i n g k hg
      record := fun x hx => by cases hx; exact if_pos rfl
      alone := fun _ _ _ => hp
      quiet := fun _ w hm => h.admission_alone hw w hm
      recalled := fun x hr hn => by
        rcases hmark hn with ⟨-, k⟩ | ⟨-, k⟩
        · exact absurd (congrArg Prod.snd (Option.some.inj k)) (by simp)
        · exact hpop.recalled x hr k }

/-- The gate's record returns to the queue, of which it is the head (R145). -/
theorem Yard.Ok.giveBack (h : y.Ok) {e : Entry} (hw : .giveBack e ∈ y.writes) (he : y.marks e.slot = some (e.tag, .atGate)) :
    (y.mark e.slot (some (e.tag, .queued))).Ok := by
  have hpath := h.alone _ _ he
  have hhead := h.gateHead _ _ he
  have hmark : ∀ {i : Slot} {p : Nat × Stage}, (y.mark e.slot (some (e.tag, .queued))).marks i = some p →
      (i = e.slot ∧ some (e.tag, Stage.queued) = some p) ∨ (i ≠ e.slot ∧ y.marks i = some p) := Yard.mark_some
  have hgate : y.gate = none := by
    refine Classical.byContradiction fun hne => ?_
    exact absurd (h.quiet hne _ hw).2 (by simp [FeedWrite.leavesGate])
  exact
    { h with
      entry := fun x hx => by
        by_cases e' : x.slot = e.slot
        · left
          obtain ⟨ht, -⟩ := h.queue_slot hx (e' ▸ he)
          rw [e', y.mark_same, ht]
        · rw [y.mark_of_ne _ e']
          exact h.entry x hx
      queued := fun i n hn => by
        rcases hn with hn | hn <;> rcases hmark hn with ⟨rfl, k⟩ | ⟨-, k⟩
        · cases k; exact h.queued e.slot e.tag (.inr he)
        · exact h.queued i n (.inl k)
        · cases k
        · exact h.queued i n (.inr k)
      gateHead := fun i n hn => by
        rcases hmark hn with ⟨-, k⟩ | ⟨-, k⟩
        · cases k
        · exact h.gateHead i n k
      pathEntry := fun x hx => absurd hpath (List.ne_nil_of_mem hx)
      listed := fun i n g hn hg => by
        rcases hmark hn with ⟨rfl, k⟩ | ⟨-, k⟩
        · cases k; rcases hg with hg | hg <;> cases hg
        · exact h.listed i n g k hg
      record := fun x hx => nomatch (hgate.symm.trans hx : none = some x)
      alone := fun _ _ _ => hpath
      recalled := fun x hr hn => by
        rcases hmark hn with ⟨e', k⟩ | ⟨-, k⟩
        · have hx : x = e := by
            have ht : e.tag = x.tag := congrArg Prod.fst (Option.some.inj k)
            obtain ⟨a, b⟩ := x
            obtain ⟨a', b'⟩ := e
            cases e'
            cases ht
            rfl
          rw [hx]
          exact ⟨hhead, hpath⟩
        · exact h.recalled x hr k }

/-- A DISCHARGED record joins the queue (R137). -/
theorem Yard.Ok.enqueue (h : y.Ok) {k : Slot} {n : Nat} (hk : y.marks k = none) (hl : y.queue.length < 8) (hw : y.writes = [])
    {m : Option (Slot × Nat)} (hm : m = y.memory ∨ m = none) (hf : m ≠ some (k, n)) :
    ({ y.mark k (some (n, .queued)) with queue := y.queue ++ [{ slot := k, tag := n }], memory := m } : Yard).Ok := by
  have hnot : ∀ e ∈ y.queue, e.slot ≠ k := fun e he => h.not_queued (fun m => by rw [hk]; simp) he
  have hmark : ∀ {i : Slot} {p : Nat × Stage}, (if i = k then some (n, Stage.queued) else y.marks i) = some p →
      (i = k ∧ some (n, Stage.queued) = some p) ∨ (i ≠ k ∧ y.marks i = some p) := Yard.mark_some
  have hkeep : ∀ {i : Slot} {p : Nat × Stage}, y.marks i = some p →
      (if i = k then some (n, Stage.queued) else y.marks i) = some p := fun {i p} hi => by
    rw [if_neg (fun e => by rw [e, hk] at hi; cases hi)]; exact hi
  have hhead : ∀ {e : Entry}, y.queue.head? = some e → (y.queue ++ [({ slot := k, tag := n } : Entry)]).head? = some e := fun he => by
    simp [List.head?_append, he]
  exact
    { h with
      room := by simp only [List.length_append, List.length_cons, List.length_nil]; omega
      once := by
        rw [List.map_append, List.nodup_append]
        refine ⟨h.once, by simp, ?_⟩
        rintro a ha b hb rfl
        obtain ⟨e, he, rfl⟩ := List.mem_map.mp ha
        exact hnot e he (by simpa using hb)
      entry := fun e he => by
        rcases List.mem_append.mp he with he | he
        · exact (h.entry e he).imp hkeep hkeep
        · rw [List.mem_singleton.mp he]; exact .inl (if_pos rfl)
      queued := fun i x hx => by
        rcases hx with hx | hx <;> rcases hmark hx with ⟨rfl, e⟩ | ⟨-, e⟩
        · cases e; exact List.mem_append_right _ (List.mem_singleton.mpr rfl)
        · exact List.mem_append_left _ (h.queued i x (.inl e))
        · cases e
        · exact List.mem_append_left _ (h.queued i x (.inr e))
      gateHead := fun i x hx => by
        rcases hmark hx with ⟨-, e⟩ | ⟨-, e⟩
        · cases e
        · exact hhead (h.gateHead i x e)
      pathEntry := fun x hx => hkeep (h.pathEntry x hx)
      listed := fun i x g hx hg => by
        rcases hmark hx with ⟨-, e⟩ | ⟨-, e⟩
        · cases e; rcases hg with hg | hg <;> cases hg
        · exact h.listed i x g e hg
      record := fun e he => hkeep (h.record e he)
      alone := fun i x hx => by
        rcases hmark hx with ⟨-, e⟩ | ⟨-, e⟩
        · cases e
        · exact h.alone i x e
      recalled := fun x hr hx => by
        have hmem : m = some (x.slot, x.tag) := hr.resolve_right (by simp [Yard.mark, hw])
        rcases hmark hx with ⟨e, e2⟩ | ⟨-, e⟩
        · cases e2; exact absurd hmem (by rw [e]; exact hf)
        · have hold : y.memory = some (x.slot, x.tag) := by
            rcases hm with rfl | rfl
            · exact hmem
            · cases hmem
          obtain ⟨h1, h2⟩ := h.recalled x (.inl hold) e
          exact ⟨hhead h1, h2⟩ }

/-- The gate's record leaves the feed; the memory may name it (R18, R26). -/
theorem Yard.Ok.leaveGate (h : y.Ok) {k : Slot} {n : Nat} (hk : y.marks k = some (n, .atGate)) {m : Option (Slot × Nat)}
    (hm : m = y.memory ∨ m = some (k, n)) : ({ (y.mark k none).leave k with gate := none, memory := m } : Yard).Ok := by
  have hpath := h.alone k n hk
  have hold : ∀ {i : Slot} {p : Nat × Stage}, (if i = k then none else y.marks i) = some p → i ≠ k ∧ y.marks i = some p :=
    fun {i p} hi => by
      split at hi
      · cases hi
      · next e => exact ⟨e, hi⟩
  exact
    { h with
      room := Nat.le_trans (List.length_filter_le _ _) h.room
      once := h.once.sublist (List.filter_sublist.map _)
      entry := fun e he => by
        obtain ⟨h1, h2⟩ := List.mem_filter.mp he
        have hne : e.slot ≠ k := by simpa using h2
        show (if e.slot = k then none else y.marks e.slot) = _ ∨ (if e.slot = k then none else y.marks e.slot) = _
        rw [if_neg hne]
        exact h.entry e h1
      queued := fun i m hm => by
        have hm : i ≠ k ∧ (y.marks i = some (m, .queued) ∨ y.marks i = some (m, .atGate)) := by
          rcases hm with hm | hm
          · exact ⟨(hold hm).1, .inl (hold hm).2⟩
          · exact ⟨(hold hm).1, .inr (hold hm).2⟩
        exact List.mem_filter.mpr ⟨h.queued i m hm.2, by simpa using hm.1⟩
      gateHead := fun i m hm => absurd (h.atGate_unique (hold hm).2 hk) (hold hm).1
      pathEntry := fun x hx => absurd hpath (List.ne_nil_of_mem hx)
      listed := fun i m g hm hg => h.listed i m g (hold hm).2 hg
      record := fun e he => by cases he
      alone := fun i m hm => hpath
      quiet := fun he => absurd rfl he
      recalled := fun e hr hx => by
        have hrec : y.recalls e := by
          rcases hr with hr | hr
          · rcases hm with rfl | rfl
            · exact .inl hr
            · cases hr; exact absurd rfl (hold hx).1
          · exact .inr hr
        obtain ⟨h1, -⟩ := h.recalled e hrec (hold hx).2
        exact absurd hk (h.none_atGate h1 (hold hx).2 k n) }

/-- The head of the queue enters the shredder path, in which nothing stood (R142, R144). -/
theorem Yard.Ok.enterPath (h : y.Ok) {e : Entry} (hh : y.queue.head? = some e) (hp : y.path = []) (hg : y.gate = none)
    (x : PathEntry) (hx : x.slot = e.slot ∧ x.tag = e.tag) :
    ({ (y.mark e.slot (some (e.tag, if x.unconfirmed then .shredUnconfirmed else .inShredder))).leave e.slot with path := [x] } :
      Yard).Ok := by
  have hmark : ∀ {i : Slot} {p : Nat × Stage}, (if i = e.slot then some (e.tag, if x.unconfirmed then Stage.shredUnconfirmed
      else .inShredder) else y.marks i) = some p → (p.2 = .inShredder ∨ p.2 = .shredUnconfirmed) ∧ i = e.slot
        ∨ (i ≠ e.slot ∧ y.marks i = some p) := fun {i p} hi => by
    split at hi
    · next e' =>
      cases hi
      refine .inl ⟨?_, e'⟩
      cases x.unconfirmed
      · exact .inl rfl
      · exact .inr rfl
    · next e' => exact .inr ⟨e', hi⟩
  have hother : ∀ i n, (y.marks i = some (n, .atGate)) → i = e.slot := fun i n hi => by
    have := h.gateHead i n hi
    rw [hh] at this
    cases this
    rfl
  exact
    { h with
      room := Nat.le_trans (List.length_filter_le _ _) h.room
      once := h.once.sublist (List.filter_sublist.map _)
      entry := fun z hz => by
        obtain ⟨h1, h2⟩ := List.mem_filter.mp hz
        have hne : z.slot ≠ e.slot := by simpa using h2
        exact (h.entry z h1).imp (fun k => (if_neg hne).trans k) (fun k => (if_neg hne).trans k)
      queued := fun i m hm => by
        have hm : i ≠ e.slot ∧ (y.marks i = some (m, .queued) ∨ y.marks i = some (m, .atGate)) := by
          rcases hm with hm | hm <;> rcases hmark hm with ⟨k | k, -⟩ | k
          iterate 2 cases k
          · exact ⟨k.1, .inl k.2⟩
          iterate 2 cases k
          · exact ⟨k.1, .inr k.2⟩
        exact List.mem_filter.mpr ⟨h.queued i m hm.2, by simpa using hm.1⟩
      gateHead := fun i m hm => by
        rcases hmark hm with ⟨k | k, -⟩ | k
        iterate 2 cases k
        · exact absurd (hother i m k.2) k.1
      pathRoom := by simp
      pathOnce := by simp
      pathEntry := fun z hz => by
        rw [List.mem_singleton.mp hz]
        exact (if_pos hx.1).trans (by rw [hx.2])
      listed := fun i m g hm hgs => by
        rcases hmark hm with ⟨-, k⟩ | k
        · exact ⟨x, List.mem_singleton.mpr rfl, hx.1.trans k.symm⟩
        · obtain ⟨z, hz, -⟩ := h.listed i m g k.2 hgs
          rw [hp] at hz
          cases hz
      record := fun z hz => nomatch (hg.symm.trans hz : none = some z)
      alone := fun i m hm => by
        rcases hmark hm with ⟨k | k, -⟩ | k
        iterate 2 cases k
        · exact absurd (hother i m k.2) k.1
      recalled := fun z hr hz => by
        rcases hmark hz with ⟨k | k, -⟩ | k
        iterate 2 cases k
        · obtain ⟨h1, -⟩ := h.recalled z hr k.2
          rw [hh] at h1
          cases h1
          exact absurd rfl k.1 }

/-- A record leaves the shredder path (R21, R22, R147). -/
theorem Yard.Ok.leavePath (h : y.Ok) {k : Slot} {n : Nat} {g : Stage} (hk : y.marks k = some (n, g))
    (hg : g = .inShredder ∨ g = .shredUnconfirmed) :
    ({ y.mark k none with path := y.path.filter (fun x => decide (x.slot ≠ k)) } : Yard).Ok := by
  have hold : ∀ {i : Slot} {p : Nat × Stage}, (if i = k then none else y.marks i) = some p → i ≠ k ∧ y.marks i = some p :=
    fun {i p} hi => by
      split at hi
      · cases hi
      · next e => exact ⟨e, hi⟩
  have hkeep : ∀ {i : Slot} {m : Nat} {g' : Stage}, y.marks i = some (m, g') → g' = .queued ∨ g' = .atGate →
      (if i = k then none else y.marks i) = some (m, g') := fun {i m g'} hi hq => by
    rw [if_neg]
    · exact hi
    · rintro rfl
      rw [hk] at hi
      cases hi
      rcases hg with e | e <;> rw [e] at hq <;> simp at hq
  exact
    { h with
      entry := fun e he => (h.entry e he).imp (fun j => hkeep j (.inl rfl)) (fun j => hkeep j (.inr rfl))
      queued := fun i m hm => h.queued i m (hm.imp (fun j => (hold j).2) (fun j => (hold j).2))
      gateHead := fun i m hm => h.gateHead i m (hold hm).2
      pathRoom := Nat.le_trans (List.length_filter_le _ _) h.pathRoom
      pathOnce := h.pathOnce.sublist (List.filter_sublist.map _)
      pathEntry := fun x hx => by
        obtain ⟨h1, h2⟩ := List.mem_filter.mp hx
        exact (if_neg (by simpa using h2)).trans (h.pathEntry x h1)
      listed := fun i m g' hm hgs => by
        obtain ⟨x, hx, rfl⟩ := h.listed i m g' (hold hm).2 hgs
        exact ⟨x, List.mem_filter.mpr ⟨hx, by simpa using (hold hm).1⟩, rfl⟩
      record := fun e he => hkeep (h.record e he) (.inr rfl)
      alone := fun i m hm => by
        show y.path.filter _ = []
        rw [h.alone i m (hold hm).2]; rfl
      recalled := fun e hr hm => by
        obtain ⟨h1, h2⟩ := h.recalled e hr (hold hm).2
        refine ⟨h1, ?_⟩
        show y.path.filter _ = []
        rw [h2]; rfl }

/-- A record in the shredder becomes unconfirmed, in the path list too (R148, R167). -/
theorem Yard.Ok.unconfirm (h : y.Ok) {k : Slot} {n : Nat} (hk : y.marks k = some (n, .inShredder)) :
    ({ y.mark k (some (n, .shredUnconfirmed)) with
      path := y.path.map (fun x => if x.slot = k then { x with unconfirmed := true } else x) } : Yard).Ok := by
  have hmark : ∀ {i : Slot} {m : Nat} {g : Stage}, (if i = k then some (n, Stage.shredUnconfirmed) else y.marks i) = some (m, g) →
      (i = k ∧ g = .shredUnconfirmed) ∨ (i ≠ k ∧ y.marks i = some (m, g)) := fun {i m g} hi => by
    split at hi
    · next e => cases hi; exact .inl ⟨e, rfl⟩
    · next e => exact .inr ⟨e, hi⟩
  have hkeep : ∀ {i : Slot} {m : Nat} {g : Stage}, y.marks i = some (m, g) → g ≠ .inShredder →
      (if i = k then some (n, Stage.shredUnconfirmed) else y.marks i) = some (m, g) := fun {i m g} hi hg => by
    rw [if_neg (fun e => by rw [e, hk] at hi; cases hi; exact hg rfl)]; exact hi
  have hslot : ∀ x : PathEntry, (if x.slot = k then { x with unconfirmed := true } else x).slot = x.slot := fun x => by split <;> rfl
  have hpath : ∀ {l : List PathEntry}, l = [] → l.map (fun x => if x.slot = k then { x with unconfirmed := true } else x) = [] := by
    rintro _ rfl; rfl
  exact
    { h with
      entry := fun e he => (h.entry e he).imp (fun j => hkeep j (by simp)) (fun j => hkeep j (by simp))
      queued := fun i m hm => by
        rcases hm with hm | hm <;> rcases hmark hm with ⟨-, e⟩ | ⟨-, e⟩
        · cases e
        · exact h.queued i m (.inl e)
        · cases e
        · exact h.queued i m (.inr e)
      gateHead := fun i m hm => by
        rcases hmark hm with ⟨-, e⟩ | ⟨-, e⟩
        · cases e
        · exact h.gateHead i m e
      pathRoom := by simpa using h.pathRoom
      pathOnce := by
        rw [List.map_map, show PathEntry.slot ∘ _ = PathEntry.slot from funext hslot]
        exact h.pathOnce
      pathEntry := fun x hx => by
        obtain ⟨z, hz, rfl⟩ := List.mem_map.mp hx
        have hm := h.pathEntry z hz
        by_cases e : z.slot = k
        · rw [e, hk] at hm
          split at hm
          · cases hm
          · cases hm; simp [Yard.mark, e]
        · simp only [if_neg e, Yard.mark]; exact hm
      listed := fun i m g hm hg => by
        obtain ⟨z, hz, hzi⟩ : ∃ z ∈ y.path, z.slot = i := by
          rcases hmark hm with ⟨rfl, -⟩ | ⟨-, e⟩
          · exact h.listed i n _ hk (.inl rfl)
          · exact h.listed i m g e hg
        exact ⟨_, List.mem_map.mpr ⟨z, hz, rfl⟩, (hslot z).trans hzi⟩
      record := fun e he => hkeep (h.record e he) (by simp)
      alone := fun i m hm => by
        rcases hmark hm with ⟨-, e⟩ | ⟨-, e⟩
        · cases e
        · exact hpath (h.alone i m e)
      recalled := fun e hr hm => by
        rcases hmark hm with ⟨-, e'⟩ | ⟨-, e'⟩
        · cases e'
        · obtain ⟨h1, h2⟩ := h.recalled e hr e'
          exact ⟨h1, hpath h2⟩ }

end

end Sys2Proof.Machine
end

section
/-!
PROOFS. The feed law through every move and through the end of a step.
-/

namespace Sys2Proof.Machine

variable {c : Cause} {s t : State}

theorem State.askFeed_writes (s : State) (w : FeedWrite) : (s.askFeed w).arb.feedWrites = s.arb.feedWrites ++ [w] := by
  unfold State.askFeed
  rw [State.wake_eq]
  split <;> rfl

/-- A write asked for finds no PARKED arbiter afterwards (R32). -/
theorem State.askFeed_awake (s : State) (w : FeedWrite) : (s.askFeed w).arb.access ≠ .parked := by
  unfold State.askFeed
  rw [State.wake_eq]
  split
  · simp [State.setAccess]
  · next h => exact h

/-! ### The yard of a changed state -/

theorem State.yard_same (hs : ∀ i, t.record i = s.record i) (hf : t.feed = s.feed)
    (hw : t.arb.feedWrites = s.arb.feedWrites) : t.yard = s.yard := by
  unfold State.yard
  simp only [hs, hf, hw]

theorem State.marks_set {k : Slot} {o : Option Rec} (hs : ∀ i, t.record i = if i = k then o else s.record i) :
    t.yard.marks = (s.yard.mark k (feedMark o)).marks := by
  funext i
  show feedMark (t.record i) = if i = k then feedMark o else feedMark (s.record i)
  rw [hs i]
  split <;> rfl

/-- A record replaced by one of the same tag and stage, or by one that stands in the feed as little as it did. -/
theorem State.yard_of_set {k : Slot} {o : Option Rec} (ho : feedMark o = feedMark (s.record k))
    (hs : ∀ i, t.record i = if i = k then o else s.record i) (hf : t.feed = s.feed)
    (hw : t.arb.feedWrites = s.arb.feedWrites) : t.yard = s.yard := by
  have hm : t.yard.marks = s.yard.marks := by
    rw [State.marks_set hs]
    funext i
    show (if i = k then feedMark o else feedMark (s.record i)) = feedMark (s.record i)
    split
    · next e => rw [ho, e]
    · rfl
  exact Yard.ext hm (congrArg Feed.queue hf) (congrArg Feed.path hf) (congrArg Feed.gate hf)
    (congrArg Feed.admissionWaiting hf) (congrArg (fun f => f.memory.map (fun m => (m.slot, m.tag))) hf) hw

theorem feedMark_clear {r : Rec} (h : r.stage.fed = false) : feedMark (some r) = none := if_neg (by rw [h]; simp)

theorem feedMark_fed {r : Rec} (h : r.stage.fed = true) : feedMark (some r) = some (r.tag, r.stage) := if_pos h

theorem Stage.fed_of_bound {g : Stage} (h : g.bound = true) : g.fed = false := by
  cases g <;> first | rfl | cases h

theorem State.mark_of {i : Slot} {r : Rec} (hr : s.record i = some r) (hg : r.stage.fed = true) :
    s.yard.marks i = some (r.tag, r.stage) := by
  show feedMark (s.record i) = _
  rw [hr, feedMark_fed hg]

theorem State.mark_clear {i : Slot} {r : Rec} (hr : s.record i = some r) (hg : r.stage.fed = false) :
    s.yard.marks i = none := by
  show feedMark (s.record i) = _
  rw [hr, feedMark_clear hg]

/-- The memory as the law reads it, after it is cleared for a record. -/
theorem State.forget_yard (s : State) (e : Entry) : ∃ m, (m = s.yard.memory ∨ m = none) ∧ m ≠ some (e.slot, e.tag)
    ∧ (s.forget e).yard = { s.yard with memory := m } := by
  rw [s.forget_eq e]
  by_cases h : s.feed.memory.map (fun m => (m.slot, m.tag)) = some (e.slot, e.tag)
  · refine ⟨none, .inr rfl, by simp, ?_⟩
    rw [if_pos h]; rfl
  · refine ⟨s.yard.memory, .inl rfl, h, ?_⟩
    rw [if_neg h]; rfl

/-! ### Admission and the chamber's reports -/

theorem State.not_anyStage {g : Stage} (h : s.anyStage g = false) {i : Slot} {r : Rec} (hr : s.record i = some r) : r.stage ≠ g := by
  intro e
  refine absurd (h.symm.trans ((Bank.any_iff s.slots _).mpr ⟨i, ?_⟩)) (by simp)
  rw [show s.slots.get i = some r from hr]
  exact decide_eq_true e

/-- The conditions of admission that the feed law needs: the gate free, the head QUEUED, nothing in the shredder path. -/
theorem State.admits_facts (h : s.admits = true) : s.feed.gate = none ∧ s.anyStage .shredUnconfirmed = false
    ∧ s.anyStage .inShredder = false := by
  simp only [State.admits, State.admissionConditions, List.all_cons, id, Bool.and_eq_true, Bool.not_eq_true', List.all_nil,
    Option.isNone_iff_eq_none] at h
  obtain ⟨-, -, -, -, h5, -, ⟨h7, -⟩, ⟨-, h8⟩, -⟩ := h
  exact ⟨h7, h5, h8⟩

theorem State.path_empty (h : s.yard.Ok) (h5 : s.anyStage .shredUnconfirmed = false) (h8 : s.anyStage .inShredder = false) :
    s.feed.path = [] := by
  cases hp : s.feed.path with
  | nil => rfl
  | cons x l =>
    obtain ⟨r, hr, -, hg, -⟩ := feedMark_some.mp (h.pathEntry x (show x ∈ s.feed.path by rw [hp]; exact List.mem_cons_self))
    split at hg
    · exact absurd hg (State.not_anyStage h5 hr)
    · exact absurd hg (State.not_anyStage h8 hr)

theorem State.evalAdmission_yard (h : s.yard.Ok) : s.evalAdmission.yard.Ok := by
  unfold State.evalAdmission
  split
  · next ha =>
    obtain ⟨ha, hw⟩ := ha
    split
    · next e l _ =>
      have hy : (((s.setFeed { s.feed with admissionWaiting := true }).askFeed (.admission e)).yard)
          = { s.yard with gate := s.yard.gate, waiting := true, memory := s.yard.memory, writes := s.yard.writes ++ [.admission e] } :=
        Yard.ext (by simp [State.yard]) (by simp [State.yard]) (by simp [State.yard]) (by simp [State.yard])
          (by simp [State.yard]) (by simp [State.yard]) (State.askFeed_writes ..)
      rw [hy]
      exact h.ask _ (.inl rfl) (fun k => absurd (State.admits_facts ha).1 k) (fun _ => rfl) (fun _ => ⟨hw, rfl⟩)
        (fun k => by cases k) (fun e' k => k.elim .inl (fun j => by cases j))
    · exact h
  · exact h

theorem State.startReturn_yard (h : s.yard.Ok) {e : Entry} (hg : s.feed.gate = some e) :
    (((s.setFeed s.feed.closeGate).remember e).askFeed (.giveBack e)).yard.Ok := by
  have hy : (((s.setFeed s.feed.closeGate).remember e).askFeed (.giveBack e)).yard
      = { s.yard with gate := none, waiting := s.yard.waiting, memory := some (e.slot, e.tag)
                      writes := s.yard.writes ++ [.giveBack e] } :=
    Yard.ext (by simp [State.yard]) (by simp [State.yard, State.remember, Feed.closeGate])
      (by simp [State.yard, State.remember, Feed.closeGate]) (by simp [State.yard, State.remember, Feed.closeGate])
      (by simp [State.yard, State.remember, Feed.closeGate]) (by simp [State.yard, State.remember, Feed.closeGate])
      (State.askFeed_writes ..)
  rw [hy]
  have hgate : s.yard.gate = some e := hg
  refine h.ask _ (.inr rfl) (fun k => absurd rfl k) (fun k => k) (fun k => by cases k) (fun _ => by rw [hgate]; simp) (fun x hx => .inr ?_)
  rcases hx with hx | hx
  · have hslot : x.slot = e.slot := congrArg Prod.fst (Option.some.inj hx).symm
    rw [hslot, h.record e hgate]
    simp
  · cases hx

theorem State.closeGate_yard (h : s.yard.Ok) : (s.setFeed s.feed.closeGate).yard.Ok :=
  h.drop (.inr rfl) (.inl rfl) (List.Sublist.refl _)

theorem State.enterChamber_yard (h : s.yard.Ok) (g : ChamberState) : (s.enterChamber g).yard.Ok := by
  unfold State.enterChamber State.feedChamberReport
  split
  · exact h
  · obtain ⟨x, hx⟩ : ∃ x, x = (((s.setChamber { s.chamber with state := g }).driveChamber).raiseChamber) := ⟨_, rfl⟩
    have hok : x.yard.Ok := by
      rw [State.yard_same (s := s) (by simp [hx]) (by simp [hx]) (by simp [hx])]
      exact h
    have hret : x.startReturn.yard.Ok := by
      unfold State.startReturn
      split
      · exact hok
      · next e he =>
        rw [State.yard_same (s := ((x.setFeed x.feed.closeGate).remember e).askFeed (.giveBack e)) (by simp) (by simp) (by simp)]
        exact State.startReturn_yard hok he
    rw [← hx]
    dsimp only
    refine State.evalAdmission_yard ?_
    split
    · split
      iterate 3 exact hret
      · exact State.closeGate_yard hok
      all_goals exact hok
    · exact hok

/-! ### The moves -/

theorem State.amendField_feed (s : State) (k : Slot) (r : Rec) (f : OpField) (v : Nat) :
    (s.amendField k r f v).feed = s.feed ∧ (s.amendField k r f v).arb.feedWrites = s.arb.feedWrites := by
  unfold State.amendField
  split
  · split <;> exact ⟨rfl, rfl⟩
  all_goals exact ⟨rfl, rfl⟩

/-- Every move from a state that keeps the bindings keeps the feed law's yard. -/
theorem Move.yard (h : Move c s t) (hb : s.BindingLaw) (hc : c.calm) (hs : s.yard.Ok) : t.yard.Ok := by
  have same : t.yard = s.yard → t.yard.Ok := fun e => e ▸ hs
  cases h
  case port | attend | mask => exact same (State.yard_same (by simp) (by simp) (by simp))
  case feed f hq hg ho hp ha hm =>
    have hy : (s.setFeed f).yard = { s.yard with gate := s.yard.gate, memory := (s.setFeed f).yard.memory, writes := s.yard.writes } :=
      Yard.ext rfl hq hp hg ha rfl rfl
    rw [hy]
    exact hs.drop (.inl rfl) (hm.imp id (fun e => by show f.memory.map _ = none; rw [e]; rfl)) (List.Sublist.refl _)
  case closeGate => exact State.closeGate_yard hs
  case evalAdmission => exact State.evalAdmission_yard hs
  case askLate w hw =>
    have hfacts : w.admits = false ∧ w.leavesGate = false ∧ ∀ e, w ≠ .unexpected e := by
      obtain ⟨e, rfl | rfl⟩ := hw <;> exact ⟨rfl, rfl, by simp⟩
    have hy : (s.askFeed w).yard = { s.yard with gate := s.yard.gate, waiting := s.yard.waiting, memory := s.yard.memory
                                                 writes := s.yard.writes ++ [w] } :=
      Yard.ext (by simp [State.yard]) (by simp [State.yard]) (by simp [State.yard]) (by simp [State.yard])
        (by simp [State.yard]) (by simp [State.yard]) (State.askFeed_writes ..)
    rw [hy]
    refine hs.ask _ (.inl rfl) (fun _ => ⟨hfacts.1, hfacts.2.1⟩) id (fun k => ?_) (fun k => ?_) (fun e k => ?_)
    · rw [hfacts.1] at k; cases k
    · rw [hfacts.2.1] at k; cases k
    · exact .inl (k.resolve_right (hfacts.2.2 _))
  case startReturn e hg => exact State.startReturn_yard hs hg
  case pass e f hg hq hgn ho hp ha hm =>
    have hy : ((s.setFeed f).askFeed (.pass e)).yard = { s.yard with gate := none, waiting := s.yard.waiting
                                                                     memory := s.yard.memory, writes := s.yard.writes ++ [.pass e] } :=
      Yard.ext (by simp [State.yard]) (by simp [State.yard, hq]) (by simp [State.yard, hp]) (by simp [State.yard, hgn])
        (by simp [State.yard, ha]) (by simp [State.yard, hm]) (State.askFeed_writes ..)
    rw [hy]
    exact hs.ask _ (.inr rfl) (fun k => absurd rfl k) id (fun k => by cases k)
      (fun _ => by rw [show s.yard.gate = some e from hg]; simp) (fun x k => .inl (k.resolve_right (by simp)))
  case unexpected f hg hq hgn ho hp ha hm =>
    have hy : ((s.setFeed f).askFeed (.unexpected (s.feed.memory.map (fun m => { slot := m.slot, tag := m.tag })))).yard
        = { s.yard with gate := s.yard.gate, waiting := s.yard.waiting, memory := none
                        writes := s.yard.writes ++ [.unexpected (s.feed.memory.map (fun m => { slot := m.slot, tag := m.tag }))] } :=
      Yard.ext (by simp [State.yard]) (by simp [State.yard, hq]) (by simp [State.yard, hp]) (by simp [State.yard, hgn])
        (by simp [State.yard, ha]) (by simp [State.yard, hm]) (State.askFeed_writes ..)
    rw [hy]
    refine hs.ask _ (.inl rfl) (fun _ => ⟨rfl, rfl⟩) id (fun k => by cases k) (fun k => by cases k) (fun x k => .inl ?_)
    rcases k with k | k
    · cases k
    · obtain ⟨m, hm1, hm2⟩ := Option.map_eq_some_iff.mp (FeedWrite.unexpected.inj k)
      show s.feed.memory.map _ = _
      rw [hm1, ← hm2]; rfl
  case dropWrites l hl => exact hs.drop (.inl rfl) (.inl rfl) hl
  case popAdmission e l hw =>
    have hy : (s.popFeed.setFeed { s.feed with admissionWaiting := false }).yard = { s.yard with waiting := false, writes := l } :=
      Yard.ext rfl rfl rfl rfl rfl rfl (by show s.arb.feedWrites.tail = l; rw [hw]; rfl)
    rw [hy]
    exact hs.popAdmission hw
  case enterChamber g _ _ => exact State.enterChamber_yard hs g
  case bind k r b y hr hw _ _ _ _ =>
    refine same (State.yard_of_set (o := some { r with stage := .probing, bay := some b, rebounds := 0 }) ?_
      (fun i => State.record_setRecord ..) rfl rfl)
    rw [hr, feedMark_clear rfl, feedMark_clear (by rw [hw]; rfl)]
  case release b e r q n y he hr _ hq hst _ _ _ =>
    obtain ⟨hrec, -⟩ := State.named_record hr
    obtain ⟨r', h1, -, h3, -⟩ := hb.bound b e he
    rw [hrec] at h1
    cases h1
    refine same (State.yard_of_set (k := e.slot) (o := some q) ?_ (fun i => ?_) rfl rfl)
    · rw [hrec, feedMark_clear (Stage.fed_of_bound h3), feedMark_clear (by rcases hst hb with k | k <;> rw [k] <;> rfl)]
    · show (State.setRecord _ e.slot (some q)).record i = _
      rw [State.record_setRecord]
      split
      · rfl
      · next h => exact (State.record_setRecord ..).trans (if_neg h)
  case register k p a tag cells capacity declared mass damaged hf _ =>
    refine same (State.yard_of_set (o := some (newRecord p tag a cells capacity declared mass damaged)) ?_
      (fun i => State.record_setRecord ..) rfl rfl)
    rw [hf, feedMark_clear rfl]; rfl
  case amend k r f v hr hw =>
    obtain ⟨q, hq, hset⟩ := s.amendField_record k r f v hr
    refine same (State.yard_of_set ?_ hset (s.amendField_feed k r f v).1 (s.amendField_feed k r f v).2)
    rw [hr, feedMark_clear (r := q) (by rw [hq.2.1, hw]; rfl), feedMark_clear (r := r) (by rw [hw]; rfl)]
  case retire k r hr hw _ =>
    refine same (State.yard_of_set (o := none) ?_ (fun i => State.record_setRecord ..) rfl rfl)
    rw [hr, feedMark_clear (by rcases hw with e | e <;> rw [e] <;> rfl)]; rfl
  case flags k r f hr _ =>
    exact same (State.yard_of_set (o := some { r with flags := f }) (by rw [hr]; rfl) (fun i => State.record_setRecord ..) rfl rfl)
  case credit k r n hr =>
    exact same (State.yard_of_set (o := some { r with energy := satAdd 999999 r.energy n }) (by rw [hr]; rfl)
      (fun i => State.record_setRecord ..) rfl rfl)
  case stage b w r hw hr =>
    obtain ⟨hrec, -, hg⟩ := State.expect_record hr
    obtain ⟨he, hn⟩ : w.expected.bound = true ∧ w.new.bound = true := hb.writes b _ hw
    refine same (State.yard_of_set (o := some (w.apply r)) ?_ (fun i => State.record_setRecord ..) rfl rfl)
    rw [hrec, feedMark_clear (r := w.apply r) (Stage.fed_of_bound (by rw [(w.apply_frame r).2.2.2.2.2]; exact hn)),
      feedMark_clear (r := r) (Stage.fed_of_bound (by rw [hg]; exact he))]
  case pull k r hr hw =>
    unfold State.pullFromFeed
    dsimp only
    split
    · next hg =>
      have hy : (((s.setRecord k (some { r.quarantined.returned with stage := .discharged })).setFeed
            (s.feed.leave { slot := k, tag := r.tag }).closeGate).remember { slot := k, tag := r.tag }).yard
          = { (s.yard.mark k none).leave k with gate := none, memory := some (k, r.tag) } :=
        Yard.ext (State.marks_set (o := some { r.quarantined.returned with stage := .discharged }) (fun i => State.record_setRecord ..))
          rfl rfl rfl rfl rfl rfl
      rw [hy]
      exact hs.leaveGate (by rw [State.mark_of hr (by rw [hg]; rfl), hg]) (.inr rfl)
    · next hg =>
      have hq : r.stage = .queued := hw.resolve_right hg
      have hy : ((s.setRecord k (some { r.quarantined with stage := .discharged })).setFeed
            (s.feed.leave { slot := k, tag := r.tag })).yard = (s.yard.mark k none).leave k :=
        Yard.ext (State.marks_set (o := some { r.quarantined with stage := .discharged }) (fun i => State.record_setRecord ..))
          rfl rfl rfl rfl rfl rfl
      rw [hy]
      exact hs.leaveQueue (by rw [State.mark_of hr (by rw [hq]; rfl), hq])
  case enqueue k r hr hw _ hl hf =>
    obtain ⟨m, hm, hne, hy⟩ := ((s.setRecord k (some { r with stage := .queued })).setFeed
        { s.feed with queue := s.feed.queue ++ [{ slot := k, tag := r.tag }] }).forget_yard { slot := k, tag := r.tag }
    rw [hy]
    have hy1 : ((s.setRecord k (some { r with stage := .queued })).setFeed
          { s.feed with queue := s.feed.queue ++ [{ slot := k, tag := r.tag }] }).yard
        = { s.yard.mark k (some (r.tag, .queued)) with queue := s.yard.queue ++ [{ slot := k, tag := r.tag }] } :=
      Yard.ext (State.marks_set (o := some { r with stage := .queued }) (fun i => State.record_setRecord ..)) rfl rfl rfl rfl rfl rfl
    rw [hy1] at hm ⊢
    exact hs.enqueue (State.mark_clear hr (by rw [hw]; rfl)) hl (hf hc) hm hne
  case withdraw k r hr hw =>
    obtain ⟨m, hm, -, hy⟩ := ((s.setRecord k (some { r with stage := .discharged })).setFeed
        (s.feed.leave { slot := k, tag := r.tag })).forget_yard { slot := k, tag := r.tag }
    rw [hy]
    have hy1 : ((s.setRecord k (some { r with stage := .discharged })).setFeed (s.feed.leave { slot := k, tag := r.tag })).yard
        = (s.yard.mark k none).leave k :=
      Yard.ext (State.marks_set (o := some { r with stage := .discharged }) (fun i => State.record_setRecord ..)) rfl rfl rfl rfl rfl rfl
    rw [hy1] at hm ⊢
    exact (hs.leaveQueue (by rw [State.mark_of hr (by rw [hw]; rfl), hw])).drop (.inl rfl) hm (List.Sublist.refl _)
  case openGate e l r f _ hw hr ha hh hf =>
    obtain ⟨hrec, htag, hg⟩ := State.expect_record hr
    obtain ⟨-, h5, h8⟩ := State.admits_facts ha
    obtain ⟨m, hm, -, hy⟩ :=
      ((s.popFeed.setRecord e.slot (some { r.admitted with stage := .atGate })).setFeed f).forget_yard e
    rw [hy]
    have hy1 : ((s.popFeed.setRecord e.slot (some { r.admitted with stage := .atGate })).setFeed f).yard
        = { s.yard.mark e.slot (some (e.tag, .atGate)) with gate := some e, waiting := false, writes := l } := by
      rw [hf]
      refine Yard.ext ?_ rfl rfl rfl rfl rfl (by show s.arb.feedWrites.tail = l; rw [hw]; rfl)
      have hset := State.marks_set (s := s) (t := (s.popFeed.setRecord e.slot (some { r.admitted with stage := .atGate })).setFeed
        { s.feed with admissionWaiting := false, gate := some e, gateOpen := true, gateTimer := f.gateTimer })
        (o := some { r.admitted with stage := .atGate }) (fun i => State.record_setRecord ..)
      rw [hset, feedMark_fed rfl, ← htag]
      rfl
    rw [hy1] at hm ⊢
    exact hs.openGate hw hh (by rw [State.mark_of hrec (by rw [hg]; rfl), hg, htag]) (State.path_empty hs h5 h8) hm
  case enterPath e r hw hr _ =>
    obtain ⟨hrec, htag, hg⟩ := State.expect_record hr
    have hmark : s.yard.marks e.slot = some (e.tag, .atGate) := by rw [State.mark_of hrec (by rw [hg]; rfl), hg, htag]
    have hpath : s.feed.path = [] := hs.alone _ _ hmark
    have hgate : s.yard.gate = none := by
      refine Classical.byContradiction fun hne => ?_
      exact absurd (hs.quiet hne _ hw).2 (by simp [FeedWrite.leavesGate])
    have hy : (s.enterPath e r false).yard = { (s.yard.mark e.slot (some (e.tag, .inShredder))).leave e.slot with
        path := [{ slot := e.slot, tag := e.tag, residual := r.residual, unconfirmed := false }] } := by
      refine Yard.ext ?_ rfl (by simp [State.yard, State.enterPath, State.countAdmitted, Feed.joinPath, Feed.leave, hpath]) rfl rfl rfl rfl
      have hset := State.marks_set (s := s) (t := s.enterPath e r false) (o := some { r with stage := .inShredder })
        (fun i => State.record_setRecord ..)
      rw [hset, feedMark_fed rfl, ← htag]
      rfl
    rw [hy]
    exact hs.enterPath (hs.gateHead _ _ hmark) hpath hgate { slot := e.slot, tag := e.tag, residual := r.residual, unconfirmed := false } ⟨rfl, rfl⟩
  case takenPath e r hw hr _ =>
    obtain ⟨hrec, htag, hg⟩ := State.expect_record hr
    have hmark : s.yard.marks e.slot = some (e.tag, .queued) := by rw [State.mark_of hrec (by rw [hg]; rfl), hg, htag]
    obtain ⟨hhead, hpath⟩ := hs.recalled e (.inr hw) hmark
    have hgate : s.yard.gate = none := by
      refine Classical.byContradiction fun hne => ?_
      obtain ⟨x, hx⟩ := Option.ne_none_iff_exists'.mp hne
      exact hs.none_atGate hhead hmark _ _ (hs.record x hx)
    have hy : (s.enterPath e r true).yard = { (s.yard.mark e.slot (some (e.tag, .shredUnconfirmed))).leave e.slot with
        path := [{ slot := e.slot, tag := e.tag, residual := r.residual, unconfirmed := true }] } := by
      have hpath' : s.feed.path = [] := hpath
      refine Yard.ext ?_ rfl (by simp [State.yard, State.enterPath, State.countAdmitted, Feed.joinPath, Feed.leave, hpath']) rfl rfl rfl rfl
      have hset := State.marks_set (s := s) (t := s.enterPath e r true) (o := some { r with stage := .shredUnconfirmed })
        (fun i => State.record_setRecord ..)
      rw [hset, feedMark_fed rfl, ← htag]
      rfl
    rw [hy]
    exact hs.enterPath hhead hpath hgate { slot := e.slot, tag := e.tag, residual := r.residual, unconfirmed := true } ⟨rfl, rfl⟩
  case giveBack e r hw hr =>
    obtain ⟨hrec, htag, hg⟩ := State.expect_record hr
    have hy : (s.setRecord e.slot (some { r.returned with stage := .queued })).yard = s.yard.mark e.slot (some (e.tag, .queued)) := by
      refine Yard.ext ?_ rfl rfl rfl rfl rfl rfl
      have hset := State.marks_set (s := s) (t := s.setRecord e.slot (some { r.returned with stage := .queued }))
        (o := some { r.returned with stage := .queued }) (fun i => State.record_setRecord ..)
      rw [hset, feedMark_fed rfl, ← htag]
      rfl
    rw [hy]
    exact hs.giveBack hw (by rw [State.mark_of hrec (by rw [hg]; rfl), hg, htag])
  case shredded k r hr hw _ =>
    have hy : (s.retireShredded k r).yard = { s.yard.mark k none with path := s.yard.path.filter (fun x => decide (x.slot ≠ k)) } :=
      Yard.ext (State.marks_set (o := none) (fun i => State.record_setRecord ..)) rfl rfl rfl rfl rfl rfl
    rw [hy]
    exact hs.leavePath (State.mark_of hr (by rcases hw with e | e <;> rw [e] <;> rfl)) hw
  case recover k r hr hw n =>
    have hy : (((s.setRecord k (some { r.recoveredBack with stage := .discharged })).setTallies
          { s.tallies with massAdmitted := s.tallies.massAdmitted - r.mass, residualAdmitted := n }).setFeed
            (s.feed.leavePath { slot := k, tag := r.tag })).yard
        = { s.yard.mark k none with path := s.yard.path.filter (fun x => decide (x.slot ≠ k)) } :=
      Yard.ext (State.marks_set (o := some { r.recoveredBack with stage := .discharged }) (fun i => State.record_setRecord ..))
        rfl rfl rfl rfl rfl rfl
    rw [hy]
    exact hs.leavePath (State.mark_of hr (by rw [hw]; rfl)) (.inr hw)
  case unconfirm k r f hr hw =>
    have hy : ((s.setRecord k (some { r with stage := .shredUnconfirmed, flags := f })).setFeed (s.feed.unconfirmPath k)).yard
        = { s.yard.mark k (some (r.tag, .shredUnconfirmed)) with
            path := s.yard.path.map (fun x => if x.slot = k then { x with unconfirmed := true } else x) } :=
      Yard.ext (State.marks_set (o := some { r with stage := .shredUnconfirmed, flags := f }) (fun i => State.record_setRecord ..))
        rfl rfl rfl rfl rfl rfl
    rw [hy]
    exact hs.unconfirm (by rw [State.mark_of hr (by rw [hw]; rfl), hw])
  all_goals exact hs

end Sys2Proof.Machine
end

section
/-!
PROOFS. The rule of the parked arbiter through every move (R32), and the feed law at a stop and at a start (R29, R135, R194).
-/

namespace Sys2Proof.Machine

variable {c : Cause} {s t : State}

/-! ### The parked arbiter -/

/-- No write of the Feed Controller waits at a PARKED arbiter (R32). -/
def State.Calm (s : State) : Prop := s.arb.access = .parked → s.arb.feedWrites = []

theorem State.Calm.of_arb (hs : s.Calm) (h : t.arb = s.arb) : t.Calm := by
  unfold State.Calm; rw [h]; exact hs

theorem State.Calm.evalAdmission (hs : s.Calm) : s.evalAdmission.Calm := by
  unfold State.evalAdmission
  split
  · split
    · exact fun k => absurd k (State.askFeed_awake _ _)
    · exact hs
  · exact hs

theorem Move.calm (h : Move c s t) (hs : s.Calm) : t.Calm := by
  cases h
  case access a h => exact h
  case port | attend | mask => exact hs.of_arb (by simp)
  case enterChamber g _ _ =>
    unfold State.enterChamber State.feedChamberReport
    split
    · exact hs
    · obtain ⟨x, hx⟩ : ∃ x, x = (((s.setChamber { s.chamber with state := g }).driveChamber).raiseChamber) := ⟨_, rfl⟩
      have hok : x.Calm := hs.of_arb (by simp [hx])
      have hret : x.startReturn.Calm := by
        unfold State.startReturn
        split
        · exact hok
        · next e _ =>
          exact State.Calm.of_arb (s := ((x.setFeed x.feed.closeGate).remember e).askFeed (.giveBack e))
            (fun k => absurd k (State.askFeed_awake _ _)) (by simp)
      rw [← hx]
      dsimp only
      refine State.Calm.evalAdmission ?_
      split
      · split
        iterate 3 exact hret
        all_goals exact hok
      · exact hok
  case evalAdmission => exact hs.evalAdmission
  case askLate | startReturn | pass | unexpected => exact fun k => absurd k (State.askFeed_awake _ _)
  case dropWrites l hl =>
    intro k
    rw [hs k] at hl
    exact List.sublist_nil.mp hl
  case popAdmission e l hw => exact fun k => absurd ((hs k).symm.trans hw) (by simp)
  case openGate e l r f _ hw _ _ _ _ =>
    intro k
    rw [State.forget_arb] at k
    exact absurd ((hs k).symm.trans hw) (by simp)
  case amend k r f v _ _ =>
    unfold State.amendField
    split
    · split <;> exact hs
    all_goals exact hs
  case pull k r _ _ => unfold State.pullFromFeed; split <;> exact hs
  case enqueue | withdraw => exact hs.of_arb (by rw [State.forget_arb]; rfl)
  all_goals exact hs

/-! ### The yard at the end of a step -/

theorem State.yard_marks (s : State) (i : Slot) : s.yard.marks i = feedMark (s.record i) := rfl
theorem State.yard_queue (s : State) : s.yard.queue = s.feed.queue := rfl
theorem State.yard_path (s : State) : s.yard.path = s.feed.path := rfl
theorem State.yard_gate (s : State) : s.yard.gate = s.feed.gate := rfl
theorem State.yard_waiting (s : State) : s.yard.waiting = s.feed.admissionWaiting := rfl
theorem State.yard_memory (s : State) : s.yard.memory = s.feed.memory.map (fun m => (m.slot, m.tag)) := rfl
theorem State.yard_writes (s : State) : s.yard.writes = s.arb.feedWrites := rfl

/-- A stop or the end of a start keeps the queue and the path list and forgets the rest. -/
theorem Yard.Ok.retained {y : Yard} (h : y.Ok) : ({ y with gate := none, waiting := false, memory := none, writes := [] } : Yard).Ok :=
  { h.drop (g := none) (m := none) (l := []) (.inr rfl) (.inr rfl) (List.nil_sublist _) with
    single := by simp
    recalled := fun e hr => hr.elim (fun k => by cases k) (fun k => by cases k) }

/-- A record's mark after a reconciliation: back from the gate, unconfirmed in the shredder (R29). -/
def settledMark (o : Option (Nat × Stage)) : Option (Nat × Stage) :=
  match o with
  | some (n, .atGate) => some (n, .queued)
  | some (n, .inShredder) => some (n, .shredUnconfirmed)
  | o => o

theorem feedMark_reconciled {r q : Rec} (h : q.core = r.reconciled.core) : feedMark (some q) = settledMark (feedMark (some r)) := by
  simp only [Rec.core, Prod.mk.injEq] at h
  obtain ⟨htag, -, -, hst, -, -⟩ := h
  have hr : r.reconciled.tag = r.tag := by unfold Rec.reconciled; split <;> rfl
  have hq : feedMark (some q) = feedMark (some r.reconciled) := by unfold feedMark; simp only [htag, hst]
  rw [hq]
  unfold feedMark
  dsimp only
  rw [hr]
  unfold Rec.reconciled
  split <;> next hg => simp [hg, Stage.fed, settledMark]

theorem State.reconcile_marks (s : State) (i : Slot) : s.reconcile.yard.marks i = settledMark (s.yard.marks i) := by
  rw [State.yard_marks, State.yard_marks]
  cases h : s.record i with
  | none =>
    cases hq : s.reconcile.record i with
    | none => rfl
    | some q =>
      obtain ⟨r, hr, -⟩ := State.reconcile_record_some hq
      rw [h] at hr; cases hr
  | some r =>
    obtain ⟨q, hq, he⟩ := State.reconcile_record_of_some h
    rw [hq]
    exact feedMark_reconciled he

theorem settledMark_some {o : Option (Nat × Stage)} {n : Nat} {g : Stage} (h : settledMark o = some (n, g)) :
    (g = .queued ∧ (o = some (n, .queued) ∨ o = some (n, .atGate)))
    ∨ (g = .shredUnconfirmed ∧ (o = some (n, .inShredder) ∨ o = some (n, .shredUnconfirmed)))
    ∨ (g ≠ .queued ∧ g ≠ .atGate ∧ g ≠ .inShredder ∧ g ≠ .shredUnconfirmed) := by
  unfold settledMark at h
  split at h
  · cases h; exact .inl ⟨rfl, .inr rfl⟩
  · cases h; exact .inr (.inl ⟨rfl, .inl rfl⟩)
  · next h1 h2 =>
    cases g
    case queued => exact .inl ⟨rfl, .inl h⟩
    case shredUnconfirmed => exact .inr (.inl ⟨rfl, .inr h⟩)
    case atGate => exact absurd h (h1 n)
    case inShredder => exact absurd h (h2 n)
    all_goals exact .inr (.inr (by simp))

/-- The entries of the path list after a reconciliation. -/
theorem State.reconcile_path {s : State} {x : PathEntry} (h : x ∈ s.reconcile.feed.path) :
    ∃ z ∈ s.feed.path, z.slot = x.slot ∧ z.tag = x.tag
      ∧ ((s.record x.slot).map Rec.stage = some .inShredder ∧ x.unconfirmed = true
        ∨ (s.record x.slot).map Rec.stage ≠ some .inShredder ∧ x.unconfirmed = z.unconfirmed) := by
  have hx : x ∈ s.reconcile.feed.entriesOf x.slot := List.mem_filter.mpr ⟨h, by simp⟩
  rw [s.reconcile_entries] at hx
  unfold settledEntries at hx
  split at hx
  · next hg =>
    obtain ⟨z, hz, rfl⟩ := List.mem_map.mp hx
    exact ⟨z, (List.mem_filter.mp hz).1, rfl, rfl, .inl ⟨hg, rfl⟩⟩
  · next hg => exact ⟨x, (List.mem_filter.mp hx).1, rfl, rfl, .inr ⟨hg, rfl⟩⟩

/-- A reconciliation settles the feed: what was at the gate is QUEUED, what was in the shredder unconfirmed (R29). -/
theorem Yard.Ok.reconcile (h : s.yard.Ok) (hg : s.feed.gate = none) (hm : s.feed.memory = none) :
    s.reconcile.yard.Ok := by
  have hnames := s.reconcile_pathNames
  have hslots : s.reconcile.feed.path.map PathEntry.slot = s.feed.path.map PathEntry.slot := by
    have := congrArg (List.map Prod.fst) hnames
    simpa [Feed.pathNames, List.map_map, Function.comp_def] using this
  have hq : s.reconcile.feed.queue = s.feed.queue := by simp
  have hmarks := s.reconcile_marks
  have hmem : s.reconcile.yard.memory = none := by rw [State.yard_memory, State.reconcile_feed_memory, hm]; rfl
  have hgate : s.reconcile.yard.gate = none := by rw [State.yard_gate, State.reconcile_feed_gate, hg]
  have hwrites : s.reconcile.yard.writes = [] := by rw [State.yard_writes, State.reconcile_feedWrites]
  have hnotgate : ∀ i n, s.reconcile.yard.marks i ≠ some (n, .atGate) := fun i n k => by
    rw [hmarks] at k
    rcases settledMark_some k with ⟨e, -⟩ | ⟨e, -⟩ | ⟨-, e, -⟩
    · cases e
    · cases e
    · exact e rfl
  exact
    { room := by rw [State.yard_queue, hq]; exact h.room
      once := by rw [State.yard_queue, hq]; exact h.once
      entry := fun e he => by
        rw [hmarks]
        rw [State.yard_queue, hq] at he
        rcases h.entry e he with k | k <;> rw [k] <;> exact .inl rfl
      queued := fun i n k => by
        rcases k with k | k
        · rw [hmarks] at k
          rw [State.yard_queue, hq]
          rcases settledMark_some k with ⟨-, j⟩ | ⟨e, -⟩ | ⟨e, -⟩
          · exact h.queued i n j
          · cases e
          · exact absurd rfl e
        · exact absurd k (hnotgate i n)
      gateHead := fun i n k => absurd k (hnotgate i n)
      pathRoom := by
        have := congrArg List.length hslots
        simp only [List.length_map] at this
        rw [State.yard_path, this]; exact h.pathRoom
      pathOnce := by rw [State.yard_path, hslots]; exact h.pathOnce
      pathEntry := fun x hx => by
        rw [State.yard_path] at hx
        obtain ⟨z, hz, h1, h2, h3⟩ := State.reconcile_path hx
        have hz := h.pathEntry z hz
        rw [h1, h2] at hz
        rw [hmarks, hz]
        obtain ⟨r, hr, -, hst, -⟩ := feedMark_some.mp hz
        rcases h3 with ⟨h3, h4⟩ | ⟨h3, h4⟩
        · rw [h4]
          rw [hr] at h3
          rw [show r.stage = .inShredder from Option.some.inj h3] at hst
          rw [← hst]; rfl
        · rw [h4]
          rw [hr] at h3
          split
          · rfl
          · next hu => rw [if_neg hu] at hst; exact absurd (congrArg some hst) h3
      listed := fun i n g k hgs => by
        rw [hmarks] at k
        have hold : ∃ x ∈ s.feed.path, x.slot = i := by
          rcases settledMark_some k with ⟨e, -⟩ | ⟨-, j | j⟩ | ⟨-, -, e1, e2⟩
          · rw [e] at hgs; simp at hgs
          · exact h.listed i n _ j (.inl rfl)
          · exact h.listed i n _ j (.inr rfl)
          · exact absurd hgs (by simp [e1, e2])
        obtain ⟨x, hx, rfl⟩ := hold
        have : x.slot ∈ s.reconcile.feed.path.map PathEntry.slot := by rw [hslots]; exact List.mem_map_of_mem hx
        obtain ⟨z, hz, e⟩ := List.mem_map.mp this
        rw [State.yard_path]
        exact ⟨z, hz, e⟩
      record := fun e he => by rw [hgate] at he; cases he
      alone := fun i n k => absurd k (hnotgate i n)
      quiet := fun k => absurd hgate k
      single := by rw [hwrites]; simp
      order := by rw [hwrites]; exact List.Pairwise.nil
      recalled := fun e hr => by
        rcases hr with hr | hr
        · rw [hmem] at hr; cases hr
        · rw [hwrites] at hr; cases hr }

theorem State.stopMain_yard (s : State) :
    s.stopMain.yard = { s.yard with gate := none, waiting := false, memory := none, writes := [] } := rfl

theorem State.with_phase_feed (s : State) (p : Phase) : ({ s with phase := p } : State).feed = s.feed := rfl

theorem State.with_phase_yard (s : State) (p : Phase) : ({ s with phase := p } : State).yard = s.yard := rfl

theorem State.completeStart_yard (s : State) (k : StartKind) :
    (s.completeStart k).yard = { s.yard with gate := none, waiting := false, memory := none, writes := [] } := by
  have hf := s.completeStart_feed k
  have ha : (s.completeStart k).arb = {} :=
    State.completeStart_frame State.arb (fun _ _ _ => rfl) k (fun _ _ _ _ _ => rfl) s
  refine Yard.ext (funext fun i => ?_) ?_ ?_ ?_ ?_ ?_ ?_
  · rw [State.yard_marks, s.completeStart_record]; rfl
  · rw [State.yard_queue, hf]; rfl
  · rw [State.yard_path, hf]; rfl
  · rw [State.yard_gate, hf]; rfl
  · rw [State.yard_waiting, hf]; rfl
  · rw [State.yard_memory, hf]; rfl
  · rw [State.yard_writes, ha]

theorem State.cold_yard (s : State) (p : Phase) : ({ s.coldValues with phase := p } : State).yard
    = { marks := fun _ => none, queue := [], path := [], gate := none, waiting := false, memory := none, writes := [] } :=
  Yard.ext (funext fun i => congrArg feedMark (State.cold_record s p i)) rfl rfl rfl rfl rfl rfl

theorem Yard.ok_empty : (({ marks := fun _ => none, queue := [], path := [], gate := none, waiting := false, memory := none, writes := [] }) :
    Yard).Ok :=
  { room := by simp, once := List.nodup_nil, entry := fun _ h => by cases h
    queued := fun _ _ h => by rcases h with h | h <;> cases h
    gateHead := fun _ _ h => by cases h
    pathRoom := by simp, pathOnce := List.nodup_nil, pathEntry := fun _ h => by cases h
    listed := fun _ _ _ h => by cases h
    record := fun _ h => by cases h
    alone := fun _ _ h => by cases h
    quiet := fun h => absurd rfl h
    single := by simp
    order := List.Pairwise.nil
    recalled := fun _ _ h => by cases h }

/-- The end of a step keeps the feed law. -/
theorem Last.feedLaw (h : Last c s t) (hy : s.yard.Ok) (hc : s.Calm) : t.FeedLaw := by
  rw [State.feedLaw_iff]
  cases h with
  | wait p req =>
    have he : (s.setPort p { s.port p with inFlight := some (.waiting req) }).yard = s.yard :=
      State.yard_same (by simp) (by simp) (by simp)
    exact ⟨by rw [he]; exact hy, hc.of_arb (by simp)⟩
  | stop ph _ => exact ⟨hy.retained, fun _ => rfl⟩
  | offReset _ => exact ⟨hy, hc⟩
  | retention _ => exact ⟨hy, hc⟩
  | warm _ =>
    refine ⟨?_, fun _ => rfl⟩
    rw [State.with_phase_yard]
    exact Yard.Ok.reconcile (s := s.stopMain) (by rw [State.stopMain_yard]; exact hy.retained) rfl rfl
  | cold _ _ =>
    refine ⟨?_, fun _ => rfl⟩
    rw [State.cold_yard]
    exact Yard.ok_empty
  | finish k _ =>
    refine ⟨?_, fun _ => ?_⟩
    · rw [State.completeStart_yard]; exact hy.retained
    · exact congrArg Yard.writes (s.completeStart_yard k)

/-! ### The queue's room -/

theorem State.evalAdmission_queue (s : State) : s.evalAdmission.feed.queue = s.feed.queue := by
  unfold State.evalAdmission
  split
  · split
    · simp
    · rfl
  · rfl

theorem State.forget_queue (s : State) (e : Entry) : (s.forget e).feed.queue = s.feed.queue := by
  rw [s.forget_eq e]; rfl

theorem State.startReturn_queue (s : State) : s.startReturn.feed.queue = s.feed.queue := by
  unfold State.startReturn
  split
  · rfl
  · simp [Feed.closeGate, State.remember]

theorem State.enterChamber_queue (s : State) (g : ChamberState) : (s.enterChamber g).feed.queue = s.feed.queue := by
  unfold State.enterChamber State.feedChamberReport
  split
  · rfl
  · dsimp only
    rw [State.evalAdmission_queue]
    split
    · split
      iterate 3 rw [State.startReturn_queue]; simp
      all_goals simp [Feed.closeGate]
    · simp

/-- Only ENQUEUE lengthens the queue, and it finds room (R137). -/
theorem Move.queueRoom (h : Move c s t) (hs : s.feed.queue.length ≤ 8) : t.feed.queue.length ≤ 8 := by
  have hleave : ∀ k : Slot, (s.feed.queue.filter (fun x => decide (x.slot ≠ k))).length ≤ 8 :=
    fun k => Nat.le_trans (List.length_filter_le _ _) hs
  have same : t.feed.queue = s.feed.queue → t.feed.queue.length ≤ 8 := fun e => e ▸ hs
  cases h
  case port | attend | mask | askLate => exact same (by simp)
  case enterChamber g _ _ => exact same (s.enterChamber_queue g)
  case feed f hq _ _ _ _ _ => exact same hq
  case evalAdmission => exact same s.evalAdmission_queue
  case startReturn => exact same (by simp [Feed.closeGate, State.remember])
  case pass e f _ hq _ _ _ _ _ => exact same (by simp [hq])
  case unexpected f _ hq _ _ _ _ _ => exact same (by simp [hq])
  case amend k r f v _ _ => exact same (congrArg Feed.queue (s.amendField_feed k r f v).1)
  case pull k r _ _ =>
    unfold State.pullFromFeed
    dsimp only
    split <;> exact hleave k
  case enqueue k r _ _ _ hl _ =>
    rw [State.forget_queue]
    show (s.feed.queue ++ [_]).length ≤ 8
    rw [List.length_append]
    exact hl
  case withdraw k r _ _ => rw [State.forget_queue]; exact hleave k
  case openGate e l r f _ _ _ _ _ hf => rw [State.forget_queue, hf]; exact hs
  case enterPath e r _ _ _ => exact hleave e.slot
  case takenPath e r _ _ _ => exact hleave e.slot
  all_goals exact hs

theorem Last.queueRoom (h : Last c s t) (hs : s.feed.queue.length ≤ 8) : t.feed.queue.length ≤ 8 := by
  cases h with
  | wait p req => simpa using hs
  | warm _ =>
    rw [State.with_phase_feed, State.reconcile_feed_queue]
    exact hs
  | cold _ _ => exact Nat.zero_le 8
  | finish k _ => rw [s.completeStart_feed k]; exact hs
  | stop _ _ | offReset _ | retention _ => exact hs

/-! ### Every step -/

/-- What is asked of a step from a state that meets the rule of the parked arbiter. -/
def Cause.calmly (s : State) : Cause := { Cause.any s with calm := True }

/-- Every step from a state that keeps the bindings keeps the feed law. -/
theorem feedLaw_kept : KeptUnder State.BindingLaw State.FeedLaw := by
  intro s t hb hs h
  obtain ⟨hy, hc⟩ := s.feedLaw_iff.mp hs
  obtain ⟨u, hu, hlast⟩ := step_steps (c := .calmly s) h rfl
    ⟨fun _ => hc, fun k => k.elim, fun _ _ _ => ⟨fun _ _ => trivial, fun _ => trivial⟩⟩ (fun _ _ => ⟨fun _ _ => trivial, fun _ => trivial⟩)
  obtain ⟨-, h2, h3⟩ : u.BindingLaw ∧ u.yard.Ok ∧ u.Calm := hu.keeps (law := fun v => v.BindingLaw ∧ v.yard.Ok ∧ v.Calm)
    (fun v w k hv => ⟨k.bindingLaw hv.1, k.yard hv.1 trivial hv.2.1, k.calm hv.2.2⟩) ⟨hb.with_pending _, hy, hc⟩
  rcases hlast with rfl | k
  · exact t.feedLaw_iff.mpr ⟨h2, h3⟩
  · exact k.feedLaw h2 h3

/-- Settles O16: every move of a record through the feed moves its entry with it. -/
theorem theFeedFollowsTheRecords : Obligations.TheFeedFollowsTheRecords :=
  ⟨kept_of_moves (fun _ _ h => h) (fun _ _ _ h => h.queueRoom) (fun _ _ _ h => h.queueRoom), feedLaw_kept⟩

end Sys2Proof.Machine
end

section
/-!
PROOFS. The mass in the shredder path and the mass admitted (R25): what a move does to both, and the three commands that free a
slot.
-/

namespace Sys2Proof.Machine

variable {c : Cause} {s t : State}

/-! ### The mass of a slot in the shredder path -/

/-- What a slot's record weighs in the shredder path. -/
def pathWeight (o : Option Rec) : Nat :=
  match o with
  | some r => if r.stage = .inShredder ∨ r.stage = .shredUnconfirmed then r.mass else 0
  | none => 0

theorem pathWeight_out {r : Rec} (h : ¬(r.stage = .inShredder ∨ r.stage = .shredUnconfirmed)) : pathWeight (some r) = 0 := if_neg h

theorem pathWeight_in {r : Rec} (h : r.stage = .inShredder ∨ r.stage = .shredUnconfirmed) : pathWeight (some r) = r.mass := if_pos h

theorem Bank.map_eq {α β : Type} {n : Nat} (b : Bank α n) (f : α → β) : b.1.map f = (List.finRange n).map (fun i => f (b.get i)) := by
  apply List.ext_getElem
  · simp [b.2]
  · intro i h1 h2
    simp [Bank.get]

/-! ### Sums over a list -/

section Sums

variable {α : Type} {l : List α} {f g : α → Nat}

/-- Two sums that differ at one place. -/
theorem sum_change {k : α} (hn : l.Nodup) (hk : k ∈ l) (h : ∀ i, i ≠ k → f i = g i) :
    (l.map f).sum + g k = (l.map g).sum + f k := by
  induction l with
  | nil => cases hk
  | cons a l ih =>
    obtain ⟨ha, hn⟩ := List.nodup_cons.mp hn
    simp only [List.map_cons, List.sum_cons]
    rcases List.mem_cons.mp hk with rfl | hk
    · have hrest : l.map f = l.map g := List.map_congr_left fun i hi => h i fun e => ha (e ▸ hi)
      rw [hrest]
      omega
    · have := ih hn hk
      rw [h a fun e => ha (e ▸ hk)]
      omega

theorem sum_zero (h : ∀ i, f i = 0) : (l.map f).sum = 0 := by
  induction l with
  | nil => rfl
  | cons a l ih => rw [List.map_cons, List.sum_cons, h a, ih]

theorem sum_le {m : Nat} (h : ∀ i, f i ≤ m) : (l.map f).sum ≤ l.length * m := by
  induction l with
  | nil => exact Nat.zero_le _
  | cons a l ih =>
    rw [List.map_cons, List.sum_cons, List.length_cons, Nat.succ_mul, Nat.add_comm]
    exact Nat.add_le_add ih (h a)

theorem le_sum {k : α} (hk : k ∈ l) : f k ≤ (l.map f).sum := by
  induction l with
  | nil => cases hk
  | cons a l ih =>
    rw [List.map_cons, List.sum_cons]
    rcases List.mem_cons.mp hk with rfl | hk
    · exact Nat.le_add_right _ _
    · exact Nat.le_trans (ih hk) (Nat.le_add_left _ _)

end Sums

theorem State.pathMass_eq (s : State) : s.pathMass = ((List.finRange 256).map fun i => pathWeight (s.record i)).sum := by
  unfold State.pathMass
  rw [Bank.map_eq]
  rfl

theorem State.shreddedMass_eq (s t : State) : s.shreddedMass t
    = ((List.finRange 256).map fun i => if t.record i = none then pathWeight (s.record i) else 0).sum := by
  unfold State.shreddedMass
  refine congrArg List.sum (List.map_congr_left (fun i _ => ?_))
  cases s.record i <;> cases t.record i <;> rfl

/-- The mass in the path when one slot changes. -/
theorem State.pathMass_change (k : Slot) (h : ∀ i, i ≠ k → pathWeight (t.record i) = pathWeight (s.record i)) :
    t.pathMass + pathWeight (s.record k) = s.pathMass + pathWeight (t.record k) := by
  rw [t.pathMass_eq, s.pathMass_eq]
  exact sum_change (f := fun i => pathWeight (t.record i)) (g := fun i => pathWeight (s.record i)) (List.nodup_finRange 256)
    (List.mem_finRange k) h

theorem State.pathMass_same (h : ∀ i, pathWeight (t.record i) = pathWeight (s.record i)) : t.pathMass = s.pathMass := by
  rw [t.pathMass_eq, s.pathMass_eq]
  exact congrArg List.sum (List.map_congr_left fun i _ => h i)

/-- Every mass in the shredder path is in its range. -/
def State.PathOk (s : State) : Prop := ∀ i, pathWeight (s.record i) ≤ 10000

theorem State.PathOk.bound (h : s.PathOk) : s.pathMass ≤ 2560000 := by
  rw [s.pathMass_eq]
  have hle := sum_le (l := List.finRange 256) (f := fun i => pathWeight (s.record i)) h
  rwa [List.length_finRange] at hle

theorem State.weight_le (k : Slot) : pathWeight (s.record k) ≤ s.pathMass := by
  rw [s.pathMass_eq]
  exact le_sum (f := fun i => pathWeight (s.record i)) (List.mem_finRange k)

/-! ### What a move does to the path and to the mass admitted -/

/-- Every LIVE slot stays LIVE. -/
def State.StaysLive (s t : State) : Prop := ∀ i, (s.record i).isSome = true → (t.record i).isSome = true

theorem State.StaysLive.trans {u : State} (h : s.StaysLive t) (k : t.StaysLive u) : s.StaysLive u := fun i hi => k i (h i hi)

/-- What a move does to the weights of the slots and to the mass admitted. -/
inductive PathMove (c : Cause) (s t : State) : Prop
  /-- Nothing. -/
  | same (hw : ∀ i, pathWeight (t.record i) = pathWeight (s.record i)) (ha : t.tallies.massAdmitted = s.tallies.massAdmitted)
  /-- A record enters the path and is counted. -/
  | enter (k : Slot) (hk : pathWeight (s.record k) = 0) (hm : c.massed → pathWeight (t.record k) ≤ 10000)
      (hw : ∀ i, i ≠ k → pathWeight (t.record i) = pathWeight (s.record i))
      (ha : t.tallies.massAdmitted = satAdd tallyMax s.tallies.massAdmitted (pathWeight (t.record k)))
  /-- A record leaves the path as shredded. -/
  | shred (k : Slot) (hk : pathWeight (t.record k) = 0) (hw : ∀ i, i ≠ k → pathWeight (t.record i) = pathWeight (s.record i))
      (ha : t.tallies.massAdmitted = s.tallies.massAdmitted) (hc : c.frees)
  /-- A record leaves the path as recovered and is taken out of the mass admitted. -/
  | recover (k : Slot) (hk : pathWeight (t.record k) = 0) (hw : ∀ i, i ≠ k → pathWeight (t.record i) = pathWeight (s.record i))
      (ha : t.tallies.massAdmitted = s.tallies.massAdmitted - pathWeight (s.record k))
  /-- A counting period begins. -/
  | recount (hw : ∀ i, pathWeight (t.record i) = pathWeight (s.record i)) (ha : t.tallies.massAdmitted = min tallyMax s.pathMass)
      (hc : c.resets)

theorem PathMove.of_slots (hs : t.slots = s.slots := by rfl) (ha : t.tallies.massAdmitted = s.tallies.massAdmitted := by rfl) :
    PathMove c s t := .same (fun i => by rw [State.record, State.record, hs]) ha

/-- A slot changed without a weight. -/
theorem PathMove.of_set {k : Slot} {o : Option Rec} (hk : pathWeight o = pathWeight (s.record k))
    (hs : ∀ i, t.record i = if i = k then o else s.record i)
    (ha : t.tallies.massAdmitted = s.tallies.massAdmitted := by rfl) : PathMove c s t := by
  refine .same (fun i => ?_) ha
  rw [hs i]
  split
  · next e => rw [hk, e]
  · rfl

theorem State.others_of_set {k : Slot} {o : Option Rec} (hs : ∀ i, t.record i = if i = k then o else s.record i) :
    ∀ i, i ≠ k → pathWeight (t.record i) = pathWeight (s.record i) := fun i hi => by rw [hs i, if_neg hi]

theorem Stage.out_of_bound {g : Stage} (h : g.bound = true) : ¬(g = .inShredder ∨ g = .shredUnconfirmed) := by
  rintro (rfl | rfl) <;> cases h

theorem State.forget_massAdmitted (s : State) (e : Entry) : (s.forget e).tallies.massAdmitted = s.tallies.massAdmitted := by
  rw [s.forget_eq e]; rfl

/-- What every move does to the path and the mass admitted, from a state that keeps the bindings. -/
theorem Move.pathMove (h : Move c s t) (hb : s.BindingLaw) : PathMove c s t := by
  cases h
  case port | attend | mask | evalAdmission | askLate | startReturn | pass | unexpected | enterChamber =>
    exact .of_slots (by simp) (by simp)
  case bind k r b y hr hw _ _ _ _ =>
    refine .of_set (o := some { r with stage := .probing, bay := some b, rebounds := 0 }) ?_ (fun i => State.record_setRecord ..)
    rw [hr, pathWeight_out (by simp), pathWeight_out (by simp [hw])]
  case release b e r q n y he hr _ hq hst _ _ _ =>
    obtain ⟨hrec, -⟩ := State.named_record hr
    obtain ⟨r', h1, -, h3, -⟩ := hb.bound b e he
    rw [hrec] at h1
    cases h1
    refine .of_set (k := e.slot) (o := some q) ?_ (fun i => ?_)
    · rw [hrec, pathWeight_out (Stage.out_of_bound h3), pathWeight_out (by rcases hst hb with k | k <;> rw [k] <;> simp)]
    · show (State.setRecord _ e.slot (some q)).record i = _
      rw [State.record_setRecord]
      split
      · rfl
      · next h => exact (State.record_setRecord ..).trans (if_neg h)
  case register k p a tag cells capacity declared mass damaged hf _ =>
    refine .of_set (o := some (newRecord p tag a cells capacity declared mass damaged)) ?_ (fun i => State.record_setRecord ..)
    rw [hf]
    exact pathWeight_out (by simp [newRecord])
  case amend k r f v hr hw =>
    obtain ⟨q, hq, hset⟩ := s.amendField_record k r f v hr
    refine .of_set ?_ hset ?_
    · rw [hr, pathWeight_out (r := q) (by simp [hq.2.1, hw]), pathWeight_out (r := r) (by simp [hw])]
    · unfold State.amendField
      split
      · split <;> rfl
      all_goals rfl
  case retire k r hr hw _ =>
    refine .of_set (o := none) ?_ (fun i => State.record_setRecord ..)
    rw [hr, pathWeight_out (by rcases hw with e | e <;> rw [e] <;> simp)]
    rfl
  case flags k r f hr _ => exact .of_set (o := some { r with flags := f }) (by rw [hr]; rfl) (fun i => State.record_setRecord ..)
  case credit k r n hr =>
    exact .of_set (o := some { r with energy := satAdd 999999 r.energy n }) (by rw [hr]; rfl) (fun i => State.record_setRecord ..)
  case stage b w r hw hr =>
    obtain ⟨hrec, -, hg⟩ := State.expect_record hr
    obtain ⟨he, hn⟩ : w.expected.bound = true ∧ w.new.bound = true := hb.writes b _ hw
    refine .of_set (o := some (w.apply r)) ?_ (fun i => State.record_setRecord ..)
    rw [hrec, pathWeight_out (r := w.apply r) (Stage.out_of_bound (by rw [(w.apply_frame r).2.2.2.2.2]; exact hn)),
      pathWeight_out (r := r) (Stage.out_of_bound (by rw [hg]; exact he))]
  case pull k r hr hw =>
    have hout : pathWeight (s.record k) = 0 := by rw [hr]; exact pathWeight_out (by rcases hw with e | e <;> rw [e] <;> simp)
    unfold State.pullFromFeed
    dsimp only
    split
    · exact .of_set (o := some { r.quarantined.returned with stage := .discharged }) (by rw [hout]; exact pathWeight_out (by simp))
        (fun i => State.record_setRecord ..)
    · exact .of_set (o := some { r.quarantined with stage := .discharged }) (by rw [hout]; exact pathWeight_out (by simp))
        (fun i => State.record_setRecord ..)
  case enqueue k r hr hw _ _ _ =>
    refine .of_set (o := some { r with stage := .queued }) ?_ (fun i => by rw [State.forget_record]; exact State.record_setRecord ..)
      (by rw [State.forget_massAdmitted]; rfl)
    rw [hr, pathWeight_out (by simp), pathWeight_out (by simp [hw])]
  case withdraw k r hr hw =>
    refine .of_set (o := some { r with stage := .discharged }) ?_ (fun i => by rw [State.forget_record]; exact State.record_setRecord ..)
      (by rw [State.forget_massAdmitted]; rfl)
    rw [hr, pathWeight_out (by simp), pathWeight_out (by simp [hw])]
  case openGate e l r f _ _ hr _ _ _ =>
    obtain ⟨hrec, -, hg⟩ := State.expect_record hr
    refine .of_set (o := some { r.admitted with stage := .atGate }) ?_ (fun i => by rw [State.forget_record]; exact State.record_setRecord ..)
      (by rw [State.forget_massAdmitted]; rfl)
    rw [hrec, pathWeight_out (by simp), pathWeight_out (by simp [hg])]
  case enterPath e r _ hr hm =>
    obtain ⟨hrec, -, hg⟩ := State.expect_record hr
    have hset : ∀ i, (s.enterPath e r false).record i = if i = e.slot then some { r with stage := .inShredder } else s.record i :=
      fun i => State.record_setRecord ..
    have hin : pathWeight ((s.enterPath e r false).record e.slot) = r.mass := by rw [hset, if_pos rfl]; exact pathWeight_in (.inl rfl)
    exact .enter e.slot (by rw [hrec, pathWeight_out (by simp [hg])]) (by rw [hin]; exact hm) (State.others_of_set hset) (by rw [hin]; rfl)
  case takenPath e r _ hr hm =>
    obtain ⟨hrec, -, hg⟩ := State.expect_record hr
    have hset : ∀ i, (s.enterPath e r true).record i = if i = e.slot then some { r with stage := .shredUnconfirmed } else s.record i :=
      fun i => State.record_setRecord ..
    have hin : pathWeight ((s.enterPath e r true).record e.slot) = r.mass := by rw [hset, if_pos rfl]; exact pathWeight_in (.inr rfl)
    exact .enter e.slot (by rw [hrec, pathWeight_out (by simp [hg])]) (by rw [hin]; exact hm) (State.others_of_set hset) (by rw [hin]; rfl)
  case giveBack e r _ hr =>
    obtain ⟨hrec, -, hg⟩ := State.expect_record hr
    refine .of_set (o := some { r.returned with stage := .queued }) ?_ (fun i => State.record_setRecord ..)
    rw [hrec, pathWeight_out (by simp), pathWeight_out (by simp [hg])]
  case shredded k r hr hw hc =>
    have hset : ∀ i, (s.retireShredded k r).record i = if i = k then none else s.record i := fun i => State.record_setRecord ..
    exact .shred k (by rw [hset, if_pos rfl]; rfl) (State.others_of_set hset) rfl hc
  case recover k r hr hw n =>
    have hset : ∀ i, (((s.setRecord k (some { r.recoveredBack with stage := .discharged })).setTallies
        { s.tallies with massAdmitted := s.tallies.massAdmitted - r.mass, residualAdmitted := n }).setFeed
          (s.feed.leavePath { slot := k, tag := r.tag })).record i
        = if i = k then some { r.recoveredBack with stage := .discharged } else s.record i := fun i => State.record_setRecord ..
    exact .recover k (by rw [hset, if_pos rfl]; exact pathWeight_out (by simp)) (State.others_of_set hset)
      (by rw [hr, pathWeight_in (.inr hw)]; rfl)
  case unconfirm k r f hr hw =>
    refine .of_set (o := some { r with stage := .shredUnconfirmed, flags := f }) ?_ (fun i => State.record_setRecord ..)
    rw [hr, pathWeight_in (.inl hw), pathWeight_in (.inr rfl)]
  case tallies hc => exact .recount (fun _ => rfl) rfl hc
  all_goals exact .of_slots

/-! ### The law of the mass admitted -/

/-- The mass admitted covers the path, whose masses are in range (R25). -/
structure State.MassLaw (s : State) : Prop where
  ok : s.PathOk
  covers : s.pathMass ≤ s.tallies.massAdmitted

theorem State.PathOk.change (h : s.PathOk) (k : Slot) (hw : ∀ i, i ≠ k → pathWeight (t.record i) = pathWeight (s.record i))
    (hk : pathWeight (t.record k) ≤ 10000) : t.PathOk := fun i => by
  by_cases e : i = k
  · rw [e]; exact hk
  · rw [hw i e]; exact h i

theorem PathMove.massLaw (h : PathMove c s t) (hc : c.massed) (hs : s.MassLaw) : t.MassLaw := by
  obtain ⟨hok, hcov⟩ := hs
  cases h with
  | same hw ha => exact ⟨fun i => hw i ▸ hok i, by rw [State.pathMass_same hw, ha]; exact hcov⟩
  | enter k hk hm hw ha =>
    have ht : t.PathOk := hok.change k hw (hm hc)
    refine ⟨ht, ?_⟩
    have h1 := State.pathMass_change k hw
    have h2 := ht.bound
    rw [hk] at h1
    rw [ha]
    unfold satAdd tallyMax
    omega
  | shred k hk hw ha _ =>
    refine ⟨hok.change k hw (by rw [hk]; exact Nat.zero_le _), ?_⟩
    have h1 := State.pathMass_change k hw
    rw [hk] at h1
    rw [ha]
    omega
  | recover k hk hw ha =>
    refine ⟨hok.change k hw (by rw [hk]; exact Nat.zero_le _), ?_⟩
    have h1 := State.pathMass_change k hw
    rw [hk] at h1
    rw [ha]
    omega
  | recount hw ha _ =>
    refine ⟨fun i => hw i ▸ hok i, ?_⟩
    have := hok.bound
    rw [State.pathMass_same hw, ha]
    unfold tallyMax
    omega

/-- The mass admitted less the mass in the path stands still, where nothing is freed and no counting period begins. -/
theorem PathMove.exact {start : State} (h : PathMove c s t) (hc : c.massed) (hr : ¬c.resets) (hf : ¬c.frees) (hs : s.MassLaw)
    (hmax : start.tallies.massAdmitted + 2560000 ≤ 4294967295)
    (he : s.tallies.massAdmitted + start.pathMass = start.tallies.massAdmitted + s.pathMass) :
    t.tallies.massAdmitted + start.pathMass = start.tallies.massAdmitted + t.pathMass := by
  cases h with
  | same hw ha => rw [State.pathMass_same hw, ha]; exact he
  | enter k hk hm hw ha =>
    have h1 := State.pathMass_change k hw
    have h2 : t.pathMass ≤ 2560000 := (hs.ok.change k hw (hm hc)).bound
    rw [hk] at h1
    rw [ha]
    unfold satAdd tallyMax
    omega
  | shred _ _ _ _ h => exact absurd h hf
  | recover k hk hw ha =>
    have h1 := State.pathMass_change k hw
    have h2 := State.weight_le (s := s) k
    have h3 := hs.covers
    rw [hk] at h1
    rw [ha]
    omega
  | recount _ _ h => exact absurd h hr

/-! ### The live slots -/

theorem State.StaysLive.of_slots (hs : t.slots = s.slots := by rfl) : s.StaysLive t := fun i hi => by
  rw [State.record, hs]; exact hi

theorem State.StaysLive.of_set {k : Slot} {q : Rec} (hs : ∀ i, t.record i = if i = k then some q else s.record i) :
    s.StaysLive t := fun i hi => by
  rw [hs i]
  split
  · rfl
  · exact hi

/-- Without a request or write that frees one, every LIVE slot stays LIVE. -/
theorem Move.staysLive (h : Move c s t) (hc : ¬c.frees) : s.StaysLive t := by
  cases h
  case port | attend | mask | evalAdmission | askLate | startReturn | pass | unexpected | enterChamber => exact .of_slots (by simp)
  case bind k r b y _ _ _ _ _ _ =>
    exact .of_set (q := { r with stage := .probing, bay := some b, rebounds := 0 }) (fun i => State.record_setRecord ..)
  case release b e r q n y _ _ _ _ _ _ _ _ =>
    refine .of_set (k := e.slot) (q := q) (fun i => ?_)
    show (State.setRecord _ e.slot (some q)).record i = _
    rw [State.record_setRecord]
    split
    · rfl
    · next h => exact (State.record_setRecord ..).trans (if_neg h)
  case register k p a tag cells capacity declared mass damaged _ _ =>
    exact .of_set (q := newRecord p tag a cells capacity declared mass damaged) (fun i => State.record_setRecord ..)
  case amend k r f v hr _ =>
    obtain ⟨q, -, hset⟩ := s.amendField_record k r f v hr
    exact .of_set hset
  case retire k r _ _ h => exact absurd h hc
  case flags k r f _ _ => exact .of_set (q := { r with flags := f }) (fun i => State.record_setRecord ..)
  case credit k r n _ => exact .of_set (q := { r with energy := satAdd 999999 r.energy n }) (fun i => State.record_setRecord ..)
  case stage b w r _ _ => exact .of_set (q := w.apply r) (fun i => State.record_setRecord ..)
  case pull k r _ _ =>
    unfold State.pullFromFeed
    dsimp only
    split
    · exact .of_set (q := { r.quarantined.returned with stage := .discharged }) (fun i => State.record_setRecord ..)
    · exact .of_set (q := { r.quarantined with stage := .discharged }) (fun i => State.record_setRecord ..)
  case enqueue k r _ _ _ _ _ =>
    exact .of_set (q := { r with stage := .queued }) (fun i => by rw [State.forget_record]; exact State.record_setRecord ..)
  case withdraw k r _ _ =>
    exact .of_set (q := { r with stage := .discharged }) (fun i => by rw [State.forget_record]; exact State.record_setRecord ..)
  case openGate e l r f _ _ _ _ _ _ =>
    exact .of_set (q := { r.admitted with stage := .atGate }) (fun i => by rw [State.forget_record]; exact State.record_setRecord ..)
  case enterPath e r _ _ _ => exact .of_set (q := { r with stage := .inShredder }) (fun i => State.record_setRecord ..)
  case takenPath e r _ _ _ => exact .of_set (q := { r with stage := .shredUnconfirmed }) (fun i => State.record_setRecord ..)
  case giveBack e r _ _ => exact .of_set (q := { r.returned with stage := .queued }) (fun i => State.record_setRecord ..)
  case shredded k r _ _ h => exact absurd h hc
  case recover k r _ _ n => exact .of_set (q := { r.recoveredBack with stage := .discharged }) (fun i => State.record_setRecord ..)
  case unconfirm k r f _ _ =>
    exact .of_set (q := { r with stage := .shredUnconfirmed, flags := f }) (fun i => State.record_setRecord ..)
  all_goals exact .of_slots

/-! ### The end of a step -/

theorem pathWeight_reconciled {r q : Rec} (h : q.core = r.reconciled.core) : pathWeight (some q) = pathWeight (some r) := by
  simp only [Rec.core, Prod.mk.injEq] at h
  obtain ⟨-, -, hm, hst, -, -⟩ := h
  have hmass : r.reconciled.mass = r.mass := by unfold Rec.reconciled; split <;> rfl
  unfold pathWeight
  dsimp only
  rw [hst, hm, hmass]
  unfold Rec.reconciled
  split <;> next hg => simp [hg]

/-- Whether a slot is LIVE, and what its record weighs in the shredder path, through a reconciliation (R29). -/
theorem State.reconcile_weights (s : State) (i : Slot) :
    (s.reconcile.record i).isSome = (s.record i).isSome ∧ pathWeight (s.reconcile.record i) = pathWeight (s.record i) := by
  cases h : s.record i with
  | none =>
    cases hq : s.reconcile.record i with
    | none => exact ⟨rfl, rfl⟩
    | some q =>
      obtain ⟨r, hr, -⟩ := State.reconcile_record_some hq
      rw [h] at hr; cases hr
  | some r =>
    obtain ⟨q, hq, he⟩ := State.reconcile_record_of_some h
    rw [hq]
    exact ⟨rfl, pathWeight_reconciled he⟩

theorem State.with_phase_massAdmitted (s : State) (p : Phase) :
    ({ s with phase := p } : State).tallies.massAdmitted = s.tallies.massAdmitted := rfl

/-- The choice of a cold start. -/
def Cause.cold (c : Cause) (s : State) : Prop :=
  (c.front = some .powerUp ∨ c.front = some .resetRelease) ∧ s.retention = false

/-- The end of a step moves no weight and frees no slot, unless it chooses a cold start, which empties the table. -/
theorem Last.weights (h : Last c s t) : (∀ i, (t.record i).isSome = (s.record i).isSome ∧ pathWeight (t.record i) = pathWeight (s.record i))
    ∧ t.tallies.massAdmitted = s.tallies.massAdmitted ∨ c.cold s ∧ ∀ i, pathWeight (t.record i) = 0 := by
  cases h with
  | wait p req => exact .inl ⟨fun i => by simp, by simp⟩
  | warm _ =>
    have ht : s.stopMain.reconcile.tallies.massAdmitted = s.tallies.massAdmitted := by
      have := s.stopMain.reconcile_recordTallies
      simp only [State.recordTallies, Prod.mk.injEq] at this
      exact this.2.2.2
    refine .inl ⟨fun i => ?_, (State.with_phase_massAdmitted _ _).trans ht⟩
    rw [State.with_phase_record]
    exact s.stopMain.reconcile_weights i
  | cold hi hr =>
    refine .inr ⟨⟨hi, hr⟩, fun i => ?_⟩
    rw [s.stopMain.cold_record]
    rfl
  | finish k _ =>
    exact .inl ⟨fun i => by rw [s.completeStart_record]; exact ⟨rfl, rfl⟩,
      congrArg Tallies.massAdmitted (State.completeStart_frame State.tallies (fun _ _ _ => rfl) k (fun _ _ _ _ _ => rfl) s)⟩
  | stop _ _ | offReset _ | retention _ => exact .inl ⟨fun _ => ⟨rfl, rfl⟩, rfl⟩

theorem Last.massLaw (h : Last c s t) (hs : s.MassLaw) : t.MassLaw := by
  rcases h.weights with ⟨hw, ha⟩ | ⟨-, hw⟩
  · exact ⟨fun i => (hw i).2 ▸ hs.ok i, by rw [State.pathMass_same (fun i => (hw i).2), ha]; exact hs.covers⟩
  · have hz : t.pathMass = 0 := by rw [t.pathMass_eq]; exact sum_zero hw
    exact ⟨fun i => by rw [hw i]; exact Nat.zero_le _, by rw [hz]; exact Nat.zero_le _⟩

/-! ### What a step retires as shredded -/

/-- The books balance from one state to another: the mass admitted less the mass in the path rises by the mass retired shredded
(R25). -/
def State.Balances (s t : State) : Prop :=
  t.tallies.massAdmitted + s.pathMass = s.tallies.massAdmitted + t.pathMass + s.shreddedMass t

theorem State.Balances.of_eq {u : State} (h : s.Balances u) (hs : t.slots = u.slots)
    (ha : t.tallies.massAdmitted = u.tallies.massAdmitted) : s.Balances t := by
  have hp : t.pathMass = u.pathMass := by unfold State.pathMass; rw [hs]
  have hd : s.shreddedMass t = s.shreddedMass u := by unfold State.shreddedMass State.record; rw [hs]
  unfold State.Balances
  rw [ha, hp, hd]
  exact h

/-- Where the LIVE slots stay LIVE nothing is retired. -/
theorem State.StaysLive.nothing_shredded (h : s.StaysLive t) : s.shreddedMass t = 0 := by
  rw [s.shreddedMass_eq]
  refine sum_zero fun i => ?_
  split
  · next hn =>
    cases hr : s.record i with
    | none => rfl
    | some r =>
      have := h i (by rw [hr]; rfl)
      rw [hn] at this
      cases this
  · rfl

theorem State.StaysLive.balances (h : s.StaysLive t) (he : t.tallies.massAdmitted + s.pathMass = s.tallies.massAdmitted + t.pathMass) :
    s.Balances t := by
  unfold State.Balances
  rw [h.nothing_shredded]
  exact he

theorem State.Balances.refl (hs : t.slots = s.slots) (ha : t.tallies.massAdmitted = s.tallies.massAdmitted) : s.Balances t :=
  (State.StaysLive.of_slots hs).balances (by
    have hp : t.pathMass = s.pathMass := by unfold State.pathMass; rw [hs]
    rw [ha, hp])

/-- One slot freed: what it weighed in the path is retired, and leaves it. -/
theorem State.Balances.free {k : Slot} (hs : ∀ i, t.record i = if i = k then none else s.record i)
    (ha : t.tallies.massAdmitted = s.tallies.massAdmitted) : s.Balances t := by
  have h1 := State.pathMass_change k (State.others_of_set hs)
  have h2 : s.shreddedMass t = pathWeight (s.record k) := by
    have hsum := sum_change (f := fun i => if t.record i = none then pathWeight (s.record i) else 0) (g := fun _ => 0)
      (List.nodup_finRange 256) (List.mem_finRange k) fun i hi => by
        rw [hs i, if_neg hi]
        split
        · next hn => rw [hn]; rfl
        · rfl
    rw [sum_zero fun _ => rfl] at hsum
    rw [hs k, if_pos rfl, if_pos rfl] at hsum
    rw [s.shreddedMass_eq]
    omega
  have hz : pathWeight (t.record k) = 0 := by rw [hs k, if_pos rfl]; rfl
  unfold State.Balances
  rw [h2, ha]
  omega

/-- A property that a request on a record has, refused or carried out. -/
theorem State.onRecord_holds {P : State → Prop} (p : Port) (o : Option Slot) {f : Slot → Rec → Reply × State} (hs : P s)
    (h : ∀ k r, s.record k = some r → P (f k r).2) : P (s.onRecord p o f).2 := by
  unfold State.onRecord
  split
  · exact hs
  · split
    · exact hs
    · next k =>
      split
      · exact hs
      · next r hv =>
        have hr : s.record k = some r := by
          unfold State.visible at hv
          split at hv
          · exact hv
          · cases hv
        split
        · exact h k r hr
        · exact hs

theorem State.anyRecord_holds {P : State → Prop} (tag : Nat) {f : Slot → Rec → Reply × State} (hs : P s)
    (h : ∀ k r, s.record k = some r → P (f k r).2) : P (s.anyRecord tag f).2 := by
  unfold State.anyRecord
  split
  · exact hs
  · split
    · exact hs
    · next hr => exact h _ _ hr

theorem State.grantRetire_balances (s : State) (p : Port) (tag : Nat) : s.Balances (s.grantRetire p tag).2 := by
  refine State.onRecord_holds p _ (.refl rfl rfl) (fun k r _ => ?_)
  split
  · exact .refl rfl rfl
  · split
    · exact .refl rfl rfl
    · exact .free (k := k) (fun i => State.record_setRecord ..) rfl

theorem State.grantConfirm_balances (h : s.MassLaw) (tag outcome : Nat) : s.Balances (s.grantConfirm tag outcome).2 := by
  refine State.anyRecord_holds tag (.refl rfl rfl) (fun k r hr => ?_)
  dsimp only
  split
  · exact .refl rfl rfl
  · next hw =>
    have hw : r.stage = .shredUnconfirmed := by simpa using hw
    split
    · exact (State.Balances.free (s := s) (t := s.retireShredded k r) (k := k) (fun i => State.record_setRecord ..) rfl).of_eq
        (by rw [State.evalAdmission_slots]; rfl) (by rw [State.evalAdmission_tallies]; rfl)
    · obtain ⟨u, hu⟩ : ∃ u, u = ((s.setRecord k (some { r.recoveredBack with stage := .discharged })).setTallies
          { s.tallies with massAdmitted := s.tallies.massAdmitted - r.mass
                           residualAdmitted := s.tallies.residualAdmitted - s.feed.admitted k }).setFeed
                             (s.feed.leavePath { slot := k, tag := r.tag }) := ⟨_, rfl⟩
      have hset : ∀ i, u.record i = if i = k then some { r.recoveredBack with stage := .discharged } else s.record i := fun i => by
        rw [hu]; exact State.record_setRecord ..
      have hmass : u.tallies.massAdmitted = s.tallies.massAdmitted - r.mass := by rw [hu]; rfl
      have hbal : s.Balances u := by
        refine (State.StaysLive.of_set hset).balances ?_
        have h1 := State.pathMass_change k (State.others_of_set hset)
        have h2 := State.weight_le (s := s) k
        have h3 := h.covers
        rw [hset k, if_pos rfl, hr, pathWeight_in (.inr hw), pathWeight_out (by simp)] at h1
        rw [hr, pathWeight_in (.inr hw)] at h2
        rw [hmass]
        omega
      rw [← hu]
      exact hbal.of_eq (by rw [State.evalAdmission_slots]) (by rw [State.evalAdmission_tallies])

theorem State.makeRetirement_balances (s : State) (e : Entry) : s.Balances (s.makeRetirement e) := by
  unfold State.makeRetirement
  split
  · exact .free (k := e.slot) (fun i => State.record_setRecord ..) rfl
  · exact .refl rfl rfl

/-- No request waits on a port. -/
def State.NoneWaits (s : State) : Prop := ∀ p, (s.port p).waitingRequest = none

theorem Moves.noneWaits (h : Moves c s t) (hs : s.NoneWaits) : t.NoneWaits := fun p => by
  cases hw : (t.port p).waitingRequest with
  | none => rfl
  | some req => exact absurd ((hs p).symm.trans (h.waiting hw)) (by simp)

/-- With no request waiting the end of a grant moves the arbiter alone. -/
theorem State.endGrant_noneWaits (h : s.NoneWaits) (n : Nat) : ∃ a, s.endGrant n = s.setAccess a := by
  cases n with
  | zero => exact ⟨_, rfl⟩
  | succ n =>
    unfold State.endGrant
    split
    · rw [h]; exact ⟨_, rfl⟩
    · exact ⟨_, rfl⟩
    · exact ⟨_, rfl⟩

/-- A request that takes a grant balances the books when its grant does. -/
theorem State.granted_balances (p : Port) (req : Instr) (hn : s.NoneWaits)
    (hg : ∀ rep, serveGrant req (s.setAccess (.port p)) = some rep → (s.setAccess (.port p)).Balances rep.2) :
    s.Balances (s.granted p req) := by
  have same : ∀ u : State, u.slots = s.slots → u.tallies = s.tallies → s.Balances u := fun u h1 h2 => .refl h1 (by rw [h2])
  unfold State.granted State.receive
  split
  · exact .refl rfl rfl
  · next htakes =>
    split
    · exact same _ (by simp [State.countOverrun]) (by simp [State.countOverrun])
    · split
      · exact same _ (by simp [State.answer]) (by simp [State.answer])
      · split
        · exact same _ (by simp [State.answer]) (by simp [State.answer])
        · unfold State.reachArbiter
          dsimp only
          split
          · next hpark =>
            have hrun : s.running = true := by
              unfold State.takesFrame at htakes
              simp at htakes
              exact htakes.1
            obtain ⟨d, hd⟩ : ∃ d : Cause, d = Cause.any s := ⟨_, rfl⟩
            have hm : Moves d s ((s.setAccess (.port p)).grantPort p req) :=
              (Moves.one (.access s (.port p) (fun h => by cases h))).trans
                (Moves.grantPort p hrun (fun k => by rw [hd] at k; exact k.elim) (fun k => by rw [hd] at k; exact k.elim)
                  (by rw [hd]; exact ⟨fun _ _ => trivial, fun _ => trivial⟩))
            obtain ⟨a, ha⟩ := State.endGrant_noneWaits (hm.noneWaits hn) 2
            rw [ha]
            have hbal : s.Balances ((s.setAccess (.port p)).grantPort p req) := by
              unfold State.grantPort
              split
              · next rep hrep =>
                exact State.Balances.of_eq (t := rep.2.answer p req.code rep.1) (hg rep hrep) (by simp [State.answer]) (by simp [State.answer])
              · exact same _ rfl rfl
            exact hbal
          all_goals exact same _ (by simp) (by simp)

theorem State.grantRetirement_balances (s : State) (hn : s.NoneWaits) : s.Balances s.grantRetirement := by
  unfold State.grantRetirement
  split
  · next e l hw =>
    unfold State.feedGrant State.engineGrant
    split
    · next hrun =>
      obtain ⟨d, hd⟩ : ∃ d : Cause, d = Cause.any s := ⟨_, rfl⟩
      have hm : Moves d s (s.popFeed.makeRetirement e).evalAdmission :=
        (Moves.popFeed.trans (Moves.makeRetirement e (by rw [hd]; exact trivial))).trans Moves.evalAdmission
      obtain ⟨a, ha⟩ := State.endGrant_noneWaits (hm.noneWaits hn) 2
      rw [ha]
      have hbal : s.Balances (s.popFeed.makeRetirement e) := s.popFeed.makeRetirement_balances e
      exact hbal.of_eq (by show (State.evalAdmission _).slots = _; simp) (by show (State.evalAdmission _).tallies.massAdmitted = _; simp)
    · exact .refl rfl rfl
  · exact .refl rfl rfl

/-! ### Every step -/

/-- The commands that free no slot and begin no counting period. -/
def Cause.bare (s : State) : Cause :=
  { front := s.pending.head?, calm := False, massed := True, resets := False, frees := False }

theorem State.MassesOk.massLaw (hm : s.MassesOk) (hc : s.pathMass ≤ s.tallies.massAdmitted) : s.MassLaw := by
  refine ⟨fun i => ?_, hc⟩
  cases hr : s.record i with
  | none => exact Nat.zero_le _
  | some r =>
    unfold pathWeight
    dsimp only
    split
    · exact hm i r hr
    · exact Nat.zero_le _

/-- The law of the mass admitted, kept with the bindings by every step (R25). -/
theorem massLaw_kept (hb : s.BindingLaw) (hm : s.MassesOk) (hc : s.pathMass ≤ s.tallies.massAdmitted) (h : step s = .next t) :
    t.MassLaw := by
  obtain ⟨u, hu, hlast⟩ := step_steps (c := { Cause.any s with massed := True }) h rfl
    ⟨fun k => k.elim, fun _ => hm, fun _ _ _ => ⟨fun _ _ => trivial, fun _ => trivial⟩⟩ (fun _ _ => ⟨fun _ _ => trivial, fun _ => trivial⟩)
  obtain ⟨-, h2⟩ : u.BindingLaw ∧ u.MassLaw := hu.keeps (law := fun v => v.BindingLaw ∧ v.MassLaw)
    (fun v w k hv => ⟨k.bindingLaw hv.1, (k.pathMove hv.1).massLaw trivial hv.2⟩)
    ⟨hb.with_pending _, State.MassesOk.massLaw (s := s.taken) hm hc⟩
  rcases hlast with rfl | k
  · exact h2
  · exact k.massLaw h2

/-- A step that frees no slot balances the books. -/
theorem bare_step_balances (hb : s.BindingLaw) (hm : s.MassesOk) (hc : s.pathMass ≤ s.tallies.massAdmitted)
    (hmax : s.tallies.massAdmitted + 2560000 ≤ 4294967295) (hn : s.NoneWaits) (hcount : ¬s.countsAnew)
    (hfree : ∀ i, s.pending.head? = some i → freesSlot i = false) (h : step s = .next t) : s.Balances t := by
  have hfront : ∀ i, s.pending.head? = some i → ∃ rest, s.pending = i :: rest := fun i hi => by
    cases hp : s.pending with
    | nil => rw [hp] at hi; cases hi
    | cons j rest => rw [hp] at hi; cases hi; exact ⟨rest, rfl⟩
  obtain ⟨u, hu, hlast⟩ := step_steps (c := .bare s) h rfl
    ⟨fun k => k.elim, fun _ => hm, fun p req hw => absurd ((hn p).symm.trans hw) (by simp)⟩
    (fun i hi => ⟨fun p e => hcount (by obtain ⟨rest, hp⟩ := hfront i hi; exact ⟨i, rest, hp, .inl ⟨p, e⟩⟩),
      fun k => absurd ((hfree i hi).symm.trans k) (by simp)⟩)
  have hinv : u.BindingLaw ∧ u.MassLaw ∧ u.tallies.massAdmitted + s.taken.pathMass = s.taken.tallies.massAdmitted + u.pathMass
      ∧ s.taken.StaysLive u ∧ u.retention = s.taken.retention :=
    hu.keeps (law := fun v => v.BindingLaw ∧ v.MassLaw
        ∧ v.tallies.massAdmitted + s.taken.pathMass = s.taken.tallies.massAdmitted + v.pathMass ∧ s.taken.StaysLive v
        ∧ v.retention = s.taken.retention)
      (fun v w k ⟨h1, h2, h3, h4, h5⟩ => ⟨k.bindingLaw h1, (k.pathMove h1).massLaw trivial h2,
        (k.pathMove h1).exact trivial (fun f => f) (fun f => f) h2 hmax h3, h4.trans (k.staysLive (fun f => f)), k.retention.trans h5⟩)
      ⟨hb.with_pending _, State.MassesOk.massLaw (s := s.taken) hm hc, rfl, .of_slots, rfl⟩
  obtain ⟨-, -, h3, h4, h5⟩ := hinv
  have hu : s.Balances u := State.StaysLive.balances (s := s.taken) h4 h3
  rcases hlast with rfl | k
  · exact hu
  · rcases k.weights with ⟨hw, ha⟩ | ⟨⟨hi, hr⟩, -⟩
    · have hlive : s.StaysLive t := fun i hi => (hw i).1.trans (h4 i hi)
      refine hlive.balances ?_
      rw [ha, State.pathMass_same (fun i => (hw i).2)]
      exact h3
    · refine absurd ?_ hcount
      have hret : s.retention = false := h5.symm.trans hr
      rcases hi with hi | hi
      · obtain ⟨rest, hp⟩ := hfront _ hi
        exact ⟨_, rest, hp, .inr ⟨.inl rfl, hret⟩⟩
      · obtain ⟨rest, hp⟩ := hfront _ hi
        exact ⟨_, rest, hp, .inr ⟨.inr rfl, hret⟩⟩

/-- A command that frees a slot balances the books. -/
theorem exec_freesSlot_balances {i : Instr} (hi : freesSlot i = true) (hs : s.MassLaw) (hn : s.NoneWaits) (h : exec i s = .next t) :
    s.Balances t := by
  unfold freesSlot at hi
  split at hi
  · next p tag =>
    cases h
    exact State.granted_balances p _ hn (fun rep hrep => by cases hrep; exact State.grantRetire_balances _ p tag)
  · next p tag outcome =>
    cases h
    exact State.granted_balances p _ hn (fun rep hrep => by
      cases hrep; exact State.grantConfirm_balances (s := s.setAccess (.port p)) ⟨hs.ok, hs.covers⟩ tag outcome)
  · cases h
    exact s.grantRetirement_balances hn
  · cases hi

theorem step_balances (hb : s.BindingLaw) (hm : s.MassesOk) (hc : s.pathMass ≤ s.tallies.massAdmitted)
    (hmax : s.tallies.massAdmitted + 2560000 ≤ 4294967295) (hn : s.NoneWaits) (hcount : ¬s.countsAnew) (h : step s = .next t) :
    s.Balances t := by
  by_cases hfree : ∀ i, s.pending.head? = some i → freesSlot i = false
  · exact bare_step_balances hb hm hc hmax hn hcount hfree h
  · obtain ⟨i, hi, hf⟩ : ∃ i, s.pending.head? = some i ∧ freesSlot i = true := by
      refine Classical.byContradiction fun hn => hfree fun i hi => ?_
      exact Bool.eq_false_iff.mpr fun hf => hn ⟨i, hi, hf⟩
    cases hp : s.pending with
    | nil => rw [hp] at hi; cases hi
    | cons j rest =>
      rw [hp] at hi
      cases hi
      unfold step at h
      rw [hp] at h
      have hlaw := State.MassesOk.massLaw (s := s.taken) hm hc
      have ht : s.taken = { s with pending := rest } := by simp [State.taken, hp]
      rw [ht] at hlaw
      exact exec_freesSlot_balances (s := { s with pending := rest }) hf hlaw hn h

/-- Settles O7: each move counts what it registers, retires and admits; the three commands that free a slot retire what they
free. -/
theorem talliesAccountForEveryRecord : Obligations.TalliesAccountForEveryRecord :=
  ⟨kept_of_moves (fun _ _ h => h) (fun _ _ _ h => h.custody.tallyLaw) (fun _ _ _ h => h.custody.tallyLaw),
    fun _ _ hb hm hc h => ⟨(massLaw_kept hb hm hc h).covers, fun hmax hl hp hcount =>
      step_balances hb hm hc hmax (fun p => by cases p <;> assumption) hcount h⟩⟩

end Sys2Proof.Machine
end

section
/-!
PROOFS. The machine's commands one by one (R32, section 4 of the scope), and the values that reset leaves.
-/

namespace Sys2Proof.Machine

variable {c : Cause} {s t : State}

/-- Settles O1: the front command is taken with the rest of the queue. -/
theorem stepRunsTheFrontCommand : Obligations.StepRunsTheFrontCommand := fun _ _ _ => rfl

/-! ### The queue of commands -/

theorem State.pullFromFeed_pending (s : State) (k : Slot) (r : Rec) : (s.pullFromFeed k r).pending = s.pending := by
  unfold State.pullFromFeed
  dsimp only
  split <;> rfl

theorem State.amendField_pending (s : State) (k : Slot) (r : Rec) (f : OpField) (v : Nat) :
    (s.amendField k r f v).pending = s.pending := by
  unfold State.amendField
  split
  · split <;> rfl
  all_goals rfl

/-- No move touches the queue. -/
theorem Move.pending (h : Move c s t) : t.pending = s.pending := by
  cases h
  case port | attend | mask | evalAdmission | askLate | startReturn | pass | unexpected | enterChamber | enqueue | withdraw => simp
  case openGate => simp [State.popFeed]
  case amend k r f v _ _ => exact s.amendField_pending k r f v
  case pull k r _ _ => exact s.pullFromFeed_pending k r
  all_goals rfl

theorem Moves.pending (h : Moves c s t) : t.pending = s.pending := by
  induction h with
  | refl => rfl
  | tail _ k ih => exact k.pending.trans ih

theorem State.with_phase_pending (s : State) (p : Phase) : ({ s with phase := p } : State).pending = s.pending := rfl

theorem Last.pending (h : Last c s t) : t.pending = s.pending := by
  cases h with
  | wait p req => simp
  | warm _ => rw [State.with_phase_pending, State.reconcile_pending]; rfl
  | cold _ _ => rfl
  | finish k _ => exact State.completeStart_frame State.pending (fun _ _ _ => rfl) k (fun _ _ _ _ _ => rfl) s
  | stop _ _ | offReset _ | retention _ => rfl

/-- Settles O3: every command is a chain of moves, and none touches the queue. -/
theorem everyCommandAnswersAndKeepsTheQueue : Obligations.EveryCommandAnswersAndKeepsTheQueue := by
  intro i s
  obtain ⟨t, ht, u, hu, hlast⟩ := exec_steps (c := { front := some i, calm := False, massed := False, resets := True, frees := True })
    i s rfl ⟨fun k => k.elim, fun k => k.elim, fun _ _ _ => ⟨fun _ _ => trivial, fun _ => trivial⟩⟩
    ⟨fun _ _ => trivial, fun _ => trivial⟩
  refine ⟨t, ht, ?_⟩
  rcases hlast with rfl | k
  · exact hu.pending
  · exact k.pending.trans hu.pending

/-! ### Reset -/

theorem State.reset_record (i : Slot) : State.reset.record i = none := Bank.get_fill i none

theorem State.reset_bay (b : BayId) : State.reset.bay b = {} := Bank.get_fill b ({} : Bay)

theorem State.reset_bayCfg (b : BayId) : State.reset.bayCfg b = {} := Bank.get_fill b ({} : BayCfg)

theorem State.reset_zone (z : ZoneId) : State.reset.zone z = {} := Bank.get_fill z ({} : Zone)

theorem State.reset_liveCount : State.reset.liveCount = 0 := by
  refine List.countP_eq_zero.mpr (fun o ho => ?_)
  rw [List.eq_of_mem_replicate ho]
  simp

theorem State.reset_noWrites : State.reset.NoWrites := ⟨rfl, rfl, fun b => by rw [State.reset_bay]⟩

/-- Settles O4: every bank of the reset state holds one value in every place. -/
theorem resetLeavesTheColdStartValues : Obligations.ResetLeavesTheColdStartValues := by
  refine ⟨rfl, rfl, rfl, rfl, State.reset_record, State.reset_liveCount, rfl, rfl, rfl, rfl, State.reset_noWrites, fun b => ?_,
    rfl, rfl, rfl, rfl, rfl, rfl, rfl, rfl, rfl, rfl, rfl, rfl, rfl, rfl, rfl, fun z => ?_, fun d => Bank.get_fill d none,
    fun k => ⟨Bank.get_fill (n := 8) k none, Bank.get_fill (n := 8) k 0⟩, fun b => ?_, rfl, rfl, rfl, rfl, rfl, rfl, rfl, rfl, rfl, rfl, rfl, rfl, rfl⟩
  · rw [State.reset_bay]
    exact ⟨rfl, rfl, rfl, rfl, rfl, rfl, rfl, rfl, rfl, rfl, rfl, rfl, rfl, rfl, rfl, rfl⟩
  · rw [State.reset_zone]
    exact ⟨rfl, rfl, rfl⟩
  · rw [State.reset_bayCfg]

theorem State.reset_yard : State.reset.yard
    = { marks := fun _ => none, queue := [], path := [], gate := none, waiting := false, memory := none, writes := [] } :=
  Yard.ext (funext fun i => congrArg feedMark (State.reset_record i)) rfl rfl rfl rfl rfl rfl

theorem State.reset_bindingLaw : State.reset.BindingLaw where
  bound b e h := by rw [State.reset_bay] at h; cases h
  named i r b h := by rw [State.reset_record] at h; cases h
  stages i r h := by rw [State.reset_record] at h; cases h
  unbound _ b _ := by rw [State.reset_bay]
  faulted _ b h := by rw [State.reset_bay] at h; cases h
  starting _ _ b := by rw [State.reset_bay]
  writes b w h := by rw [State.reset_bay] at h; cases h

/-- Settles O17: with no record, no binding and nothing waiting every law holds of empty lists. -/
theorem theLawsHoldAtReset : Obligations.TheLawsHoldAtReset := by
  refine ⟨fun i j r q h => ?_, ⟨Nat.zero_le _, .inr ?_⟩, fun k => ?_, fun b => ?_, fun b => ?_, ⟨fun _ => ?_, fun h => ?_⟩,
    ⟨⟨fun _ => rfl, fun h => ?_⟩, ⟨fun _ => rfl, fun h => ?_⟩⟩, ?_, ?_, State.reset_bindingLaw, fun i r h => ?_, ?_⟩
  · rw [State.reset_record] at h; cases h
  · rw [State.reset_liveCount]; rfl
  · refine (Bank.get_fill (n := 8) k 0).trans (Eq.symm (List.countP_eq_zero.mpr (fun o ho => ?_)))
    rw [List.eq_of_mem_replicate ho]
    simp
  · rw [State.reset_bay, State.reset_bayCfg]; exact Bay.levelLegal_start
  · rw [State.reset_bay]; exact ⟨by decide, fun _ => rfl⟩
  · exact ⟨rfl, rfl, rfl, rfl, rfl, fun h => by cases h⟩
  iterate 3 cases h
  · exact State.ZonesVoted.retained (fun z => ⟨{}, State.reset_zone z⟩) (fun d => Bank.get_fill d ({} : Detector))
      (fun b => by rw [State.reset_bay])
  · rw [State.feedLaw_iff, State.reset_yard]
    exact ⟨Yard.ok_empty, fun _ => rfl⟩
  · rw [State.reset_record] at h; cases h
  · rw [State.pathMass_eq, sum_zero (fun i => by rw [State.reset_record]; rfl)]
    exact Nat.zero_le _

end Sys2Proof.Machine
end

section
/-!
PROOFS. The end of one period (log entries 1 and 9): each timer by itself, and what a period leaves of the lock.
-/

namespace Sys2Proof.Machine

variable {c : Cause} {s t : State}

/-! ### The lock through the operations of a period -/

@[simp] theorem State.wake_lock (s : State) (e : Engine) : (s.wake e).arb.lock = s.arb.lock := by
  rw [State.wake_eq]; split <;> rfl

@[simp] theorem State.askBay_lock (s : State) (b : BayId) (w : BayWrite) : (s.askBay b w).arb.lock = s.arb.lock := by
  simp [State.askBay]

@[simp] theorem State.askFeed_lock (s : State) (w : FeedWrite) : (s.askFeed w).arb.lock = s.arb.lock := by simp [State.askFeed]

@[simp] theorem State.askSweep_lock (s : State) (z : ZoneId) : (s.askSweep z).arb.lock = s.arb.lock := by simp [State.askSweep]

@[simp] theorem State.evalAdmission_lock (s : State) : s.evalAdmission.arb.lock = s.arb.lock := by
  unfold State.evalAdmission
  split
  · split <;> simp
  · rfl

@[simp] theorem State.startReturn_lock (s : State) : s.startReturn.arb.lock = s.arb.lock := by
  unfold State.startReturn
  split <;> simp

@[simp] theorem State.loseShred_lock (s : State) : s.loseShred.arb.lock = s.arb.lock := by
  unfold State.loseShred
  split <;> simp

@[simp] theorem State.feedChamberReport_lock (s : State) (x y : ChamberState) : (s.feedChamberReport x y).arb.lock = s.arb.lock := by
  unfold State.feedChamberReport
  dsimp only
  rw [State.evalAdmission_lock]
  split
  · split <;> simp
  · rfl

@[simp] theorem State.enterChamber_lock (s : State) (g : ChamberState) : (s.enterChamber g).arb.lock = s.arb.lock := by
  unfold State.enterChamber
  split <;> simp

@[simp] theorem State.recompute_lock (s : State) (x : Bool) : (s.recompute x).arb.lock = s.arb.lock := by
  unfold State.recompute
  dsimp only
  repeat' split
  all_goals simp

@[simp] theorem State.askUnbind_lock (s : State) (b : BayId) (g h : Stage) (r : Option (Nat × Nat)) (l : Bool) :
    (s.askUnbind b g h r l).arb.lock = s.arb.lock := by
  unfold State.askUnbind
  split <;> simp

@[simp] theorem State.askStage_lock (s : State) (b : BayId) (g h : Stage) (r : Option (Nat × Nat)) :
    (s.askStage b g h r).arb.lock = s.arb.lock := by
  unfold State.askStage
  split <;> simp

@[simp] theorem State.takeFault_lock (s : State) (b : BayId) (f : FaultCause) : (s.takeFault b f).arb.lock = s.arb.lock := by
  unfold State.takeFault
  dsimp only
  split
  · split
    · simp
    · rw [State.raiseFault_arb]
      split <;> simp
  · simp

@[simp] theorem State.chamberFire_lock (s : State) : s.chamberFire.arb.lock = s.arb.lock := by
  unfold State.chamberFire
  split <;> simp

@[simp] theorem State.enterAlarm_lock (s : State) (z : ZoneId) : (s.enterAlarm z).arb.lock = s.arb.lock := by
  have hf := foldl_frame (fun t => t.arb.lock) (fun t b => t.addHold b .zoneAlarm) (fun t b => by simp) (zoneBays z)
  unfold State.enterAlarm
  dsimp only
  rw [State.raiseZone_arb]
  split <;> split <;> split <;> simp [hf]

@[simp] theorem State.vote_lock (s : State) (z : ZoneId) : (s.vote z).arb.lock = s.arb.lock := by
  have hraise : ∀ (p : Prop) [Decidable p] (u : State), (if p then u else u.raiseZone z 0).arb.lock = u.arb.lock :=
    fun p _ u => by split <;> simp
  unfold State.vote
  dsimp only
  split
  · rw [State.enterAlarm_lock, hraise, State.setZone_arb]
  · rw [hraise, State.setZone_arb]

@[simp] theorem State.channelMoved_lock (s : State) (z : ZoneId) (m : BitVec 32) (x y : ChanState) :
    (s.channelMoved z m x y).arb.lock = s.arb.lock := by
  unfold State.channelMoved
  split <;> simp

@[simp] theorem State.packLost_lock (s : State) (b : BayId) : (s.packLost b).arb.lock = s.arb.lock := by
  unfold State.packLost State.movePack
  split <;> simp

@[simp] theorem State.loseLink_lock (s : State) (b : BayId) : (s.loseLink b).arb.lock = s.arb.lock := by
  unfold State.loseLink
  dsimp only
  rw [State.packLost_lock]
  split <;> simp

@[simp] theorem State.endRest_lock (s : State) (b : BayId) : (s.endRest b).arb.lock = s.arb.lock := by
  unfold State.endRest
  dsimp only
  split
  · rfl
  · rw [State.raiseBay_arb]
    split
    · simp
    · split <;> simp

/-! ### The lock through a period -/

theorem State.tickBay_lock (s : State) (b : BayId) : (s.tickBay b).arb.lock = s.arb.lock := by
  have hlink : (s.tickLink b).arb.lock = s.arb.lock := by
    unfold State.tickLink
    split
    · split <;> simp
    · rfl
  unfold State.tickBay
  dsimp only
  rw [← hlink]
  split
  · unfold State.tickHoldOff State.expireHoldOff
    split
    · split
      · split <;> simp
      · rfl
    · rfl
  · unfold State.tickRest
    split
    · split <;> simp
    · rfl
  · unfold State.tickRetry
    split
    · split <;> simp
    · rfl
  all_goals rfl

theorem State.tickDetector_lock (s : State) (d : DetId) : (s.tickDetector d).arb.lock = s.arb.lock := by
  unfold State.tickDetector State.detectorLapse State.moveDetector
  split
  · split
    · split
      · rfl
      · dsimp only
        split <;> simp
    · simp
  · rfl

theorem State.tickAnalyser_lock (s : State) (w : Analyser) : (s.tickAnalyser w).arb.lock = s.arb.lock := by
  unfold State.tickAnalyser State.analyserLapse
  dsimp only
  split
  · split
    · simp
    · rfl
  · rfl

theorem State.tickConfirm_lock (s : State) : s.tickConfirm.arb.lock = s.arb.lock := by
  unfold State.tickConfirm State.confirmElapsed
  split
  · rfl
  · split
    · split
      · rfl
      · split <;> simp
    · rfl

theorem State.tickPurge_lock (s : State) : s.tickPurge.arb.lock = s.arb.lock := by
  unfold State.tickPurge State.purgeExpired
  split
  · rfl
  · split
    · split
      · rfl
      · split <;> simp
    · rfl

theorem State.tickWindow_lock (s : State) : s.tickWindow.arb.lock = s.arb.lock := by
  unfold State.tickWindow State.windowEnded
  split
  · rfl
  · split <;> rfl

theorem State.tickGate_lock (s : State) : s.tickGate.arb.lock = s.arb.lock := by
  unfold State.tickGate State.gateExpired State.addFeedFault
  split
  · rfl
  · split
    · split <;> simp
    · rfl

theorem State.tickShred_lock (s : State) : s.tickShred.arb.lock = s.arb.lock := by
  unfold State.tickShred State.shredExpired State.addFeedFault
  split
  · rfl
  · split
    · split <;> simp
    · rfl

/-- Of a whole period the lock sees its own timer alone. -/
theorem State.tickAll_lock (s : State) : s.tickAll.arb.lock = s.tickLock.arb.lock := by
  unfold State.tickAll
  dsimp only
  rw [State.tickShred_lock, State.tickGate_lock, State.tickWindow_lock, State.tickPurge_lock, State.tickConfirm_lock,
    State.tickAnalyser_lock, State.tickAnalyser_lock,
    foldl_frame (fun t => t.arb.lock) State.tickDetector (fun t d => t.tickDetector_lock d),
    foldl_frame (fun t => t.arb.lock) State.tickBay (fun t b => t.tickBay_lock b)]

/-! ### Each timer -/

theorem State.tickLock_none (h : s.arb.lock = none) : s.tickLock = s := by
  unfold State.tickLock
  rw [h]

theorem State.tickLock_runs {l : Lock} (h : s.arb.lock = some l) (hn : l.elapsed + 1 < l.duration) :
    s.tickLock = s.setArb { s.arb with lock := some { l with elapsed := l.elapsed + 1 } } := by
  unfold State.tickLock
  rw [h]
  exact if_neg (by omega)

theorem State.tickLock_ends {l : Lock} (h : s.arb.lock = some l) (hn : l.duration ≤ l.elapsed + 1) : s.tickLock = s.expireLock := by
  unfold State.tickLock
  rw [h]
  exact if_pos hn

theorem State.expireLock_lock (s : State) : s.expireLock.arb.lock = none := by
  unfold State.expireLock
  split
  · next h => exact h
  · simp

/-- The lock after a period (R39). -/
theorem State.tick_lock (hr : s.running = true) (l : Lock) (hl : s.arb.lock = some l) :
    s.tick.arb.lock = if l.elapsed + 1 < l.duration then some { l with elapsed := l.elapsed + 1 } else none := by
  unfold State.tick
  rw [if_pos hr, State.tickAll_lock]
  split
  · next h => rw [State.tickLock_runs hl h]; rfl
  · next h => rw [State.tickLock_ends hl (by omega), State.expireLock_lock]

/-- The period of a link (R60, R61). -/
theorem State.tickLink_cases (hr : s.running = true) (b : BayId) :
    ((s.bay b).mode = .unconfigured ∨ (s.bay b).link = .lost → s.tickLink b = s)
    ∧ ((s.bay b).mode ≠ .unconfigured → (s.bay b).link = .receiving →
      ((s.bay b).periods < s.settings.timing.link → s.tickLink b = s.setBay b { s.bay b with periods := (s.bay b).periods + 1 })
      ∧ (s.settings.timing.link ≤ (s.bay b).periods → exec (.linkTimeout b) s = .next (s.tickLink b))) := by
  refine ⟨fun h => ?_, fun hm hl => ?_⟩
  · have hs : (s.bay b).supervises = false := by rcases h with h | h <;> simp [Bay.supervises, h]
    unfold State.tickLink
    rw [hs]
    rfl
  · have hs : (s.bay b).supervises = true := by simp [Bay.supervises, hm, hl]
    refine ⟨fun hn => ?_, fun hn => ?_⟩
    · unfold State.tickLink
      rw [if_pos hs, if_neg (by omega)]
      rfl
    · have he : exec (.linkTimeout b) s = .next (s.whenRunning (fun t => if (t.bay b).supervises then t.loseLink b else t)) := rfl
      rw [he, s.whenRunning_running hr, if_pos hs]
      unfold State.tickLink
      rw [if_pos hs, if_pos (by omega)]

/-- The time that runs in a bay's state, once its link has taken the period. -/
theorem State.tickBay_idle (b : BayId) (h1 : ((s.tickLink b).bay b).mode ≠ .active) (h2 : ((s.tickLink b).bay b).mode ≠ .resting)
    (h3 : ((s.tickLink b).bay b).mode ≠ .retrying) : s.tickBay b = s.tickLink b := by
  unfold State.tickBay
  dsimp only
  split
  · next h => exact absurd h h1
  · next h => exact absurd h h2
  · next h => exact absurd h h3
  all_goals rfl

theorem State.tickBay_active (b : BayId) (h : ((s.tickLink b).bay b).mode = .active) : s.tickBay b = (s.tickLink b).tickHoldOff b := by
  unfold State.tickBay
  dsimp only
  rw [h]

theorem State.tickBay_resting (b : BayId) (h : ((s.tickLink b).bay b).mode = .resting) : s.tickBay b = (s.tickLink b).tickRest b := by
  unfold State.tickBay
  dsimp only
  rw [h]

theorem State.tickBay_retrying (b : BayId) (h : ((s.tickLink b).bay b).mode = .retrying) : s.tickBay b = (s.tickLink b).tickRetry b := by
  unfold State.tickBay
  dsimp only
  rw [h]

theorem State.tickHoldOff_none (b : BayId) (h : (s.bay b).holdOff = none) : s.tickHoldOff b = s := by
  unfold State.tickHoldOff
  rw [h]
  exact if_neg (by simp [Bay.inHoldOff, h])

/-- The hold-off of a bay in ACTIVE (R91). -/
theorem State.tickHoldOff_some (hr : s.running = true) (b : BayId) {n : Nat} (hm : (s.bay b).mode = .active)
    (h : (s.bay b).holdOff = some n) :
    (1 < n → s.tickHoldOff b = s.setBay b { s.bay b with holdOff := some (n - 1) })
    ∧ (n ≤ 1 → exec (.holdOffExpiry b) s = .next (s.tickHoldOff b)) := by
  have hs : (s.bay b).inHoldOff = true := by simp [Bay.inHoldOff, hm, h]
  have ht : s.tickHoldOff b = if n ≤ 1 then s.expireHoldOff b else s.modBay b (fun x => { x with holdOff := some (n - 1) }) := by
    unfold State.tickHoldOff
    rw [if_pos hs, h]
  refine ⟨fun hn => ?_, fun hn => ?_⟩
  · rw [ht, if_neg (by omega)]; rfl
  · have he : exec (.holdOffExpiry b) s = .next (s.whenRunning (fun t => if (t.bay b).inHoldOff then t.expireHoldOff b else t)) := rfl
    rw [he, s.whenRunning_running hr, if_pos hs, ht, if_pos hn]

theorem State.tickRest_pending (b : BayId) (h : (s.bay b).releasePending = true) : s.tickRest b = s := by
  unfold State.tickRest
  exact if_neg (by simp [Bay.rests, h])

/-- The rest of a bay (R95, R96). -/
theorem State.tickRest_runs (hr : s.running = true) (b : BayId) {k : Copies} {cfg : ClassCfg} (hm : (s.bay b).mode = .resting)
    (hp : (s.bay b).releasePending = false) (hk : (s.bay b).copies = some k) (hc : s.settings.classes.get k.cls = some cfg) :
    ((s.bay b).restElapsed + 1 < cfg.restSec * 100 → s.tickRest b = s.setBay b { s.bay b with restElapsed := (s.bay b).restElapsed + 1 })
    ∧ (cfg.restSec * 100 ≤ (s.bay b).restElapsed + 1 → exec (.restEnd b) s = .next (s.tickRest b)) := by
  have hs : (s.bay b).rests = true := by simp [Bay.rests, hm, hp]
  have hn : s.restPeriods b = cfg.restSec * 100 := by
    unfold State.restPeriods periodsOf
    rw [hk]
    dsimp only
    rw [s.classCfg_eq _ cfg hc]
  refine ⟨fun h => ?_, fun h => ?_⟩
  · unfold State.tickRest
    rw [if_pos hs, hn, if_neg (by omega)]
    rfl
  · have he : exec (.restEnd b) s = .next (s.whenRunning (fun t => if (t.bay b).rests then t.endRest b else t)) := rfl
    rw [he, s.whenRunning_running hr, if_pos hs]
    unfold State.tickRest
    rw [if_pos hs, hn, if_pos h]

theorem State.tickRetry_other (b : BayId) (h : (s.bay b).retry ≠ some .overcurrent ∨ (s.bay b).releasePending = true) :
    s.tickRetry b = s := by
  unfold State.tickRetry
  exact if_neg (by rcases h with h | h <;> simp [Bay.waitsRetry, h])

/-- The wait of an overcurrent retry (R110). -/
theorem State.tickRetry_runs (hr : s.running = true) (b : BayId) (hm : (s.bay b).mode = .retrying)
    (hk : (s.bay b).retry = some .overcurrent) (hp : (s.bay b).releasePending = false) :
    ((s.bay b).retryWait + 1 < (s.bayCfg b).retrySec * 100 → s.tickRetry b = s.setBay b { s.bay b with retryWait := (s.bay b).retryWait + 1 })
    ∧ ((s.bayCfg b).retrySec * 100 ≤ (s.bay b).retryWait + 1 → exec (.retryWaitElapsed b) s = .next (s.tickRetry b)) := by
  have hs : (s.bay b).waitsRetry = true := by simp [Bay.waitsRetry, hm, hk, hp]
  refine ⟨fun h => ?_, fun h => ?_⟩
  · unfold State.tickRetry periodsOf
    rw [if_pos hs, if_neg (by omega)]
    rfl
  · have he : exec (.retryWaitElapsed b) s = .next (s.whenRunning (fun t => if (t.bay b).waitsRetry then t.endRetry b else t)) := rfl
    rw [he, s.whenRunning_running hr, if_pos hs]
    unfold State.tickRetry periodsOf
    rw [if_pos hs, if_pos h]

/-- A detector's time (R157; log entry 34). -/
theorem State.tickDetector_cases (hr : s.running = true) (d : DetId) :
    (s.settings.detectors.get d = none ∨ 100 ≤ (s.detector d).age → s.tickDetector d = s)
    ∧ (s.settings.detectors.get d ≠ none →
      ((s.detector d).age < 99 → s.tickDetector d = s.setDetector d { s.detector d with age := (s.detector d).age + 1 })
      ∧ ((s.detector d).age = 99 → exec (.detectorFreshnessLapse d) s = .next (s.tickDetector d))) := by
  refine ⟨fun h => if_neg (fun k => ?_), fun h => ⟨fun ha => ?_, fun ha => ?_⟩⟩
  · rcases h with h | h
    · rw [h] at k; exact absurd k.1 (by simp)
    · omega
  all_goals have hsome : (s.settings.detectors.get d).isSome = true := Option.isSome_iff_ne_none.mpr h
  · unfold State.tickDetector
    rw [if_pos ⟨hsome, by omega⟩, if_neg (by omega)]
  · have he : exec (.detectorFreshnessLapse d) s = .next (s.whenRunning (fun t => t.detectorLapse d)) := rfl
    rw [he, s.whenRunning_running hr]
    unfold State.tickDetector
    rw [if_pos ⟨hsome, by omega⟩, if_pos (by omega)]

/-- An analyser's time (R118). -/
theorem State.tickAnalyser_cases (hr : s.running = true) (w : Analyser) :
    ((s.chamber.analyser w).fresh = false → s.tickAnalyser w = s)
    ∧ ((s.chamber.analyser w).fresh = true →
      ((s.chamber.analyser w).age < 99 → s.tickAnalyser w
        = s.setChamber (s.chamber.setAnalyser w { s.chamber.analyser w with age := (s.chamber.analyser w).age + 1 }))
      ∧ (99 ≤ (s.chamber.analyser w).age → exec (.analyserFreshnessLapse w) s = .next (s.tickAnalyser w))) := by
  refine ⟨fun h => if_neg (by simp [h]), fun h => ⟨fun ha => ?_, fun ha => ?_⟩⟩
  · unfold State.tickAnalyser
    dsimp only
    rw [if_pos h, if_neg (by omega)]
  · have he : exec (.analyserFreshnessLapse w) s = .next (s.whenRunning (fun t => t.analyserLapse w)) := rfl
    rw [he, s.whenRunning_running hr]
    unfold State.tickAnalyser
    dsimp only
    rw [if_pos h, if_pos (by omega)]

/-- The confirm timer (R122, R125). -/
theorem State.tickConfirm_some (hr : s.running = true) {n : Nat} (h : s.chamber.confirm = some n) :
    (n + 1 < s.settings.chamber.confirmSec * 100 → s.tickConfirm = s.setChamber { s.chamber with confirm := some (n + 1) })
    ∧ (s.settings.chamber.confirmSec * 100 ≤ n + 1 → exec .confirmTimeElapsed s = .next s.tickConfirm) := by
  have ht : s.tickConfirm = if s.settings.chamber.confirmSec * 100 ≤ n + 1 then s.confirmElapsed
      else s.setChamber { s.chamber with confirm := some (n + 1) } := by
    unfold State.tickConfirm periodsOf
    rw [h]
  refine ⟨fun hn => by rw [ht, if_neg (by omega)], fun hn => ?_⟩
  have he : exec .confirmTimeElapsed s = .next (s.whenRunning State.confirmElapsed) := rfl
  rw [he, s.whenRunning_running hr, ht, if_pos hn]

/-- The purge timer (R123). -/
theorem State.tickPurge_some (hr : s.running = true) {n : Nat} (h : s.chamber.purgeTimer = some n) :
    (n + 1 < s.settings.chamber.purgeSec * 100 → s.tickPurge = s.setChamber { s.chamber with purgeTimer := some (n + 1) })
    ∧ (s.settings.chamber.purgeSec * 100 ≤ n + 1 → exec .purgeTimeout s = .next s.tickPurge) := by
  have ht : s.tickPurge = if s.settings.chamber.purgeSec * 100 ≤ n + 1 then s.purgeExpired
      else s.setChamber { s.chamber with purgeTimer := some (n + 1) } := by
    unfold State.tickPurge periodsOf
    rw [h]
  refine ⟨fun hn => by rw [ht, if_neg (by omega)], fun hn => ?_⟩
  have he : exec .purgeTimeout s = .next (s.whenRunning State.purgeExpired) := rfl
  rw [he, s.whenRunning_running hr, ht, if_pos hn]

/-- The return window (R145). -/
theorem State.tickWindow_some (hr : s.running = true) {m : Memory} (h : s.feed.memory = some m) :
    (1 < m.remaining → s.tickWindow = s.setFeed { s.feed with memory := some { m with remaining := m.remaining - 1 } })
    ∧ (m.remaining ≤ 1 → exec .returnWindowEnd s = .next s.tickWindow) := by
  have ht : s.tickWindow = if m.remaining ≤ 1 then s.windowEnded
      else s.setFeed { s.feed with memory := some { m with remaining := m.remaining - 1 } } := by
    unfold State.tickWindow
    rw [h]
  refine ⟨fun hn => by rw [ht, if_neg (by omega)], fun hn => ?_⟩
  have he : exec .returnWindowEnd s = .next (s.whenRunning State.windowEnded) := rfl
  rw [he, s.whenRunning_running hr, ht, if_pos hn]

/-- The gate timer (R142, R146). -/
theorem State.tickGate_some (hr : s.running = true) {x : Timer} (h : s.feed.gateTimer = some x) :
    (x.elapsed + 1 < x.duration → s.tickGate = s.setFeed { s.feed with gateTimer := some { x with elapsed := x.elapsed + 1 } })
    ∧ (x.duration ≤ x.elapsed + 1 → exec .gateTimeout s = .next s.tickGate) := by
  have ht : s.tickGate = if x.duration ≤ x.elapsed + 1 then s.gateExpired
      else s.setFeed { s.feed with gateTimer := some { x with elapsed := x.elapsed + 1 } } := by
    unfold State.tickGate
    rw [h]
  refine ⟨fun hn => by rw [ht, if_neg (by omega)], fun hn => ?_⟩
  have he : exec .gateTimeout s = .next (s.whenRunning State.gateExpired) := rfl
  rw [he, s.whenRunning_running hr, ht, if_pos hn]

/-- The shred timer (R142, R148). -/
theorem State.tickShred_some (hr : s.running = true) {x : Timer} (h : s.feed.shredTimer = some x) :
    (x.elapsed + 1 < x.duration → s.tickShred = s.setFeed { s.feed with shredTimer := some { x with elapsed := x.elapsed + 1 } })
    ∧ (x.duration ≤ x.elapsed + 1 → exec .shredTimeout s = .next s.tickShred) := by
  have ht : s.tickShred = if x.duration ≤ x.elapsed + 1 then s.shredExpired
      else s.setFeed { s.feed with shredTimer := some { x with elapsed := x.elapsed + 1 } } := by
    unfold State.tickShred
    rw [h]
  refine ⟨fun hn => by rw [ht, if_neg (by omega)], fun hn => ?_⟩
  have he : exec .shredTimeout s = .next (s.whenRunning State.shredExpired) := rfl
  rw [he, s.whenRunning_running hr, ht, if_pos hn]

theorem State.step_empty (h : s.pending = []) : step s = .next s.tick := by
  unfold step
  rw [h]

/-- Settles O2: a period runs through the timers one by one, and each is as its own lemma says. -/
theorem anEmptyQueueTakesOnePeriod : Obligations.AnEmptyQueueTakesOnePeriod := by
  refine ⟨fun s h => ⟨fun hr => ?_, fun hr => ⟨?_, s.tick, State.step_empty h, ?_, fun hl => ?_, State.tick_lock hr⟩⟩, fun s hr =>
    ⟨State.tickLock_none, fun l hl => ⟨State.tickLock_runs hl, fun hn => ?_⟩, fun b => ?_, State.tickDetector_cases hr,
      State.tickAnalyser_cases hr, fun h => ?_, fun n => State.tickConfirm_some hr, fun h => ?_, fun n => State.tickPurge_some hr,
      fun h => ?_, fun m => State.tickWindow_some hr, fun h => ?_, fun x => State.tickGate_some hr, fun h => ?_,
      fun x => State.tickShred_some hr⟩⟩
  · rw [State.step_empty h, State.tick, if_neg (by simp [hr])]
  · rw [State.step_empty h, State.tick, if_pos hr]
    rfl
  · exact (Moves.pending (Moves.tick (c := .any s))).trans h
  · rw [State.tick, if_pos hr, State.tickAll_lock, State.tickLock_none hl, hl]
  · have he : exec .lockHoldExpiry s = .next (s.whenRunning State.expireLock) := rfl
    rw [he, s.whenRunning_running hr, State.tickLock_ends hl hn]
  · have hu : (s.tickLink b).running = true := (Moves.running (Moves.tickLink (c := .any s) b hr)).trans hr
    obtain ⟨h1, h2⟩ := State.tickLink_cases hr b
    refine ⟨h1, h2, State.tickBay_idle b, fun hm hn => ?_, fun n hm hn => ?_, fun hm hp => ?_, fun c k hm hp hc hk => ?_,
      fun hm h => ?_, fun hm hk hp => ?_⟩
    · rw [State.tickBay_active b hm, State.tickHoldOff_none b hn]
    · rw [State.tickBay_active b hm]; exact State.tickHoldOff_some hu b hm hn
    · rw [State.tickBay_resting b hm, State.tickRest_pending b hp]
    · rw [State.tickBay_resting b hm]; exact State.tickRest_runs hu b hm hp hc hk
    · rw [State.tickBay_retrying b hm, State.tickRetry_other b h]
    · rw [State.tickBay_retrying b hm]; exact State.tickRetry_runs hu b hm hk hp
  · unfold State.tickConfirm; rw [h]
  · unfold State.tickPurge; rw [h]
  · unfold State.tickWindow; rw [h]
  · unfold State.tickGate; rw [h]
  · unfold State.tickShred; rw [h]

end Sys2Proof.Machine
end

section
/-!
PROOFS. Requests in general (R13, R31, R35): how each of the 39 is carried out, its first two checks, and what a request that
takes no grant leaves of a busy arbiter.
-/

namespace Sys2Proof.Machine

variable {c : Cause} {s t : State}

/-! ### A busy arbiter through the operations of the blocks -/

/-- An arbiter that is not PARKED stays where it is (R32). -/
def State.KeepsBusy (s t : State) : Prop := s.arb.access ≠ .parked → t.arb.access = s.arb.access

theorem State.KeepsBusy.of_arb (h : t.arb = s.arb) : s.KeepsBusy t := fun _ => by rw [h]

theorem State.KeepsBusy.trans {u : State} (h : s.KeepsBusy t) (k : t.KeepsBusy u) : s.KeepsBusy u := fun hs =>
  (k (by rw [h hs]; exact hs)).trans (h hs)

/-- A change that leaves the arbiter comes first. -/
theorem State.KeepsBusy.after {u : State} (k : t.KeepsBusy u) (h : t.arb = s.arb := by rfl) : s.KeepsBusy u :=
  (State.KeepsBusy.of_arb h).trans k

/-- A report changes no arbiter. -/
theorem State.KeepsBusy.report {u : State} (h : s.KeepsBusy t) (k : u.arb = t.arb) : s.KeepsBusy u := h.trans (.of_arb k)

theorem State.KeepsBusy.ite {p : Prop} [Decidable p] {x y : State} (h : s.KeepsBusy x) (k : s.KeepsBusy y) :
    s.KeepsBusy (if p then x else y) := by
  split
  · exact h
  · exact k

theorem State.wake_keepsBusy (s : State) (e : Engine) : s.KeepsBusy (s.wake e) := fun h => by rw [State.wake_eq, if_neg h]

theorem State.askBay_keepsBusy (s : State) (b : BayId) (w : BayWrite) : s.KeepsBusy (s.askBay b w) :=
  (s.modBay b (fun x => { x with writes := x.writes ++ [w] })).wake_keepsBusy (.bay b)

theorem State.askFeed_keepsBusy (s : State) (w : FeedWrite) : s.KeepsBusy (s.askFeed w) :=
  (s.setArb { s.arb with feedWrites := s.arb.feedWrites ++ [w] }).wake_keepsBusy .feed

theorem State.askSweep_keepsBusy (s : State) (z : ZoneId) : s.KeepsBusy (s.askSweep z) :=
  (s.setArb { s.arb with sweeps := s.arb.sweeps ++ [z] }).wake_keepsBusy .fire

theorem State.evalAdmission_keepsBusy (s : State) : s.KeepsBusy s.evalAdmission := by
  unfold State.evalAdmission
  refine .ite ?_ (.of_arb rfl)
  split
  · exact (State.askFeed_keepsBusy _ _).after
  · exact .of_arb rfl

theorem State.startReturn_keepsBusy (s : State) : s.KeepsBusy s.startReturn := by
  unfold State.startReturn
  split
  · exact .of_arb rfl
  · exact ((State.askFeed_keepsBusy _ _).after (by simp)).report (State.raiseFeed_arb _)

theorem State.feedChamberReport_keepsBusy (s : State) (x y : ChamberState) : s.KeepsBusy (s.feedChamberReport x y) := by
  unfold State.feedChamberReport
  refine State.KeepsBusy.trans ?_ (State.evalAdmission_keepsBusy _)
  refine .ite ?_ (.of_arb rfl)
  split
  iterate 3 exact s.startReturn_keepsBusy
  all_goals exact .of_arb rfl

theorem State.enterChamber_keepsBusy (s : State) (g : ChamberState) : s.KeepsBusy (s.enterChamber g) := by
  unfold State.enterChamber
  exact .ite (.of_arb rfl) ((State.KeepsBusy.of_arb (by simp)).trans (State.feedChamberReport_keepsBusy _ _ _))

theorem State.askStage_keepsBusy (s : State) (b : BayId) (g g' : Stage) (r : Option (Nat × Nat)) :
    s.KeepsBusy (s.askStage b g g' r) := by
  unfold State.askStage
  split
  · exact (State.askBay_keepsBusy _ b _).after
  · exact .of_arb rfl

theorem State.payStage_keepsBusy (s : State) (b : BayId) : s.KeepsBusy (s.payStage b) := by
  unfold State.payStage
  exact .ite (State.askStage_keepsBusy _ b _ _ _).after (.of_arb rfl)

theorem State.resume_keepsBusy (s : State) (b : BayId) : s.KeepsBusy (s.resume b) := by
  unfold State.resume
  split
  · exact .of_arb rfl
  · refine State.KeepsBusy.report ?_ (State.raiseBay_arb ..)
    refine .ite (.of_arb rfl) ?_
    split
    · exact .of_arb rfl
    · exact (State.payStage_keepsBusy _ b).after
    all_goals exact .of_arb rfl

theorem State.dropHold_keepsBusy (s : State) (b : BayId) (k : HoldCause) : s.KeepsBusy (s.dropHold b k) := by
  unfold State.dropHold
  split
  · exact .of_arb rfl
  · exact .ite (State.resume_keepsBusy _ b).after (.of_arb rfl)

theorem State.stopChanged_keepsBusy (s : State) (b : BayId) (x : Bool) : s.KeepsBusy (s.stopChanged b x) := by
  unfold State.stopChanged
  exact .ite (.of_arb rfl) (.ite (.ite (.of_arb rfl) (.of_arb (by simp))) (.ite (.of_arb rfl) (s.dropHold_keepsBusy b .stop)))

theorem State.chamberFire_keepsBusy (s : State) : s.KeepsBusy s.chamberFire := by
  unfold State.chamberFire
  exact .ite (.of_arb rfl) (State.enterChamber_keepsBusy _ _).after

theorem State.chamberFireExit_keepsBusy (s : State) : s.KeepsBusy s.chamberFireExit := by
  unfold State.chamberFireExit
  exact .ite (State.enterChamber_keepsBusy _ _).after (.of_arb rfl)

theorem State.feedZoneClear_keepsBusy (s : State) (z : ZoneId) : s.KeepsBusy (s.feedZoneClear z) :=
  (State.evalAdmission_keepsBusy _).after

theorem State.enterAlarm_keepsBusy (s : State) (z : ZoneId) : s.KeepsBusy (s.enterAlarm z) := by
  have hf : ∀ u : State, u.KeepsBusy ((zoneBays z).foldl (fun t b => t.addHold b .zoneAlarm) u) := fun u => .of_arb
    (foldl_frame State.arb (fun t b => t.addHold b .zoneAlarm) (fun t b => by simp) (zoneBays z) u)
  unfold State.enterAlarm
  refine State.KeepsBusy.report ?_ (State.raiseZone_arb ..)
  have h1 : s.KeepsBusy (if (s.zone z).sweepWaiting then s
      else (s.setZone z { s.zone z with sweepWaiting := true }).askSweep z) :=
    .ite (.of_arb rfl) (State.askSweep_keepsBusy _ z).after
  have h2 := h1.trans (hf _)
  have h3 := State.KeepsBusy.ite (p := z = 4 ∨ z = 5 ∨ z = 6) (h2.report (State.feedZoneAlarm_arb _ z)) h2
  exact .ite (h3.trans (State.chamberFire_keepsBusy _)) h3

theorem State.vote_keepsBusy (s : State) (z : ZoneId) : s.KeepsBusy (s.vote z) := by
  unfold State.vote
  have h1 : ∀ (p : Prop) [Decidable p] (x : Zone), s.KeepsBusy (if p then s.setZone z x else (s.setZone z x).raiseZone z 0) :=
    fun p _ x => .ite (.of_arb rfl) (.of_arb (by simp))
  exact .ite ((h1 _ _).trans (State.enterAlarm_keepsBusy _ z)) (h1 _ _)

theorem State.foldl_dropHold_keepsBusy (s : State) (k : HoldCause) (l : List BayId) :
    s.KeepsBusy (l.foldl (fun t b => t.dropHold b k) s) := by
  induction l generalizing s with
  | nil => exact .of_arb rfl
  | cons b l ih => exact (s.dropHold_keepsBusy b k).trans (ih _)

theorem State.clearZone_keepsBusy (s : State) (z : ZoneId) : s.KeepsBusy (s.clearZone z) := by
  have h1 : s.KeepsBusy ((zoneBays z).foldl (fun t b => t.dropHold b .zoneAlarm)
      ((s.setZone z { s.zone z with state := .normal }).raiseZone z 0)) :=
    (State.KeepsBusy.of_arb (by simp)).trans (State.foldl_dropHold_keepsBusy _ _ _)
  have h2 := State.KeepsBusy.ite (p := z = 6) (h1.trans (State.chamberFireExit_keepsBusy _)) h1
  exact .ite (h2.trans (State.feedZoneClear_keepsBusy _ z)) h2

theorem State.remap_keepsBusy (s : State) (d : DetId) (o : Option MapEntry) : s.KeepsBusy (s.remap d o) := by
  unfold State.remap
  refine .ite (.of_arb rfl) ?_
  have h1 : ∀ q : Option MapEntry, s.KeepsBusy (match q with
      | some m => (s.setSettings { s.settings with detectors := s.settings.detectors.set d none }).vote m.zone
      | none => s.setSettings { s.settings with detectors := s.settings.detectors.set d none }) := fun q => by
    cases q with
    | none => exact .of_arb rfl
    | some m => exact (State.vote_keepsBusy _ m.zone).after
  have h2 := h1 (s.settings.detectors.get d)
  dsimp only
  split
  · exact h2.trans (State.vote_keepsBusy _ _).after
  · exact h2

theorem State.clearTheFault_keepsBusy (s : State) (b : BayId) : s.KeepsBusy (s.clearTheFault b) := by
  unfold State.clearTheFault
  dsimp only
  split
  · refine State.KeepsBusy.report ?_ (State.raiseBay_arb ..)
    exact .ite (.ite (.of_arb rfl) (State.payStage_keepsBusy _ b).after) (.of_arb rfl)
  · exact .of_arb (by simp)

/-! ### How each request is carried out -/

/-- A block's service leaves a busy arbiter as it is. -/
def LeavesBusy (f : State → Reply × State) : Prop := ∀ s : State, s.KeepsBusy (f s).2

theorem LeavesBusy.of_same {f : State → Reply × State} (h : ∀ s, (f s).2.arb = s.arb) : LeavesBusy f := fun s => .of_arb (h s)

theorem leavesBusy_onBay (n : Nat) {f : State → BayId → Reply × State} (h : ∀ b, LeavesBusy (fun s => f s b)) :
    LeavesBusy (fun s => s.onBay n (f s)) := fun s => by
  unfold State.onBay
  cases bayOf n with
  | none => exact .of_arb rfl
  | some b => exact h b s

theorem leavesBusy_onZone (n : Nat) {f : State → ZoneId → Reply × State} (h : ∀ z, LeavesBusy (fun s => f s z)) :
    LeavesBusy (fun s => s.onZone n (f s)) := fun s => by
  unfold State.onZone
  cases zoneOf n with
  | none => exact .of_arb rfl
  | some z => exact h z s

theorem leavesBusy_softStop (bay value : Nat) : LeavesBusy (fun s => s.serveSoftStop bay value) :=
  leavesBusy_onBay bay (fun b s => (State.stopChanged_keepsBusy _ b _).after)

theorem leavesBusy_levelCap (bay cap : Nat) : LeavesBusy (fun s => s.serveLevelCap bay cap) :=
  leavesBusy_onBay bay (fun b => .of_same (fun s => by dsimp only; split <;> rfl))

theorem leavesBusy_clearFault (bay : Nat) : LeavesBusy (fun s => s.serveClearFault bay) :=
  leavesBusy_onBay bay (fun b s => by
    dsimp only
    split
    · exact .of_arb rfl
    · split
      · exact .of_arb rfl
      · exact s.clearTheFault_keepsBusy b)

theorem leavesBusy_purge : LeavesBusy State.servePurge := fun s => by
  unfold State.servePurge State.startPurge
  split
  · exact (State.enterChamber_keepsBusy _ .purging).after
  · exact .of_arb rfl

theorem leavesBusy_stopChamber : LeavesBusy State.serveStopChamber := fun s => by
  unfold State.serveStopChamber State.stopInerting
  split
  · exact (State.enterChamber_keepsBusy _ .sealed).after
  · exact .of_arb rfl

theorem leavesBusy_resumeFeed : LeavesBusy State.serveResumeFeed := fun s => by
  unfold State.serveResumeFeed
  split
  · exact .of_arb rfl
  · exact (State.evalAdmission_keepsBusy _).after

theorem leavesBusy_clearAlarm (zone : Nat) : LeavesBusy (fun s => s.serveClearAlarm zone) :=
  leavesBusy_onZone zone (fun z s => by
    dsimp only
    split
    · exact .of_arb rfl
    · exact .ite (s.clearZone_keepsBusy z) (.of_arb rfl))

theorem leavesBusy_setClass (cls : Nat) (cfg : ClassCfg) : LeavesBusy (fun s => s.serveSetClass cls cfg) :=
  .of_same (fun s => by
    unfold State.serveSetClass
    split
    · rfl
    · split <;> rfl)

theorem leavesBusy_bayConfig (bay : Nat) (cfg : BayCfg) : LeavesBusy (fun s => s.serveBayConfig bay cfg) :=
  leavesBusy_onBay bay (fun b => .of_same (fun s => by dsimp only; split <;> rfl))

theorem leavesBusy_detectorMap (address used zone kind : Nat) : LeavesBusy (fun s => s.serveDetectorMap address used zone kind) :=
  fun s => by
    unfold State.serveDetectorMap
    dsimp only
    split
    · exact .of_arb rfl
    · split
      · exact .of_arb rfl
      · exact s.remap_keepsBusy _ _

theorem leavesBusy_chamberConfig (cfg : ChamberCfg) : LeavesBusy (fun s => s.serveChamberConfig cfg) :=
  .of_same (fun s => by unfold State.serveChamberConfig; split <;> rfl)

theorem leavesBusy_timing (link lockMs rebound gate shred : Option Nat) :
    LeavesBusy (fun s => s.serveTiming link lockMs rebound gate shred) :=
  .of_same (fun s => by unfold State.serveTiming; split <;> rfl)

/-- A request takes a grant, or its block serves it as it arrives and leaves a busy arbiter alone (R30, R35). -/
theorem exec_request {i : Instr} {p : Port} (hr : i.isRequest = true) (hp : i.port = some p) :
    (takesGrant i = true ∧ ∀ s, exec i s = .next (s.granted p i))
    ∨ (takesGrant i = false ∧ ∃ f, LeavesBusy f ∧ ∀ s, exec i s = .next (s.served p i f)) := by
  have granted : ∀ {q : Prop}, (∀ s, exec i s = .next (s.granted p i)) → takesGrant i = true →
      (takesGrant i = true ∧ ∀ s, exec i s = .next (s.granted p i)) ∨ q := fun h k => .inl ⟨k, h⟩
  have served : ∀ {q : Prop} (f : State → Reply × State), (∀ s, exec i s = .next (s.served p i f)) → takesGrant i = false →
      LeavesBusy f → q ∨ (takesGrant i = false ∧ ∃ f, LeavesBusy f ∧ ∀ s, exec i s = .next (s.served p i f)) :=
    fun f h k hf => .inr ⟨k, f, hf, h⟩
  cases i <;> cases hp
  case lockTable | unlockTable | setAccess | register | readRecord | find | scan | amend | retire | quarantine | liftQuarantine
      | confirmShred | readTallies | resetTallies | assignBay | abortBay | enqueue | withdraw => exact granted (fun _ => rfl) rfl
  case status => exact served _ (fun _ => rfl) rfl (.of_same (fun _ => rfl))
  case getAttention => exact served _ (fun _ => rfl) rfl (.of_same (fun s => by simp [State.serveGetAttention]))
  case setAttentionMask => exact served _ (fun _ => rfl) rfl (.of_same (fun s => by simp [State.serveSetMask]))
  case setSoftStop => exact served _ (fun _ => rfl) rfl (leavesBusy_softStop _ _)
  case setLevelCap => exact served _ (fun _ => rfl) rfl (leavesBusy_levelCap _ _)
  case clearFault => exact served _ (fun _ => rfl) rfl (leavesBusy_clearFault _)
  case readBay => exact served _ (fun _ => rfl) rfl (leavesBusy_onBay _ (fun _ => .of_same (fun _ => rfl)))
  case purge => exact served _ (fun _ => rfl) rfl leavesBusy_purge
  case stopChamber => exact served _ (fun _ => rfl) rfl leavesBusy_stopChamber
  case readChamber => exact served _ (fun _ => rfl) rfl (.of_same (fun _ => rfl))
  case resumeFeed => exact served _ (fun _ => rfl) rfl leavesBusy_resumeFeed
  case readQueue => exact served _ (fun _ => rfl) rfl (.of_same (fun _ => rfl))
  case clearAlarm => exact served _ (fun _ => rfl) rfl (leavesBusy_clearAlarm _)
  case readZone => exact served _ (fun _ => rfl) rfl (leavesBusy_onZone _ (fun _ => .of_same (fun _ => rfl)))
  case setClass => exact served _ (fun _ => rfl) rfl (leavesBusy_setClass _ _)
  case setBayConfig bay rating cap toff nOpen mode combine retrySec =>
    refine served _ (fun _ => rfl) rfl ?_
    cases modeOf mode with
    | none => exact .of_same (fun _ => rfl)
    | some m =>
      cases combineOf combine with
      | none => exact .of_same (fun _ => rfl)
      | some k => exact leavesBusy_bayConfig bay _
  case setZoneConfig => exact served _ (fun _ => rfl) rfl (leavesBusy_onZone _ (fun _ => .of_same (fun _ => rfl)))
  case setDetectorMap => exact served _ (fun _ => rfl) rfl (leavesBusy_detectorMap _ _ _ _)
  case setChamberConfig => exact served _ (fun _ => rfl) rfl (leavesBusy_chamberConfig _)
  case setTiming => exact served _ (fun _ => rfl) rfl (leavesBusy_timing _ _ _ _ _)
  case readSetting group index =>
    by_cases hg : group = 6
    · exact granted (fun s => congrArg Host.Outcome.next (if_pos hg)) (decide_eq_true hg)
    · exact served _ (fun s => congrArg Host.Outcome.next (if_neg hg)) (decide_eq_false hg) (.of_same (fun _ => rfl))
  all_goals cases hr

/-- Settles O19: exec_request says which requests wait; a service leaves the arbiter where it is. -/
theorem requestsWaitForTheTable : Obligations.RequestsWaitForTheTable := by
  intro i p s hr hp ht ha ho hbusy
  rcases exec_request hr hp with ⟨hg, he⟩ | ⟨hg, f, hf, he⟩
  · exact ⟨fun _ => by rw [he, s.granted_waits ht ha ho hbusy], fun k => absurd (hg.symm.trans k) (by simp)⟩
  · exact ⟨fun k => absurd (hg.symm.trans k) (by simp), fun _ => ⟨(f s).1, (f s).2, by rw [he, s.served_eq ht ha ho], hf s hbusy⟩⟩

end Sys2Proof.Machine
end

section
/-!
PROOFS. The checks that come before a request's own (R13, R31, R37, R41, R42, R46, R185): the port, the operands, the lock, the
record and the permission, for all requests at once.
-/

namespace Sys2Proof.Machine

variable {c : Cause} {s t : State}

/-! ### A request as it arrives -/

/-- Every request goes through the checks of its arrival. -/
theorem exec_receives {i : Instr} {p : Port} (hr : i.isRequest = true) (hp : i.port = some p) (s : State) :
    ∃ serve, exec i s = .next (s.receive p i serve) := by
  rcases exec_request hr hp with ⟨_, he⟩ | ⟨_, f, _, he⟩
  · exact ⟨_, he s⟩
  · exact ⟨_, he s⟩

/-- A request that takes a grant is carried out as such. -/
theorem exec_grants {i : Instr} {p : Port} (hr : i.isRequest = true) (hp : i.port = some p) (hg : takesGrant i = true)
    (s : State) : exec i s = .next (s.granted p i) := by
  rcases exec_request hr hp with ⟨_, he⟩ | ⟨hn, _⟩
  · exact he s
  · exact absurd (hg.symm.trans hn) (by simp)

section Receive

variable {p : Port} {i : Instr} {serve : State → State}

theorem State.receive_wrongPort (ht : s.Takes p) (ha : portAccepts i = false) :
    s.receive p i serve = s.answer p i.code (.refuse .notPermitted) := by simp [State.receive, ht.1, ht.2, ha]

theorem State.receive_badField (ht : s.Takes p) (ha : portAccepts i = true) (ho : operandsOk i = false) :
    s.receive p i serve = s.answer p i.code (.refuse .badField) := by simp [State.receive, ht.1, ht.2, ha, ho]

theorem State.receive_overrun (ht : s.takesFrame p = true) (hf : s.inFlight p = true) :
    s.receive p i serve = s.countOverrun p := by simp [State.receive, ht, hf]

end Receive

/-- Table 10-4: six settings requests, SET_ACCESS and RESET_TALLIES come from the Line Port, the three safety requests from the
Plant Port. -/
theorem portAccepts_iff {i : Instr} {p : Port} (hr : i.isRequest = true) (hp : i.port = some p) : portAccepts i = true ↔
    (i.code = 0x06 ∨ i.code = 0x1A ∨ (0x50 ≤ i.code ∧ i.code ≤ 0x55) → p = .line)
      ∧ (i.code = 0x17 ∨ i.code = 0x18 ∨ i.code = 0x40 → p = .plant) := by
  cases i <;> cases hp
  case setAccess | resetTallies | setClass | setBayConfig | setZoneConfig | setDetectorMap | setChamberConfig | setTiming
      | liftQuarantine | confirmShred | clearAlarm => simp [portAccepts, Instr.code, Instr.frame]
  case getAttention | setAttentionMask | lockTable | unlockTable | register | readRecord | find | scan | amend | retire
      | quarantine | readTallies | assignBay | abortBay | setSoftStop | setLevelCap | clearFault | readBay | purge | stopChamber
      | readChamber | resumeFeed | enqueue | withdraw | readQueue | readZone | readSetting | status =>
    simp [portAccepts, Instr.code, Instr.frame]
  all_goals cases hr

/-! ### The range of every operand -/

theorem stageOf_isSome (n : Nat) : (stageOf n).isSome = true ↔ n ≤ 8 := by
  rcases Nat.lt_or_ge n 9 with h | h
  · have : ∀ m, m < 9 → (stageOf m).isSome = true := by decide
    exact ⟨fun _ => by omega, fun _ => this n h⟩
  · rw [stageOf_eq_none h]
    exact ⟨(by simp), fun k => by omega⟩

theorem modeOf_isSome (n : Nat) : (modeOf n).isSome = true ↔ n ≤ 1 := by
  rcases n with _ | _ | n <;> simp [modeOf]

theorem combineOf_isSome (n : Nat) : (combineOf n).isSome = true ↔ n ≤ 1 := by
  rcases n with _ | _ | n <;> simp [combineOf]

theorem kindOf_isSome (n : Nat) : (kindOf n).isSome = true ↔ n ≤ 1 := by
  rcases n with _ | _ | n <;> simp [kindOf]

theorem timingOk_iff (lo hi : Nat) (o : Option Nat) : timingOk lo hi o = true ↔ ∀ n, o = some n → lo ≤ n ∧ n ≤ hi := by
  cases o <;> simp [timingOk, within]

/-- AMEND's field and value: the six operator fields by their codes, each in its range (R16, Table 1-1). -/
theorem amendValue_iff (field v : Nat) : (fieldOf field).any (fun f => f.ok v) = true ↔
    (field = 0 ∧ v ≤ 7) ∨ (field = 1 ∧ 1 ≤ v ∧ v ≤ 240) ∨ (field = 2 ∧ 1 ≤ v ∧ v ≤ 5000) ∨ (field = 3 ∧ v ≤ 150000)
      ∨ (field = 4 ∧ 1 ≤ v ∧ v ≤ 10000) ∨ (field = 5 ∧ v ≤ 1) := by
  rcases field with _ | _ | _ | _ | _ | _ | n <;> simp [fieldOf, OpField.ok, within]

theorem operandsOk_amend (p : Port) (kind n field v : Nat) : operandsOk (.amend p kind n field v) =
    (((decide (kind = 0) && tagOk n) || (decide (kind = 1) && within 0 255 n)) && (fieldOf field).any (fun f => f.ok v)) := by
  cases h : fieldOf field <;> simp [operandsOk, h]

/-- The index of READ_SETTING: the first three groups have one, in the range of their settings (R180). -/
theorem operandsOk_readSetting (p : Port) (group given index : Nat) : operandsOk (.readSetting p group ⟨given, index⟩) = true ↔
    group ≤ 6 ∧ given ≤ 1 ∧ (group ≤ 2 → given = 1) ∧ (group = 0 → index ≤ 7) ∧ (group = 1 → index ≤ 11)
      ∧ (group = 2 → index ≤ 6) := by
  rcases group with _ | _ | _ | n <;> simp [operandsOk, within] <;> omega

/-- A lock hold time is a whole number of 10 ms periods (R179). -/
theorem lockMs_iff (o : Option Nat) : (timingOk 10 2550 o && decide (o.getD 0 % 10 = 0)) = true ↔
    ∀ n, o = some n → 10 ≤ n ∧ n ≤ 2550 ∧ n % 10 = 0 := by
  cases o <;> simp [timingOk, within, and_assoc]

/-- Settles O18: every request passes through State.receive, which names the checks in their order; each range is that of the
operand check, request by request. -/
theorem requestsAreCheckedBeforeAnythingElse : Obligations.RequestsAreCheckedBeforeAnythingElse := by
  refine ⟨fun i p s hr hp => ?_, fun p => ?_⟩
  · obtain ⟨serve, he⟩ := exec_receives hr hp s
    rw [he]
    refine ⟨fun ht ha => by rw [State.receive_wrongPort ht ha], fun ht ha ho => by rw [State.receive_badField ht ha ho],
      fun ht hf => ?_, portAccepts_iff hr hp⟩
    rw [State.receive_overrun ht hf]
    rfl
  · refine ⟨(by simp [operandsOk]), (by simp [operandsOk]), (by simp [operandsOk]), (by simp [operandsOk]), (by simp [operandsOk]),
      (by simp [operandsOk]), (by simp [operandsOk]), (by simp [operandsOk]), (by simp [operandsOk]), (by simp [operandsOk]),
      (by simp [operandsOk]), fun mask => ?_, fun base count lp pp lm pm => ?_, fun tag cls cells capacity declared mass damaged => ?_,
      fun n => ?_, fun stage start => ?_, fun kind n field v => ?_, fun n => ?_, fun n m => ?_,
      fun cls rate ev sv pm wt st rest => ?_, fun bay rating cap toff n mode combine retry => ?_,
      fun zone hw ha hh gw ga gh w => ?_, fun address used zone kind => ?_, fun level abort tol confirm purge => ?_,
      fun link lockMs rebound gate shred => ?_, operandsOk_readSetting p⟩
    · simp [operandsOk, within]
    · simp only [operandsOk, within, Bool.and_eq_true, decide_eq_true_eq]; omega
    · simp only [operandsOk, tagOk, OpField.ok, within, Bool.and_eq_true, decide_eq_true_eq]; omega
    · simp [operandsOk, within]
    · simp [operandsOk, within, stageOf_isSome]
    · simp only [operandsOk_amend, amendValue_iff, tagOk, within, Bool.and_eq_true, Bool.or_eq_true, decide_eq_true_eq, Nat.zero_le, true_and]
    · simp [operandsOk, tagOk, within]
    · simp [operandsOk, tagOk, within, and_assoc]
    · simp only [operandsOk, within, Bool.and_eq_true, decide_eq_true_eq]; omega
    · simp only [operandsOk, within, Bool.and_eq_true, Bool.or_eq_true, decide_eq_true_eq, modeOf_isSome, combineOf_isSome]; omega
    · simp only [operandsOk, within, Bool.and_eq_true, decide_eq_true_eq]; omega
    · simp only [operandsOk, within, Bool.and_eq_true, Bool.or_eq_true, decide_eq_true_eq, kindOf_isSome]; omega
    · simp only [operandsOk, within, Bool.and_eq_true, decide_eq_true_eq]; omega
    · rw [← timingOk_iff 3 15, ← lockMs_iff, ← timingOk_iff 1 7, ← timingOk_iff 5 60, ← timingOk_iff 10 300]
      simp [operandsOk, and_assoc]

/-! ### Checks 3 to 5 at the grant -/

section OnRecord

variable {p : Port} {f : Slot → Rec → Reply × State}

theorem State.onRecord_locked (h : s.lockedOut p = true) (slot : Option Slot) : s.onRecord p slot f = s.refuse .locked := by
  simp [State.onRecord, h]

/-- Check 4: a slot that is FREE, or outside the window of the port (R41). -/
theorem State.onRecord_unseen {i : Slot} (hl : s.lockedOut p = false) (h : s.record i = none ∨ s.sees p i = false) :
    s.onRecord p (some i) f = s.refuse .notFound := by
  simp [State.onRecord, hl, State.visible_eq_none h]

/-- Check 4: a tag that no record the port sees holds. -/
theorem State.onRecord_unknownTag {tag : Nat} (hl : s.lockedOut p = false)
    (h : ∀ k r, s.record k = some r → s.sees p k = true → r.tag ≠ tag) : s.onRecord p (s.findTag tag) f = s.refuse .notFound := by
  cases hk : s.findTag tag with
  | none => simp [State.onRecord, hl]
  | some k =>
    obtain ⟨r, hr, ht⟩ := s.findTag_some hk
    exact State.onRecord_unseen hl (.inr (Bool.eq_false_iff.mpr fun hs => h k r hr hs ht))

/-- Check 5: the segment is READ_ONLY to the port (R42). -/
theorem State.onRecord_protected {k : Slot} {r : Rec} (hl : s.lockedOut p = false) (hr : s.record k = some r)
    (hs : s.sees p k = true) (hm : s.mayChange p k = false) : s.onRecord p (some k) f = s.refuse .isProtected := by
  simp [State.onRecord, hl, State.visible_of_sees hs, hr, hm]

end OnRecord

theorem bayOf_of_within {n : Nat} (h : within 0 11 n = true) : ∃ b, bayOf n = some b := by
  have hn : n < 12 := by simp [within] at h; omega
  exact ⟨⟨n, hn⟩, bayOf_val ⟨n, hn⟩⟩

theorem classOf_of_within {n : Nat} (h : within 0 7 n = true) : ∃ k, classOf n = some k := by
  have hn : n < 8 := by simp [within] at h; omega
  exact ⟨⟨n, hn⟩, classOf_val ⟨n, hn⟩⟩

/-- The grant of AMEND is a request on the record that its selector names (R16). -/
theorem State.grantAmend_onRecord {p : Port} {kind n field v : Nat} (ho : operandsOk (.amend p kind n field v) = true) :
    ∃ f : State → Slot → Rec → Reply × State, ∀ s : State, s.grantAmend p kind n field v = s.onRecord p (s.selected kind n) (f s) := by
  rw [operandsOk_amend, Bool.and_eq_true, Option.any_eq_true] at ho
  obtain ⟨_, g, hg, _⟩ := ho
  exact ⟨_, fun s => by simp only [State.grantAmend, hg]; rfl⟩

/-- A request that names its record by its tag is, at its grant, a request on that record. -/
theorem serveGrant_named {i : Instr} {p : Port} {tag : Nat} (hn : namedTag i = some tag) (hp : i.port = some p)
    (ho : operandsOk i = true) : ∃ f : State → Slot → Rec → Reply × State,
      ∀ s, serveGrant i s = some (s.onRecord p (s.findTag tag) (f s)) := by
  cases i <;> cases hp
  case retire | quarantine | enqueue | withdraw =>
    cases hn
    exact ⟨_, fun _ => rfl⟩
  case assignBay n bay =>
    cases hn
    obtain ⟨b, hb⟩ := bayOf_of_within (Bool.and_eq_true _ _ ▸ ho).2
    exact ⟨_, fun s => by simp only [serveGrant, State.grantAssign, hb]; rfl⟩
  case amend kind n field v =>
    cases kind with
    | zero =>
      cases hn
      obtain ⟨f, hf⟩ := State.grantAmend_onRecord ho
      exact ⟨f, fun s => by rw [serveGrant, hf]; rfl⟩
    | succ k => cases hn
  all_goals cases hn

/-- Each of the eight record-changing requests is refused while the other port holds the lock (R37). -/
theorem serveGrant_locked {i : Instr} {p : Port} (hc : changesRecords i = true) (hp : i.port = some p)
    (ho : operandsOk i = true) (hl : s.lockedOut p = true) : serveGrant i s = some (s.refuse .locked) := by
  have named : ∀ tag, namedTag i = some tag → serveGrant i s = some (s.refuse .locked) := fun tag hn => by
    obtain ⟨f, hf⟩ := serveGrant_named hn hp ho
    rw [hf, State.onRecord_locked hl]
  cases i <;> cases hp
  case register tag cls cells capacity declared mass damaged =>
    simp only [operandsOk, Bool.and_eq_true, OpField.ok] at ho
    obtain ⟨⟨⟨⟨⟨⟨_, hcls⟩, _⟩, _⟩, _⟩, _⟩, _⟩ := ho
    obtain ⟨k, hk⟩ := classOf_of_within hcls
    simp [serveGrant, State.grantRegister, hk, hl]
  case amend kind n field v =>
    obtain ⟨f, hf⟩ := State.grantAmend_onRecord ho
    rw [serveGrant, hf, State.onRecord_locked hl]
  case abortBay bay =>
    obtain ⟨b, hb⟩ := bayOf_of_within ho
    simp [serveGrant, State.grantAbort, hb, hl]
  case retire | quarantine | assignBay | enqueue | withdraw => exact named _ rfl
  all_goals cases hc

theorem takesGrant_of_changesRecords {i : Instr} (h : changesRecords i = true) : takesGrant i = true ∧ portAccepts i = true
    ∧ i.isRequest = true := by
  cases i
  case register | amend | retire | quarantine | assignBay | abortBay | enqueue | withdraw => exact ⟨rfl, rfl, rfl⟩
  all_goals cases h

theorem changesRecords_of_namedTag {i : Instr} {tag : Nat} (h : namedTag i = some tag) : changesRecords i = true := by
  cases i
  case retire | quarantine | assignBay | enqueue | withdraw | amend => rfl
  all_goals cases h

/-- A record-changing request that its grant refuses is answered, and nothing else changes. -/
theorem exec_changesRecords_refused {i : Instr} {p : Port} {st : Status} (hf : s.Free p) (hc : changesRecords i = true)
    (hp : i.port = some p) (ho : operandsOk i = true)
    (hs : serveGrant i (s.setAccess (.port p)) = some ((s.setAccess (.port p)).refuse st)) :
    exec i s = .next (s.answer p i.code (.refuse st)) := by
  obtain ⟨hg, ha, hr⟩ := takesGrant_of_changesRecords hc
  exact exec_granted_refused hf (exec_grants hr hp hg s) ha ho hs

theorem exec_amendSlot_refused {p : Port} {k : Slot} {field v : Nat} {st : Status} (hf : s.Free p)
    (ho : operandsOk (.amend p 1 k.1 field v) = true)
    (hs : ∀ f, (s.setAccess (.port p)).onRecord p (some k) f = (s.setAccess (.port p)).refuse st) :
    exec (.amend p 1 k.1 field v) s = .next (s.answer p 0x14 (.refuse st)) := by
  obtain ⟨f, hg⟩ := State.grantAmend_onRecord ho
  have hsel : (s.setAccess (.port p)).selected 1 k.1 = some k := by simp [State.selected]
  exact exec_changesRecords_refused hf rfl rfl ho (by rw [serveGrant, hg, hsel, hs])

/-- A safety request on a tag that no live record holds (R46). -/
theorem State.anyRecord_unknownTag {tag : Nat} {f : Slot → Rec → Reply × State} (h : ∀ k r, s.record k = some r → r.tag ≠ tag) :
    s.anyRecord tag f = s.refuse .notFound := by
  rw [State.anyRecord, (s.findTag_none tag).mpr h]

/-- Settles O20: the requests are reduced to State.onRecord and State.anyRecord, whose refusals stand in the order of R13. -/
theorem recordRequestsAreCheckedInOrder : Obligations.RecordRequestsAreCheckedInOrder := by
  intro p s hf
  refine ⟨fun i l hc hp ho hl hne => ?_, fun hl => ⟨fun i tag hn hp ho => ⟨fun h => ?_, fun hu k r hr hs ht hm => ?_⟩,
    fun k field v ho => ⟨fun h => ?_, fun hr hs hm => ?_⟩⟩, fun hpl tag htag h => ⟨?_, fun outcome hout => ?_⟩⟩
  · exact exec_changesRecords_refused hf hc hp ho
      (serveGrant_locked hc hp ho (s.setAccess_lockedOut (.port p) p ▸ State.lockedOut_eq_true hl hne))
  · obtain ⟨f, hs⟩ := serveGrant_named hn hp ho
    exact exec_changesRecords_refused hf (changesRecords_of_namedTag hn) hp ho
      (by rw [hs, State.onRecord_unknownTag (by simpa using hl) (by simpa using h)])
  · obtain ⟨f, hg⟩ := serveGrant_named hn hp ho
    refine exec_changesRecords_refused hf (changesRecords_of_namedTag hn) hp ho ?_
    rw [hg, State.setAccess_findTag, ← ht, s.findTag_eq hu hr,
      State.onRecord_protected (r := r) (by simpa using hl) (by simpa using hr) (by simpa using hs) (by simpa using hm)]
  · exact exec_amendSlot_refused hf ho fun f => State.onRecord_unseen (by simpa using hl) (by simpa using h)
  · obtain ⟨r, hr⟩ := Option.ne_none_iff_exists'.mp hr
    exact exec_amendSlot_refused hf ho fun f =>
      State.onRecord_protected (r := r) (by simpa using hl) (by simpa using hr) (by simpa using hs) (by simpa using hm)
  · subst hpl
    exact exec_granted_refused hf rfl rfl htag (congrArg some (State.anyRecord_unknownTag (by simpa using h)))
  · subst hpl
    exact exec_granted_refused hf rfl rfl (by simp [operandsOk, htag, within, hout])
      (congrArg some (State.anyRecord_unknownTag (by simpa using h)))

end Sys2Proof.Machine
end

section
/-!
PROOFS. The record requests that ask for no engine write (R14 to R17, R21, R22, R27): REGISTER, RETIRE, AMEND, RESET_TALLIES and
CONFIRM_SHRED at a free table; the access settings (R44, R45); the end of the lock's hold time (R39); and the order in which
grants pass on (R33).
-/

namespace Sys2Proof.Machine

variable {c : Cause} {s t : State} {p : Port} {i : Slot} {r : Rec}

/-! ### RESET_TALLIES -/

/-- The mass in the path, summed over the records of the path alone (R25). -/
theorem State.pathMass_filterMap (s : State) : s.pathMass = (s.slots.1.filterMap (fun o => o.bind (fun r =>
    if r.stage = .inShredder ∨ r.stage = .shredUnconfirmed then some r.mass else none))).sum := by
  unfold State.pathMass
  generalize s.slots.1 = l
  induction l with
  | nil => rfl
  | cons o l ih =>
    rw [List.map_cons, List.sum_cons, ih]
    cases o with
    | none => simp
    | some r => by_cases h : r.stage = .inShredder ∨ r.stage = .shredUnconfirmed <;> simp [h]

/-- Settles O23: the grant sets the tallies alone, and its sum over the path is the sum over the path's records. -/
theorem resetTalliesStartsANewPeriod : Obligations.ResetTalliesStartsANewPeriod := by
  intro s hf
  dsimp only
  rw [← s.pathMass_filterMap]
  exact s.exec_granted_calm hf rfl rfl rfl rfl rfl rfl rfl rfl rfl rfl

/-! ### REGISTER and RETIRE -/

theorem State.setAccess_permittedFree (s : State) (a : Access) (p : Port) : (s.setAccess a).permittedFree p = s.permittedFree p := by
  simp only [State.permittedFree, State.setAccess_record, State.setAccess_sees, State.setAccess_mayChange]

/-- No FREE slot of the permitted segments: the table is full to the port (R15). -/
theorem State.permittedFree_none (h : ∀ i, ¬ (s.record i = none ∧ s.sees p i = true ∧ s.mayChange p i = true)) :
    s.permittedFree p = none := by
  rw [State.permittedFree, List.find?_eq_none]
  intro i _ hi
  simp only [Bool.and_eq_true, Option.isNone_iff_eq_none, and_assoc] at hi
  exact h i hi

/-- The lowest FREE slot of the permitted segments (R15). -/
theorem State.permittedFree_some (h : s.record i = none ∧ s.sees p i = true ∧ s.mayChange p i = true)
    (hl : ∀ j, j < i → ¬ (s.record j = none ∧ s.sees p j = true ∧ s.mayChange p j = true)) : s.permittedFree p = some i := by
  rw [State.permittedFree, Bank.places, List.find?_eq_some_iff_getElem]
  refine ⟨by simp [h], i.1, by simp [i.2], by simp, fun j hj => ?_⟩
  have := hl ⟨j, by omega⟩ hj
  rw [List.getElem_finRange, Bool.not_eq_true', Bool.eq_false_iff]
  intro hk
  simp only [Bool.and_eq_true, Option.isNone_iff_eq_none, and_assoc] at hk
  exact this hk

section Register

variable {tag cells capacity declared mass damaged : Nat} {k : ClassId}

/-- REGISTER's own checks, in their order, with its class an actual one (R14). -/
theorem State.grantRegister_eq (hl : s.lockedOut p = false) : s.grantRegister p tag k.1 cells capacity declared mass damaged =
    if (s.findTag tag).isSome then s.refuse .duplicateTag
    else if (s.settings.classes.get k).isNone then s.refuse .classUnset
    else match s.permittedFree p with
      | none => s.refuse .tableFull
      | some i => (.ok (.slot i),
          ((s.setRecord i (some (newRecord p tag k cells capacity declared mass damaged))).useClass k).setTallies
            { s.tallies with registered := satAdd tallyMax s.tallies.registered 1 }) := by
  simp only [State.grantRegister, classOf_val, hl, Bool.false_eq_true, if_false] <;> rfl

theorem exec_register_refused {st : Status} (hf : s.Free p)
    (ho : operandsOk (.register p tag k.1 cells capacity declared mass damaged) = true)
    (hs : (s.setAccess (.port p)).grantRegister p tag k.1 cells capacity declared mass damaged = (s.setAccess (.port p)).refuse st) :
    exec (.register p tag k.1 cells capacity declared mass damaged) s = .next (s.answer p 0x10 (.refuse st)) :=
  exec_granted_refused hf rfl rfl ho (congrArg some hs)

end Register

theorem State.findTag_isSome_iff {tag : Nat} : (s.findTag tag).isSome = true ↔ ∃ i r, s.record i = some r ∧ r.tag = tag := by
  rw [← Option.ne_none_iff_isSome, ne_eq, s.findTag_none]
  simp

/-- RETIRE's own checks, in their order (R17). -/
theorem State.grantRetire_eq (hu : s.TagsUnique) (hm : s.MayAct p i r) : s.grantRetire p r.tag =
    if r.stage ≠ .waiting ∧ r.stage ≠ .discharged then s.refuse .wrongStage
    else if r.flags.quarantine = true ∧ p = .line then s.refuse .notPermitted
    else (.ok (.slot i), (s.freeSlot i r).setTallies { s.tallies with intact := satAdd tallyMax s.tallies.intact 1 }) := by
  rw [State.grantRetire, s.findTag_eq hu hm.2.1, s.onRecord_mayAct hm]

theorem exec_register (hf : s.Free p) {tag cells capacity declared mass damaged : Nat} {k : ClassId} (hl : s.lockedOut p = false)
    (ho : operandsOk (.register p tag k.1 cells capacity declared mass damaged) = true)
    (ht : ¬ ∃ i r, s.record i = some r ∧ r.tag = tag) (hk : s.settings.classes.get k ≠ none) (hi : s.permittedFree p = some i) :
    exec (.register p tag k.1 cells capacity declared mass damaged) s = .next
      ((((s.setRecord i (some (newRecord p tag k cells capacity declared mass damaged))).useClass k).setTallies
        { s.tallies with registered := satAdd tallyMax s.tallies.registered 1 }).answer p 0x10 (.ok (.slot i))) := by
  refine s.exec_granted_calm hf rfl rfl ho (congrArg some ?_) rfl rfl rfl rfl rfl rfl
  rw [State.grantRegister_eq (by simpa using hl), State.setAccess_findTag, if_neg (by rwa [State.findTag_isSome_iff]),
    if_neg (by simpa using hk), State.setAccess_permittedFree, hi]
  rfl

/-- Settles O24: both grants by their own checks; the slot a REGISTER takes is the first that passes its search. -/
theorem recordsAreRegisteredAndRetired : Obligations.RecordsAreRegisteredAndRetired := by
  refine ⟨fun p s tag cls cells capacity declared mass damaged k hf ho hk hl => ?_, fun p s i r hf hu hm ht => ?_⟩
  · subst hk
    have hg := State.grantRegister_eq (s := s.setAccess (.port p)) (p := p) (tag := tag) (k := k) (cells := cells)
      (capacity := capacity) (declared := declared) (mass := mass) (damaged := damaged) (by simpa using hl)
    rw [State.setAccess_findTag, State.setAccess_permittedFree] at hg
    refine ⟨fun h => ?_, fun h hc => ?_, fun h hc hfull => ?_, fun h hc i hi hlow => ?_⟩
    · exact exec_register_refused hf ho (by rw [hg, if_pos (State.findTag_isSome_iff.mpr h)])
    · exact exec_register_refused hf ho (by rw [hg, if_neg (by rwa [State.findTag_isSome_iff]), if_pos (by simpa using hc)])
    · exact exec_register_refused hf ho (by
        rw [hg, if_neg (by rwa [State.findTag_isSome_iff]), if_neg (by simpa using hc), State.permittedFree_none hfull])
    · exact exec_register hf hl ho h hc (State.permittedFree_some hi hlow)
  · have hg := State.grantRetire_eq (s := s.setAccess (.port p)) hu (s.mayAct_setAccess _ hm)
    refine ⟨fun h => ?_, fun h hq hp => ?_, fun h hq => ?_⟩
    · exact exec_granted_refused hf rfl rfl ht (congrArg some (by rw [hg, if_pos (not_or.mp h)]; rfl))
    · exact exec_granted_refused hf rfl rfl ht (congrArg some (by rw [hg, if_neg (fun k => h.elim k.1 k.2), if_pos ⟨hq, hp⟩]; rfl))
    · refine s.exec_granted_calm hf rfl rfl ht (congrArg some ?_) rfl rfl rfl rfl rfl rfl
      rw [hg, if_neg (fun k => h.elim k.1 k.2), if_neg (by rintro ⟨h1, h2⟩; exact absurd (h2.symm.trans (hq h1)) (by simp))]
      rfl

/-! ### AMEND -/

/-- AMEND's own checks, in their order (R16). -/
theorem State.grantAmend_eq {kind selector field value : Nat} {f : OpField} (hm : s.MayAct p i r)
    (hsel : s.selected kind selector = some i) (hfd : fieldOf field = some f) : s.grantAmend p kind selector field value =
      if !(s.fieldMask p).getLsbD f.bit then s.refuse .notPermitted
      else if r.stage ≠ .waiting then s.refuse .wrongStage
      else if s.amendUnset f value then s.refuse .classUnset
      else (s.amendField i r f value).withRecord i := by
  rw [State.grantAmend, hfd]
  show s.onRecord p (s.selected kind selector) _ = _
  rw [hsel, s.onRecord_mayAct hm]

/-- The bit of a field in the field masks is the field's code (R43, R181). -/
theorem OpField.bit_eq {field : Nat} {f : OpField} (h : fieldOf field = some f) : f.bit = field := by
  rcases field with _ | _ | _ | _ | _ | _ | n <;> cases h <;> rfl

/-- AMEND of a record that may be amended, with the field's value in its range: the state the grant makes and the record it
leaves there. -/
theorem exec_amend {kind selector field value : Nat} {f : OpField} {t : State} {r' : Rec} (hf : s.Free p) (hm : s.MayAct p i r)
    (ho : operandsOk (.amend p kind selector field value) = true) (hsel : (s.setAccess (.port p)).selected kind selector = some i)
    (hfd : fieldOf field = some f) (hmask : (s.fieldMask p).getLsbD field = true) (hw : r.stage = .waiting)
    (hset : (s.setAccess (.port p)).amendUnset f value = false)
    (ha : (s.setAccess (.port p)).amendField i r f value = t.setAccess (.port p)) (hr : t.record i = some r')
    (hl : t.line = s.line) (hp : t.plant = s.plant) (hb : t.bays = s.bays) (harb : t.arb = s.arb) :
    exec (.amend p kind selector field value) s = .next (t.answer p 0x14 (.ok (.record (t.view i r')))) := by
  refine s.exec_granted_calm hf rfl rfl ho (congrArg some ?_) hl hp hb (by rw [harb]) (by rw [harb]) (by rw [harb])
  rw [State.grantAmend_eq (s.mayAct_setAccess _ hm) hsel hfd, State.setAccess_fieldMask, OpField.bit_eq hfd, if_neg (by simp [hmask]),
    if_neg (by simp [hw]), if_neg (by simp [hset]), ha, State.withRecord, State.recordReply, State.setAccess_record, hr]
  rfl

theorem fieldOf_some {field v : Nat} (h : (fieldOf field).any (fun f => f.ok v) = true) : ∃ f, fieldOf field = some f := by
  obtain ⟨f, hf, _⟩ := Option.any_eq_true _ _ |>.mp h
  exact ⟨f, hf⟩

/-- The selector names the record: by its tag, which it alone holds, or by its slot (R16). -/
theorem State.selected_eq {kind selector : Nat} (hr : s.record i = some r) (hk : kind = 0 ∨ kind = 1)
    (h0 : kind = 0 → s.TagsUnique ∧ selector = r.tag) (h1 : kind = 1 → selector = i.1) : s.selected kind selector = some i := by
  rcases hk with rfl | rfl
  · obtain ⟨hu, rfl⟩ := h0 rfl
    exact s.findTag_eq hu hr
  · rw [h1 rfl]
    exact slotOf_val i

/-- Settles O25: the grant by its own checks, then the field by field effect of State.amendField. -/
theorem amendGivesTheFieldItsValue : Obligations.AmendGivesTheFieldItsValue := by
  intro p s kind selector field value i r hf hm ho h0 h1
  have hok := ho
  rw [operandsOk_amend, Bool.and_eq_true] at hok
  obtain ⟨hkind, hval⟩ := hok
  obtain ⟨f, hfd⟩ := fieldOf_some hval
  have hsel : (s.setAccess (.port p)).selected kind selector = some i :=
    State.selected_eq hm.2.1 (by rcases (Bool.or_eq_true _ _).mp hkind with h | h <;> simp at h <;> simp [h]) h0 h1
  have hg := State.grantAmend_eq (value := value) (s.mayAct_setAccess (.port p) hm) hsel hfd
  rw [State.setAccess_fieldMask, OpField.bit_eq hfd] at hg
  have refused : ∀ st, (s.setAccess (.port p)).grantAmend p kind selector field value = (s.setAccess (.port p)).refuse st →
      exec (.amend p kind selector field value) s = .next (s.answer p 0x14 (.refuse st)) := fun st h =>
    exec_granted_refused hf rfl rfl ho (congrArg some h)
  refine ⟨fun hmask => refused _ (by rw [hg, hmask]; rfl), fun hmask hst => refused _ (by rw [hg, hmask]; simp [hst]),
    fun hmask hst => ⟨?_, ?_, ?_, ?_, ?_, ?_⟩⟩
  · rintro rfl
    exact exec_amend hf hm ho hsel rfl hmask hst rfl (t := s.setRecord i (some { r with cells := value })) rfl (by simp) rfl rfl rfl rfl
  · rintro rfl
    exact exec_amend hf hm ho hsel rfl hmask hst rfl (t := s.setRecord i (some { r with capacity := value })) rfl (by simp) rfl rfl
      rfl rfl
  · rintro rfl
    exact exec_amend hf hm ho hsel rfl hmask hst rfl (t := s.setRecord i (some { r with declared := value })) rfl (by simp) rfl rfl
      rfl rfl
  · rintro rfl
    exact exec_amend hf hm ho hsel rfl hmask hst rfl (t := s.setRecord i (some { r with mass := value })) rfl (by simp) rfl rfl rfl rfl
  · rintro rfl
    exact exec_amend hf hm ho hsel rfl hmask hst rfl
      (t := s.setRecord i (some { r with flags := { r.flags with damaged := decide (value = 1) } })) rfl (by simp) rfl rfl rfl rfl
  · rintro rfl k rfl
    cases hfd
    have hunset : (s.setAccess (.port p)).amendUnset .cls k.1 = (s.settings.classes.get k).isNone := by simp [State.amendUnset]
    refine ⟨fun hk => refused _ (by rw [hg, hmask, hunset, hk]; simp [hst]), fun hk => ?_⟩
    refine exec_amend hf hm ho hsel rfl hmask hst (by rw [hunset]; simpa [← Option.ne_none_iff_isSome] using hk) ?_ (by simp [State.useClass, State.unuseClass])
      rfl rfl rfl rfl
    simp only [State.amendField, classOf_val]
    rfl

/-! ### CONFIRM_SHRED -/

/-- Settles O27: the grant changes records, tallies and the path list, then admission is evaluated. -/
theorem confirmShredSettlesTheRecord : Obligations.ConfirmShredSettlesTheRecord := by
  intro s i r hf hu hr ht
  have ho : ∀ outcome, outcome ≤ 1 → operandsOk (.confirmShred .plant r.tag outcome) = true := fun outcome h => by
    simp [operandsOk, ht, within, h]
  have hg : ∀ outcome, (s.setAccess (.port .plant)).grantConfirm r.tag outcome = _ := fun outcome =>
    State.anyRecord_eq (i := i) (r := r) _ hu hr
  refine ⟨fun h => ⟨?_, ?_⟩, fun h => ⟨?_, ?_⟩⟩
  · exact exec_granted_refused hf rfl rfl (ho 0 (by omega)) (congrArg some (by rw [hg]; simp [h, State.refuse]))
  · exact exec_granted_refused hf rfl rfl (ho 1 (by omega)) (congrArg some (by rw [hg]; simp [h, State.refuse]))
  · refine s.exec_granted_evaluates hf rfl rfl (ho 0 (by omega)) (congrArg some ?_) (hf.2.same rfl rfl rfl rfl)
    rw [hg]
    simp only [h]
    rfl
  · refine s.exec_granted_evaluates hf rfl rfl (ho 1 (by omega)) (congrArg some ?_) (hf.2.same rfl rfl rfl rfl)
    rw [hg]
    simp only [h]
    rfl

/-! ### The lock's end and the access settings -/

/-- Settles O29: attention raised on the holder's port in a running part, and the mark. -/
theorem lockExpiryTellsTheHolder : Obligations.LockExpiryTellsTheHolder := by
  intro s l hr hl
  have he : exec .lockHoldExpiry s = .next (s.whenRunning State.expireLock) := rfl
  rw [he, s.whenRunning_running hr, State.expireLock, hl]
  have hr' : (s.setArb { s.arb with lock := none }).running = true := hr
  simp only [State.raisePort, hr', if_true]
  cases l.holder <;> rfl

/-- Settles O30: SET_ACCESS stores the settings at its grant, READ_SETTING of their group reads them there. -/
theorem accessSettingsAreSetAndRead : Obligations.AccessSettingsAreSetAndRead := by
  intro s
  refine ⟨fun base count lp pp lm pm hf h1 h2 h3 h4 h5 h6 h7 => ?_, fun p index hi => ⟨fun hf => ?_, fun ht hbusy => ?_⟩⟩
  · have ho : operandsOk (.setAccess .line base count lp pp lm pm) = true := by simp [operandsOk, within]; omega
    exact s.exec_granted_calm hf rfl rfl ho rfl rfl rfl rfl rfl rfl rfl
  · have ho : operandsOk (.readSetting p 6 index) = true := by simp [operandsOk, within, hi]
    have he : exec (.readSetting p 6 index) s = .next (s.granted p (.readSetting p 6 index)) := rfl
    rw [he, State.granted_read (rep := .ok (.access s.access)) hf rfl ho rfl]
    rfl
  · have ho : operandsOk (.readSetting p 6 index) = true := by simp [operandsOk, within, hi]
    have he : exec (.readSetting p 6 index) s = .next (s.granted p (.readSetting p 6 index)) := rfl
    rw [he, s.granted_waits ht rfl ho hbusy]

/-! ### The order of the grants -/

theorem State.nextAccess_fire (h : s.arb.sweeps ≠ []) : s.nextAccess = .engine .fire := by
  simp [State.nextAccess, h]

theorem State.nextAccess_feed (h : s.arb.sweeps = []) (hf : s.arb.feedWrites ≠ []) : s.nextAccess = .engine .feed := by
  simp [State.nextAccess, h, hf]

/-- The lowest-numbered bay channel with a write comes before the ports (R33). -/
theorem State.nextAccess_bay {b : BayId} (h : s.arb.sweeps = []) (hf : s.arb.feedWrites = []) (hb : (s.bay b).writes ≠ [])
    (hl : ∀ a, a < b → (s.bay a).writes = []) : s.nextAccess = .engine (.bay b) := by
  have hfind : s.bays.find (fun x => !x.writes.isEmpty) = some b := by
    refine Bank.find_eq (by simpa [State.bay] using hb) fun a ha => ?_
    have := hl a ha
    simp only [State.bay] at this
    simp [this]
  simp [State.nextAccess, h, hf, hfind]

/-- Settles O31: where the next access goes, writer by writer, and what the end of a grant does with it. -/
theorem grantsPassOnInOrder : Obligations.GrantsPassOnInOrder := by
  intro s n
  have find_none : s.NoWrites → s.bays.find (fun x => !x.writes.isEmpty) = none := fun h => by
    rw [Bank.find_none]
    intro b
    have := h.2.2 b
    simp only [State.bay] at this
    simp [this]
  refine ⟨fun h => ?_, fun h hf => ?_, fun h hf b hb hl => ?_, fun h i hp => ?_, fun h hp i hl => ?_, fun h hp hl => ?_⟩
  · simp [State.endGrant, State.nextAccess_fire h]
  · simp [State.endGrant, State.nextAccess_feed h hf]
  · simp [State.endGrant, State.nextAccess_bay h hf hb hl]
  · have hn : s.nextAccess = .port .plant := by simp [State.nextAccess, h.1, h.2.1, find_none h, hp]
    simp [State.endGrant, hn, State.port, hp]
  · have hn : s.nextAccess = .port .line := by simp [State.nextAccess, h.1, h.2.1, find_none h, hp, hl]
    simp [State.endGrant, hn, State.port, hl]
  · exact s.endGrant_quiet (n + 1) h hp hl

end Sys2Proof.Machine
end

section
/-!
PROOFS. The record requests that move a bay channel in their grant (R18, R19, R65 to R67): what such a grant leaves of the writes
that wait, and QUARANTINE, LIFT_QUARANTINE, ASSIGN_BAY and ABORT_BAY at a free table.
-/

namespace Sys2Proof.Machine

variable {c : Cause} {s t : State} {p : Port} {i : Slot} {r : Rec} {b : BayId}

/-! ### Where the table goes next -/

/-- The two states have the same writes and requests waiting, and the arbiter stands in the same place. -/
structure State.AsksNothing (s t : State) : Prop where
  arb : t.arb = s.arb
  writes : ∀ b, (t.bay b).writes = (s.bay b).writes
  ports : ∀ p, (t.port p).waitingRequest = (s.port p).waitingRequest

theorem State.AsksNothing.refl (s : State) : s.AsksNothing s := ⟨rfl, fun _ => rfl, fun _ => rfl⟩

theorem State.AsksNothing.trans {u : State} (h : s.AsksNothing t) (k : t.AsksNothing u) : s.AsksNothing u :=
  ⟨k.arb.trans h.arb, fun b => (k.writes b).trans (h.writes b), fun p => (k.ports p).trans (h.ports p)⟩

theorem State.AsksNothing.of_same (ha : t.arb = s.arb) (hb : t.bays = s.bays) (hl : t.line = s.line) (hp : t.plant = s.plant) :
    s.AsksNothing t := ⟨ha, fun b => by simp only [State.bay, hb], State.port_of s t hl hp⟩

theorem State.AsksNothing.bay {x : Bay} (h : x.writes = (s.bay b).writes) : s.AsksNothing (s.setBay b x) :=
  ⟨rfl, fun a => by
    rw [s.bay_setBay b a x]
    split
    · next e => rw [e, h]
    · rfl, fun p => by simp⟩

theorem State.AsksNothing.modBay (b : BayId) {f : Bay → Bay} (h : (f (s.bay b)).writes = (s.bay b).writes) :
    s.AsksNothing (s.modBay b f) := .bay h

theorem State.AsksNothing.raise (f : Attn → Attn) : s.AsksNothing (s.raise f) := by
  refine ⟨?_, fun b => ?_, fun p => State.raise_waiting s f p⟩ <;> obtain ⟨x, y, h⟩ := s.raise_frame f <;> rw [h] <;> rfl

/-- A state in which the same waits is as quiet. -/
theorem State.Quiet.stays (h : s.Quiet) (k : s.AsksNothing t) : t.Quiet := by
  obtain ⟨ha, ⟨hs, hf, hb⟩, hl, hp⟩ := h
  refine ⟨k.arb ▸ ha, ⟨k.arb ▸ hs, k.arb ▸ hf, fun b => (k.writes b).trans (hb b)⟩, (k.ports .line).trans hl, (k.ports .plant).trans hp⟩

/-- The arbiter stands where the next access puts it, and no port request waits. -/
structure State.Settled (s : State) : Prop where
  next : s.nextAccess = s.arb.access
  line : s.line.waitingRequest = none
  plant : s.plant.waitingRequest = none

theorem State.Quiet.settled (h : s.Quiet) : s.Settled :=
  ⟨(s.nextAccess_quiet h.2.1 h.2.2.2 h.2.2.1).trans h.1.symm, h.2.2.1, h.2.2.2⟩

/-- The next access is read from what waits. -/
theorem State.AsksNothing.nextAccess (h : s.AsksNothing t) : t.nextAccess = s.nextAccess := by
  have hb : t.bays.find (fun x => !x.writes.isEmpty) = s.bays.find (fun x => !x.writes.isEmpty) := by
    have hw : ∀ a, (t.bays.get a).writes = (s.bays.get a).writes := h.writes
    unfold Bank.find
    have : t.bays.1.findIdx (fun x => !x.writes.isEmpty) = s.bays.1.findIdx (fun x => !x.writes.isEmpty) := by
      rw [Bank.list_eq_map_get t.bays, Bank.list_eq_map_get s.bays, List.findIdx_map, List.findIdx_map]
      congr 1
      funext a
      simp [hw]
    simp only [this]
  have hl := h.ports .line
  have hp := h.ports .plant
  simp only [State.port] at hl hp
  simp only [State.nextAccess, h.arb, hb, hl, hp]

theorem State.Settled.stays (h : s.Settled) (k : s.AsksNothing t) : t.Settled :=
  ⟨by rw [k.nextAccess, k.arb, h.next], (k.ports .line).trans h.line, (k.ports .plant).trans h.plant⟩

/-- A write that a bay channel asks for at a quiet table is the next to be granted. -/
theorem State.Quiet.askBay (h : s.Quiet) (b : BayId) (w : BayWrite) : (s.askBay b w).Settled := by
  obtain ⟨ha, ⟨hs, hf, hb⟩, hl, hp⟩ := h
  have he : s.askBay b w = (s.modBay b (fun x => { x with writes := x.writes ++ [w] })).setAccess (.engine (.bay b)) := by
    rw [State.askBay, State.wake_eq, if_pos (by simpa using ha)]
  rw [he]
  refine ⟨?_, (State.port_of s _ (by simp) (by simp) .line).trans hl, (State.port_of s _ (by simp) (by simp) .plant).trans hp⟩
  refine State.nextAccess_bay (by simpa using hs) (by simpa using hf) ?_ fun a ha => ?_
  · rw [State.setAccess_bay, State.modBay, State.bay_setBay_same]
    simp
  · rw [State.setAccess_bay, State.modBay, State.bay_setBay, if_neg (by rintro rfl; exact Nat.lt_irrefl _ ha), hb]

/-- What exec answers for a request whose grant leaves the table settled. -/
theorem exec_granted_settled {req : Instr} {rep : Reply} (hf : s.Free p) (he : exec req s = .next (s.granted p req))
    (ha : portAccepts req = true) (ho : operandsOk req = true)
    (hs : serveGrant req (s.setAccess (.port p)) = some (rep, t.setAccess (.port p))) (ht : t.Settled) :
    exec req s = .next (t.answer p req.code rep) :=
  s.exec_granted_settles hf he ha ho hs ht.line ht.plant ht.next

/-! ### Holds in a grant -/

theorem State.raise_setAccess (s : State) (a : Access) (f : Attn → Attn) : (s.setAccess a).raise f = (s.raise f).setAccess a := by
  cases hr : s.running with
  | false => simp [State.raise, State.raisePort, hr]
  | true => rw [s.raise_eq hr, State.raise_eq _ (by simpa using hr)]; rfl

theorem State.raiseBay_setAccess (s : State) (a : Access) (b : BayId) (d : BayDetail) :
    (s.setAccess a).raiseBay b d = (s.raiseBay b d).setAccess a := State.raise_setAccess s a _

/-- An unbound bay keeps no hold cause (R54). -/
theorem State.addHold_unbound {k : HoldCause} (h : (s.bay b).binding = none) : s.addHold b k = s := by simp [State.addHold, h]

/-- A bound bay in a run state goes to HELD (R55). -/
theorem State.addHold_runs {e : Entry} {g : RunState} {k : HoldCause} (h : (s.bay b).binding = some e)
    (hm : (s.bay b).mode.run = some g) : s.addHold b k = (s.setBay b { s.bay b with
      holds := (s.bay b).holds.put true k, mode := .held, heldFrom := some g, level := 0, holdOff := none, blanking := 0
      fault := none }).raiseBay b .hold := by simp [State.addHold, h, hm]

/-- Another bound bay takes the cause alone (R53, R57). -/
theorem State.addHold_rests {e : Entry} {k : HoldCause} (h : (s.bay b).binding = some e) (hm : (s.bay b).mode.run = none) :
    s.addHold b k = s.setBay b { s.bay b with holds := (s.bay b).holds.put true k } := by simp [State.addHold, h, hm]

theorem State.addHold_setAccess (s : State) (a : Access) (b : BayId) (k : HoldCause) :
    (s.setAccess a).addHold b k = (s.addHold b k).setAccess a := by
  cases hb : (s.bay b).binding with
  | none => rw [State.addHold_unbound hb, State.addHold_unbound (s := s.setAccess a) hb]
  | some e =>
    cases hm : (s.bay b).mode.run with
    | none => rw [State.addHold_rests hb hm, State.addHold_rests (s := s.setAccess a) hb hm]; rfl
    | some g =>
      rw [State.addHold_runs hb hm, State.addHold_runs (s := s.setAccess a) hb hm, ← State.raiseBay_setAccess]
      rfl

theorem State.addHold_asksNothing (s : State) (b : BayId) (k : HoldCause) : s.AsksNothing (s.addHold b k) := by
  unfold State.addHold
  dsimp only
  split
  · exact .refl s
  · split
    · exact (State.AsksNothing.bay (by rfl)).trans (.raise _)
    · exact .bay rfl

theorem State.askStage_unbound {g h : Stage} {o : Option (Nat × Nat)} (hb : (s.bay b).binding = none) :
    s.askStage b g h o = s := by simp [State.askStage, hb]

theorem State.askStage_bound {e : Entry} {g h : Stage} {o : Option (Nat × Nat)} (hb : (s.bay b).binding = some e) :
    s.askStage b g h o = (s.setBay b { s.bay b with lastStage := h }).askBay b
      (.stage { entry := e, expected := g, new := h, rest := o }) := by
  unfold State.askStage
  split
  · next e' he => obtain rfl : e' = e := Option.some.inj (he.symm.trans hb); rfl
  · next hn => exact absurd (hb.symm.trans hn) (by simp)

theorem State.askStage_setAccess (s : State) (p : Port) (b : BayId) (g h : Stage) (o : Option (Nat × Nat)) :
    (s.setAccess (.port p)).askStage b g h o = (s.askStage b g h o).setAccess (.port p) := by
  cases hb : (s.bay b).binding with
  | none => rw [State.askStage_unbound hb, State.askStage_unbound (s := s.setAccess (.port p)) hb]
  | some e =>
    rw [State.askStage_bound hb, State.askStage_bound (s := s.setAccess (.port p)) hb, ← State.askBay_setAccess]
    rfl

theorem State.payStage_settled (h : (s.bay b).stageOwed = false) : s.payStage b = s := by simp [State.payStage, h]

/-- The stage change owed is asked for, and owed no more (R95, R114). -/
theorem State.payStage_owed (h : (s.bay b).stageOwed = true) : s.payStage b =
    (s.setBay b { s.bay b with stageOwed := false }).askStage b .resting .discharging none := by
  simp only [State.payStage, h, if_true]; rfl

theorem State.payStage_setAccess (s : State) (p : Port) (b : BayId) :
    (s.setAccess (.port p)).payStage b = (s.payStage b).setAccess (.port p) := by
  cases h : (s.bay b).stageOwed with
  | false => rw [State.payStage_settled h, State.payStage_settled (s := s.setAccess (.port p)) h]
  | true =>
    rw [State.payStage_owed h, State.payStage_owed (s := s.setAccess (.port p)) h, ← State.askStage_setAccess]
    rfl

/-- What a resumed bay becomes before the attention it raises (R56, R57). -/
def State.resumed (s : State) (b : BayId) (g : RunState) : State :=
  if (s.bay b).releasePending then s.modBay b (fun x => x.resumeReleasing g)
  else match g with
    | .probing => s.modBay b (fun x => { x with mode := .probing, heldFrom := none, probe := x.probe.restart })
    | .active => (s.modBay b Bay.enterActive).payStage b
    | .resting => s.modBay b (fun x => { x with mode := .resting, heldFrom := none, restElapsed := 0 })
    | .retrying => s.modBay b Bay.beginRetry

theorem State.resume_none (h : (s.bay b).heldFrom = none) : s.resume b = s := by simp [State.resume, h]

theorem State.resume_some {g : RunState} (h : (s.bay b).heldFrom = some g) : s.resume b = (s.resumed b g).raiseBay b .hold := by
  simp only [State.resume, h, State.resumed] <;> cases g <;> rfl

theorem State.resumed_releasing (g : RunState) (h : (s.bay b).releasePending = true) :
    s.resumed b g = s.setBay b ((s.bay b).resumeReleasing g) := by simp only [State.resumed, h, if_true]; rfl

theorem State.resumed_setAccess (s : State) (p : Port) (b : BayId) (g : RunState) :
    (s.setAccess (.port p)).resumed b g = (s.resumed b g).setAccess (.port p) := by
  unfold State.resumed
  split
  · next h => rw [if_pos (by simpa using h)]; rfl
  · next h =>
    rw [if_neg (by simpa using h)]
    cases g with
    | active => exact (s.modBay b Bay.enterActive).payStage_setAccess p b
    | probing => rfl
    | resting => rfl
    | retrying => rfl

theorem State.resume_setAccess (s : State) (p : Port) (b : BayId) :
    (s.setAccess (.port p)).resume b = (s.resume b).setAccess (.port p) := by
  cases h : (s.bay b).heldFrom with
  | none => rw [State.resume_none h, State.resume_none (s := s.setAccess (.port p)) h]
  | some g =>
    rw [State.resume_some h, State.resume_some (s := s.setAccess (.port p)) h, ← State.raiseBay_setAccess, State.resumed_setAccess]

/-- The channel with a hold cause gone from its set (R54). -/
def State.unheld (s : State) (b : BayId) (k : HoldCause) : State :=
  s.setBay b { s.bay b with holds := (s.bay b).holds.put false k }

theorem State.dropHold_unbound {k : HoldCause} (h : (s.bay b).binding = none) : s.dropHold b k = s := by simp [State.dropHold, h]

/-- A bound bay loses the cause; a HELD bay without one resumes (R54, R56). -/
theorem State.dropHold_bound {e : Entry} {k : HoldCause} (h : (s.bay b).binding = some e) : s.dropHold b k =
    if (s.bay b).mode = .held ∧ ((s.bay b).holds.put false k).empty = true then (s.unheld b k).resume b else s.unheld b k := by
  unfold State.dropHold
  split
  · next hn => exact absurd (h.symm.trans hn) (by simp)
  · simp only [State.modBay, State.bay_setBay_same]; rfl

theorem State.dropHold_setAccess (s : State) (p : Port) (b : BayId) (k : HoldCause) :
    (s.setAccess (.port p)).dropHold b k = (s.dropHold b k).setAccess (.port p) := by
  cases h : (s.bay b).binding with
  | none => rw [State.dropHold_unbound h, State.dropHold_unbound (s := s.setAccess (.port p)) h]
  | some e =>
    rw [State.dropHold_bound h, State.dropHold_bound (s := s.setAccess (.port p)) h, State.setAccess_bay]
    have hu : (s.setAccess (.port p)).unheld b k = (s.unheld b k).setAccess (.port p) := rfl
    rw [hu, State.resume_setAccess]
    split <;> rfl

theorem State.Quiet.askStage (hq : s.Quiet) (b : BayId) (g h : Stage) (o : Option (Nat × Nat)) : (s.askStage b g h o).Settled := by
  cases hb : (s.bay b).binding with
  | none => rw [State.askStage_unbound hb]; exact hq.settled
  | some e =>
    rw [State.askStage_bound hb]
    exact State.Quiet.askBay (hq.stays (.bay (by rfl))) b _

/-- A stage change still owed is asked for at a quiet table as the next write. -/
theorem State.Quiet.payStage (hq : s.Quiet) (b : BayId) : (s.payStage b).Settled := by
  cases h : (s.bay b).stageOwed with
  | false => rw [State.payStage_settled h]; exact hq.settled
  | true =>
    rw [State.payStage_owed h]
    exact State.Quiet.askStage (hq.stays (.bay (by rfl))) b _ _ _

theorem State.Quiet.resume (hq : s.Quiet) (b : BayId) : (s.resume b).Settled := by
  cases h : (s.bay b).heldFrom with
  | none => rw [State.resume_none h]; exact hq.settled
  | some g =>
    rw [State.resume_some h]
    refine State.Settled.stays ?_ (.raise _)
    unfold State.resumed
    split
    · exact (hq.stays (.modBay b rfl)).settled
    · cases g with
      | active => exact State.Quiet.payStage (hq.stays (.modBay b rfl)) b
      | probing => exact (hq.stays (.modBay b rfl)).settled
      | resting => exact (hq.stays (.modBay b rfl)).settled
      | retrying => exact (hq.stays (.modBay b rfl)).settled

/-- The end of a hold at a quiet table. -/
theorem State.Quiet.dropHold (hq : s.Quiet) (b : BayId) (k : HoldCause) : (s.dropHold b k).Settled := by
  cases h : (s.bay b).binding with
  | none => rw [State.dropHold_unbound h]; exact hq.settled
  | some e =>
    have hu : (s.unheld b k).Quiet := hq.stays (.bay (by rfl))
    rw [State.dropHold_bound h]
    split
    · exact hu.resume b
    · exact hu.settled

/-! ### QUARANTINE and LIFT_QUARANTINE -/

/-- QUARANTINE comes to its own checks, which go by the record's stage (R18). -/
theorem State.grantQuarantine_eq (hu : s.TagsUnique) (hm : s.MayAct p i r) : s.grantQuarantine p r.tag =
    if r.stage = .inShredder ∨ r.stage = .shredUnconfirmed then s.refuse .wrongStage
    else if r.stage = .queued then (.ok .empty, (s.pullFromFeed i r).evalAdmission)
    else if r.stage = .atGate then s.quarantineAtGate i
    else if r.stage.bound then (.ok .empty, (s.setRecord i (some r.quarantined)).holdForQuarantine r)
    else (.ok .empty, s.setRecord i (some r.quarantined)) := by
  rw [State.grantQuarantine, s.findTag_eq hu hm.2.1, s.onRecord_mayAct hm]
  cases h : r.stage <;> simp [Stage.bound]

/-- With no feed write waiting, a record AT_GATE is taken out of the feed (R18). -/
theorem State.quarantineAtGate_eq (hw : s.arb.feedWrites = []) (hr : s.record i = some r) (hs : r.stage = .atGate) :
    s.quarantineAtGate i = (.ok .empty, (s.pullFromFeed i r).evalAdmission) := by
  have hp : s.makeWaitingPass = s := by simp [State.makeWaitingPass, hw]
  simp [State.quarantineAtGate, hp, hr, hs]

theorem State.pullFromFeed_queued (h : r.stage = .queued) : s.pullFromFeed i r =
    (s.setRecord i (some { r with flags := { r.flags with quarantine := true }, stage := .discharged })).setFeed
      { s.feed with queue := s.feed.queue.filter (fun e => decide (e.slot ≠ i)) } := by
  simp only [State.pullFromFeed, h, reduceCtorEq, if_false]
  rfl

theorem State.pullFromFeed_atGate (h : r.stage = .atGate) : s.pullFromFeed i r =
    (s.setRecord i (some { r with flags := { r.flags with quarantine := true, gateReturned := true }, stage := .discharged })).setFeed
      { s.feed with
        queue := s.feed.queue.filter (fun e => decide (e.slot ≠ i)), gate := none, gateOpen := false, gateTimer := none
        memory := some { slot := i, tag := r.tag, remaining := s.settings.timing.gateSec * 100 } } := by
  simp only [State.pullFromFeed, h, if_true]
  rfl

/-- The record lifted, and its bay's hold dropped (R19). -/
def State.lift (s : State) (i : Slot) (r : Rec) : State :=
  match r.bay with
  | some b => (s.setRecord i (some r.lifted)).dropHold b .quarantine
  | none => s.setRecord i (some r.lifted)

theorem State.lift_bound (h : r.bay = some b) : s.lift i r = (s.setRecord i (some r.lifted)).dropHold b .quarantine := by
  simp only [State.lift, h]

theorem State.lift_unbound (h : r.bay = none) : s.lift i r = s.setRecord i (some r.lifted) := by simp only [State.lift, h]

theorem State.holdForQuarantine_bound (h : r.bay = some b) : s.holdForQuarantine r = s.addHold b .quarantine := by
  simp only [State.holdForQuarantine, h]

/-- LIFT_QUARANTINE's own checks (R19). -/
theorem State.grantLift_eq (hu : s.TagsUnique) (hr : s.record i = some r) : s.grantLift r.tag =
    if (s.zone r.zone).state = .alarm then s.refuse .notClear
    else if r.flags.quarantine then (.ok .empty, s.lift i r) else (.ok .empty, s) := by
  refine (State.anyRecord_eq s hu hr).trans ?_
  unfold State.lift
  cases r.bay <;> rfl

/-- Settles O26: QUARANTINE by the stage of the record; LIFT_QUARANTINE by the state of its zone. -/
theorem quarantineIsSetAndLifted : Obligations.QuarantineIsSetAndLifted := by
  refine ⟨fun p s i r hf hu hm ht => ?_, fun s i r hf hu hr ht => ?_⟩
  · have hg := State.grantQuarantine_eq (s := s.setAccess (.port p)) hu (s.mayAct_setAccess _ hm)
    have hq : ∀ q, (s.setRecord i q).Quiet := fun q => hf.2.same rfl rfl rfl rfl
    refine ⟨fun h => ?_, fun h => ?_, fun h b hb => ?_, fun h => ?_, fun h => ?_⟩
    · exact exec_granted_refused hf rfl rfl ht (congrArg some (by rw [hg, if_pos h]; rfl))
    · refine exec_granted_settled hf rfl rfl ht (congrArg some ?_) (hq _).settled
      rw [hg]
      rw [if_neg (by rcases h with h | h <;> simp [h]), if_neg (by rcases h with h | h <;> simp [h]),
        if_neg (by rcases h with h | h <;> simp [h]), if_neg (by rcases h with h | h <;> simp [h, Stage.bound])]
      rfl
    · refine exec_granted_settled hf rfl rfl ht (congrArg some ?_)
        (State.Quiet.settled ((hq _).stays (State.addHold_asksNothing _ b .quarantine)))
      have hne : r.stage ≠ .inShredder ∧ r.stage ≠ .shredUnconfirmed ∧ r.stage ≠ .queued ∧ r.stage ≠ .atGate := by
        refine ⟨?_, ?_, ?_, ?_⟩ <;> intro k <;> simp [k, Stage.bound] at h
      rw [hg, if_neg (not_or.mpr ⟨hne.1, hne.2.1⟩), if_neg hne.2.2.1, if_neg hne.2.2.2, if_pos h, State.holdForQuarantine_bound hb,
        ← State.addHold_setAccess]
      rfl
    · refine s.exec_granted_evaluates hf rfl rfl ht (congrArg some ?_) (hf.2.same rfl rfl rfl rfl)
      rw [hg, if_neg (by simp [h]), if_pos h, State.pullFromFeed_queued h]
      rfl
    · refine s.exec_granted_evaluates hf rfl rfl ht (congrArg some ?_) (hf.2.same rfl rfl rfl rfl)
      rw [hg, if_neg (by simp [h]), if_neg (by simp [h]), if_pos h,
        State.quarantineAtGate_eq (by simpa using hf.2.2.1.2.1) (by simpa using hm.2.1) h, State.pullFromFeed_atGate h]
      rfl
  · have hg := State.grantLift_eq (s := s.setAccess (.port .plant)) hu hr
    have hq : ∀ q, (s.setRecord i q).Quiet := fun q => hf.2.same rfl rfl rfl rfl
    refine ⟨fun h => ?_, fun h => ⟨fun hn => ?_, fun hn hb => ?_, fun hn b hb => ?_⟩⟩
    · exact exec_granted_refused hf rfl rfl ht (congrArg some (by rw [hg, if_pos (by simpa using h)]; rfl))
    · exact exec_granted_settled hf rfl rfl ht (congrArg some (by rw [hg, if_neg (by simpa using h), if_neg (by simp [hn])]))
        hf.2.settled
    · exact exec_granted_settled hf rfl rfl ht (congrArg some (by
        rw [hg, if_neg (by simpa using h), if_pos hn, State.lift_unbound hb]; rfl)) (hq _).settled
    · refine exec_granted_settled hf rfl rfl ht (congrArg some ?_) ((hq _).dropHold b .quarantine)
      rw [hg, if_neg (by simpa using h), if_pos hn, State.lift_bound hb, ← State.dropHold_setAccess]
      rfl

/-! ### ASSIGN_BAY -/

/-- A vote that does not enter ALARM changes its zone, with attention when the zone's state or DEGRADED changes (R162). -/
theorem State.vote_calm {z : ZoneId} (h : voteOf (s.zone z).state (s.channelStates z) = .alarm → (s.zone z).state = .alarm) :
    s.vote z =
      (let u := s.setZone z { s.zone z with
          state := voteOf (s.zone z).state (s.channelStates z), degraded := degradedOf (s.channelStates z) }
       if (s.zone z).state = voteOf (s.zone z).state (s.channelStates z) ∧ (s.zone z).degraded = degradedOf (s.channelStates z)
       then u else u.raiseZone z 0) := by
  unfold State.vote
  exact if_neg (by rintro ⟨h1, h2⟩; exact h2 (h h1))

/-- A zone that stands as voted is left by its vote (R162). -/
theorem State.Voted.vote {z : ZoneId} (h : s.Voted z) : s.vote z = s := by
  obtain ⟨hs, hd⟩ := h
  rw [State.vote_calm (fun k => hs.trans k)]
  dsimp only
  rw [← hs, ← hd, if_pos (by simp)]
  exact s.setZone_self z

theorem State.vote_asksNothing {z : ZoneId}
    (h : voteOf (s.zone z).state (s.channelStates z) = .alarm → (s.zone z).state = .alarm) : s.AsksNothing (s.vote z) := by
  rw [State.vote_calm h]
  dsimp only
  split
  · exact .of_same rfl rfl rfl rfl
  · exact (State.AsksNothing.of_same (by rfl) (by rfl) (by rfl) (by rfl)).trans (.raise _)

theorem State.vote_setAccess {z : ZoneId} (a : Access)
    (h : voteOf (s.zone z).state (s.channelStates z) = .alarm → (s.zone z).state = .alarm) :
    (s.setAccess a).vote z = (s.vote z).setAccess a := by
  rw [State.vote_calm h, State.vote_calm (s := s.setAccess a) h]
  have hc : (s.setAccess a).channelStates z = s.channelStates z := rfl
  dsimp only
  rw [hc, State.setAccess_zone]
  split
  · rfl
  · exact State.raise_setAccess (s.setZone z _) a _

/-! ### A pack-temperature channel joins or leaves its zone -/

/-- A channel in NORMAL changes no vote. -/
theorem voteOf_normal {g : ZoneState} {l m : List ChanState} (h : l.Perm (.normal :: m)) :
    voteOf g l = voteOf g m ∧ degradedOf l = degradedOf m := by
  have hw : warnCount l = warnCount m := by simp [warnCount, h.count_eq]
  have hc : ∀ k, k ≠ ChanState.normal → l.contains k = m.contains k := fun k hk => by
    have := h.mem_iff (a := k)
    simp only [List.mem_cons, hk, false_or] at this
    simp [List.contains_eq_mem, this]
  have hd : degradedOf l = degradedOf m := hc .fault (by simp)
  have ha : alarming l = alarming m := by rw [alarming, alarming, hw, hd, hc .alarmLevel (by simp)]
  exact ⟨by rw [voteOf, voteOf, ha, hw], hd⟩

/-- With one channel less a zone does not enter ALARM. -/
theorem alarming_mono {l m : List ChanState} {k : ChanState} (h : l.Perm (k :: m)) (ha : alarming m = true) : alarming l = true := by
  have hsub : ∀ q, q ∈ m → q ∈ l := fun q hq => h.mem_iff.mpr (List.mem_cons_of_mem _ hq)
  have hw : warnCount m ≤ warnCount l := by
    rw [warnCount, warnCount, h.count_eq]
    exact List.count_le_count_cons
  simp only [alarming, degradedOf, List.contains_eq_mem, Bool.or_eq_true, Bool.and_eq_true, decide_eq_true_eq] at ha ⊢
  rcases ha with (ha | ha) | ⟨hf, ha⟩
  · exact .inl (.inl (hsub _ ha))
  · exact .inl (.inr (by omega))
  · by_cases h2 : 2 ≤ warnCount l
    · exact .inl (.inr h2)
    · exact .inr ⟨hsub _ hf, by omega⟩

/-- One place of a list without repeats gives a value more. -/
theorem filterMap_perm_cons {α β : Type} [DecidableEq α] {l : List α} {f g : α → Option β} {a : α} {x : β} (hn : l.Nodup)
    (ha : a ∈ l) (hf : f a = none) (hg : g a = some x) (h : ∀ q, q ≠ a → g q = f q) :
    (l.filterMap g).Perm (x :: l.filterMap f) := by
  have hrest : (l.erase a).filterMap g = (l.erase a).filterMap f :=
    filterMap_eq_of_mem fun q hq => h q (fun e => hn.not_mem_erase (e ▸ hq))
  have h1 := (List.perm_cons_erase ha).filterMap g
  have h2 := (List.perm_cons_erase ha).filterMap f
  rw [List.filterMap_cons_some hg, hrest] at h1
  rw [List.filterMap_cons_none hf] at h2
  exact h1.trans (h2.symm.cons x)

/-- The channels of a zone with and without the pack-temperature channel of one of its bays (R155). -/
theorem State.channelStates_pack {k : Chan} (hz : t.zones = s.zones) (hm : t.settings.detectors = s.settings.detectors)
    (hd : t.detectors = s.detectors) (hb : ∀ a, a ≠ b → (t.bay a).pack = (s.bay a).pack) (hs : (s.bay b).pack = none)
    (ht : (t.bay b).pack = some k) : (t.channelStates (bayZone b)).Perm (k.state :: s.channelStates (bayZone b)) := by
  have hpacks : ((zoneBays (bayZone b)).filterMap (fun a => (t.bay a).pack.map Chan.state)).Perm
      (k.state :: (zoneBays (bayZone b)).filterMap (fun a => (s.bay a).pack.map Chan.state)) :=
    filterMap_perm_cons ((List.nodup_finRange 12).filter _) ((mem_zoneBays _ b).mpr rfl) (by rw [hs]; rfl) (by rw [ht]; rfl)
      (fun a ha => by rw [hb a ha])
  have hfirst : (t.zone (bayZone b)).flame.state :: (t.mappedTo (bayZone b)).map (fun d => (t.detector d).chan.state)
      = (s.zone (bayZone b)).flame.state :: (s.mappedTo (bayZone b)).map (fun d => (s.detector d).chan.state) := by
    simp only [State.zone, State.mappedTo, State.detector, hz, hm, hd]
  unfold State.channelStates
  rw [hfirst]
  exact (hpacks.append_left _).trans List.perm_middle

/-- A pack-temperature channel joins a zone that stands as voted: the vote changes nothing (R155). -/
theorem State.packJoin_voted (h : s.Voted (bayZone b)) (hp : (s.bay b).pack = none) :
    s.packJoin b = s.setBay b { s.bay b with pack := some {} } := by
  have hv := State.channelStates_pack (s := s) (t := s.setBay b { s.bay b with pack := some {} }) (b := b) (k := {}) rfl rfl rfl
    (fun a ha => by rw [s.bay_setBay, if_neg ha]) hp (by rw [State.bay_setBay_same])
  obtain ⟨h1, h2⟩ := voteOf_normal (g := (s.zone (bayZone b)).state) hv
  have hvoted : (s.setBay b { s.bay b with pack := some {} }).Voted (bayZone b) := by
    unfold State.Voted at h ⊢
    rw [State.setBay_zone, h1, h2]
    exact h
  exact hvoted.vote

/-- The pack-temperature channel of a bay leaves its zone, which stood as voted and does not enter ALARM by it (R155). -/
theorem State.leave_calm (hz : t.zones = s.zones) (hm : t.settings.detectors = s.settings.detectors) (hd : t.detectors = s.detectors)
    (hb : ∀ a, a ≠ b → (t.bay a).pack = (s.bay a).pack) (ht : (t.bay b).pack = none) (h : s.Voted (bayZone b)) :
    voteOf (t.zone (bayZone b)).state (t.channelStates (bayZone b)) = .alarm → (t.zone (bayZone b)).state = .alarm := by
  have hzone : t.zone (bayZone b) = s.zone (bayZone b) := by simp only [State.zone, hz]
  have hv := h.1
  rw [hzone]
  intro k
  refine Classical.byContradiction fun hne => ?_
  have ha : alarming (t.channelStates (bayZone b)) = true := by
    refine Classical.byContradiction fun hn => ?_
    simp only [voteOf, if_neg hne, if_neg hn] at k
    split at k <;> cases k
  have hs : alarming (s.channelStates (bayZone b)) = true := by
    cases hp : (s.bay b).pack with
    | none =>
      rw [← State.channelStates_congr (bayZone b) (by rw [hzone]) hm hd (fun a => ?_)]
      · exact ha
      · by_cases e : a = b
        · rw [e, ht, hp]
        · exact hb a e
    | some q => exact alarming_mono (State.channelStates_pack hz.symm hm.symm hd.symm (fun a e => (hb a e).symm) ht hp) ha
  rw [voteOf, if_neg hne, if_pos hs] at hv
  exact hne hv

/-! ### ASSIGN_BAY -/

/-- ASSIGN_BAY's own checks, in their order (R65). -/
theorem State.grantAssign_eq (hu : s.TagsUnique) (hm : s.MayAct p i r) : s.grantAssign p r.tag b.1 =
    if r.stage ≠ .waiting then s.refuse .wrongStage
    else if r.flags.quarantine then s.refuse .quarantined
    else if (s.settings.classes.get r.cls).isNone then s.refuse .classUnset
    else if (s.bay b).mode.busy then s.refuse .bayBusy
    else if (s.bay b).mode ≠ .idle ∨ (s.bay b).link = .lost then s.refuse .bayUnavailable
    else if (s.zone (bayZone b)).state = .alarm then s.refuse .zoneAlarm
    else (s.bindBay i r b).withRecord i := by
  simp only [State.grantAssign, bayOf_val]
  rw [s.findTag_eq hu hm.2.1, s.onRecord_mayAct hm]

theorem BayState.busy_iff (m : BayState) : m.busy = true ↔ m = .probing ∨ m = .active ∨ m = .resting ∨ m = .held ∨ m = .retrying
    ∨ m = .faulted := by cases m <;> simp [BayState.busy]

/-- The channel of a bay at its binding, with its first current limit and its pack-temperature channel (R66, R86, R155). -/
def Bay.bound (x : Bay) (i : Slot) (r : Rec) (limit : Nat) : Bay := { x with
  mode := .probing, binding := some { slot := i, tag := r.tag }
  copies := some { cls := r.cls, cells := r.cells, capacity := r.capacity, damaged := r.flags.damaged }
  level := 0, holds := {}, heldFrom := none, releasePending := false
  probe := { step := 1, count := 0, attempt := 1, round := 1, results := [], last := none }
  fault := none, faultCount := 0, frac := 0, repeats := 0, discards := 0, extensions := 0
  blanking := 0, holdOff := none, endCount := 0, restElapsed := 0, rebounds := 0
  isoDerate := r.flags.isolationFault, limit := some limit, warning := false, shutdown := false, openCount := 0
  retry := none, retryWait := 0, recovery := 0, lastStage := .probing, stageOwed := false
  pack := some { state := .normal, reading := none, alarmRun := 0, warnRun := 0, quietRun := 0, good := 0 } }

/-- The binding of a record at a zone that stands as voted (R66, R85). -/
theorem State.bindBay_eq {k : ClassCfg} {rating : Nat} (hv : s.Voted (bayZone b)) (hp : (s.bay b).pack = none)
    (hk : s.settings.classes.get r.cls = some k) (hr : (s.bayCfg b).rating = some rating) :
    s.bindBay i r b = (s.setRecord i (some { r with stage := .probing, bay := some b, rebounds := 0 })).setBay b
      ((s.bay b).bound i r (max 10 (derate r.flags.isolationFault (derate r.flags.damaged (min rating (k.cRate * r.capacity / 10)))))) := by
  have hlimit : ((s.setRecord i (some { r with stage := .probing, bay := some b, rebounds := 0 })).modBay b
      (fun x => x.bind { slot := i, tag := r.tag } r)).computeLimit b
      = (s.setRecord i (some { r with stage := .probing, bay := some b, rebounds := 0 })).setBay b
        { (s.bay b).bound i r (max 10 (derate r.flags.isolationFault (derate r.flags.damaged
            (min rating (k.cRate * r.capacity / 10))))) with pack := none } := by
    simp only [State.computeLimit, State.modBay, State.bay_setBay_same, Bay.bind, State.rating, currentLimit, State.setBay_bayCfg,
      State.setRecord_bayCfg, State.setBay_classCfg, State.setRecord_classCfg, hr, s.classCfg_eq _ k hk, State.setBay_setBay,
      State.setRecord_bay, derate, Option.getD_some, hp]
    rfl
  show ((State.modBay _ b _).computeLimit b).packJoin b = _
  rw [hlimit, State.packJoin_voted _ (by rw [State.bay_setBay_same]), State.setBay_setBay, State.bay_setBay_same]
  · rfl
  · have hc : ∀ u : State, (∀ a, (u.bay a).pack = (s.bay a).pack) → u.zones = s.zones → u.detectors = s.detectors →
        u.settings = s.settings → u.Voted (bayZone b) := fun u hpk hz hd hs => by
      have hzone : u.zone (bayZone b) = s.zone (bayZone b) := by simp only [State.zone, hz]
      unfold State.Voted
      rw [State.channelStates_congr (bayZone b) (by rw [hzone]) (by rw [hs]) hd hpk, hzone]
      exact hv
    refine hc _ (fun a => ?_) rfl rfl rfl
    rw [State.bay_setBay]
    split
    · next e => rw [e, hp]
    · rfl

/-- Settles O32: the checks of ASSIGN_BAY one by one, and the bound state, in which the zone's vote stands. -/
theorem assignBayBindsTheRecord : Obligations.AssignBayBindsTheRecord := by
  intro p s i r b hf hu hm ht
  have ho : operandsOk (.assignBay p r.tag b.1) = true := by simp [operandsOk, ht, within]; omega
  have hg : (s.setAccess (.port p)).grantAssign p r.tag b.1 =
      if r.stage ≠ .waiting then (s.setAccess (.port p)).refuse .wrongStage
      else if r.flags.quarantine then (s.setAccess (.port p)).refuse .quarantined
      else if (s.settings.classes.get r.cls).isNone then (s.setAccess (.port p)).refuse .classUnset
      else if (s.bay b).mode.busy then (s.setAccess (.port p)).refuse .bayBusy
      else if (s.bay b).mode ≠ .idle ∨ (s.bay b).link = .lost then (s.setAccess (.port p)).refuse .bayUnavailable
      else if (s.zone (bayZone b)).state = .alarm then (s.setAccess (.port p)).refuse .zoneAlarm
      else ((s.setAccess (.port p)).bindBay i r b).withRecord i := State.grantAssign_eq hu (s.mayAct_setAccess _ hm)
  have refused : ∀ st, (s.setAccess (.port p)).grantAssign p r.tag b.1 = (s.setAccess (.port p)).refuse st →
      exec (.assignBay p r.tag b.1) s = .next (s.answer p 0x20 (.refuse st)) := fun st h =>
    exec_granted_refused hf rfl rfl ho (congrArg some h)
  refine ⟨fun h => refused _ (by rw [hg, if_pos h]), fun h hq => refused _ (by rw [hg, if_neg (not_not_intro h), if_pos hq]),
    fun h hq => ⟨fun hc => refused _ (by rw [hg, if_neg (not_not_intro h), if_neg (by simp [hq]), if_pos (by simp [hc])]),
      fun k hk => ?_⟩⟩
  have hset : (s.setAccess (.port p)).grantAssign p r.tag b.1 =
      if (s.bay b).mode.busy then (s.setAccess (.port p)).refuse .bayBusy
      else if (s.bay b).mode ≠ .idle ∨ (s.bay b).link = .lost then (s.setAccess (.port p)).refuse .bayUnavailable
      else if (s.zone (bayZone b)).state = .alarm then (s.setAccess (.port p)).refuse .zoneAlarm
      else ((s.setAccess (.port p)).bindBay i r b).withRecord i := by
    rw [hg, if_neg (not_not_intro h), if_neg (by simp [hq]), if_neg (by simp [hk])]
  refine ⟨fun hb => refused _ (by rw [hset, if_pos ((BayState.busy_iff _).mpr hb)]), fun hb => refused _ ?_,
    fun hidle hlink hz => refused _ (by rw [hset, if_neg (by simp [hidle, BayState.busy]), if_neg (by simp [hidle, hlink]),
      if_pos hz]),
    fun hidle hlink hz hv hpack rating hrate => ?_⟩
  · rcases hb with hb | hb | ⟨hb, hl⟩
    · rw [hset, if_neg (by simp [hb, BayState.busy]), if_pos (by simp [hb])]
    · rw [hset, if_neg (by simp [hb, BayState.busy]), if_pos (by simp [hb])]
    · rw [hset, if_neg (by simp [hb, BayState.busy]), if_pos (by simp [hl])]
  · refine exec_granted_settled hf rfl rfl ho (congrArg some ?_)
      (State.Quiet.settled (State.Quiet.stays (s := s.setRecord i _) (hf.2.same rfl rfl rfl rfl) (.bay rfl)))
    rw [hset, if_neg (by simp [hidle, BayState.busy]), if_neg (by simp [hidle, hlink]), if_neg hz,
      State.bindBay_eq (s := s.setAccess (.port p)) hv hpack hk hrate, State.withRecord, State.recordReply]
    have hrec : ∀ x, (((s.setAccess (.port p)).setRecord i (some { r with stage := .probing, bay := some b, rebounds := 0 })).setBay b
        x).record i = some { r with stage := .probing, bay := some b, rebounds := 0 } := fun x => by simp
    rw [hrec]
    rfl

end Sys2Proof.Machine
end

section
/-!
PROOFS. ABORT_BAY at a free table (R67), and the end of a binding: what the record, the tallies, the channel and the zone become
(R64, R82, R155).
-/

namespace Sys2Proof.Machine

variable {c : Cause} {s t : State} {p : Port} {i : Slot} {r : Rec} {b : BayId} {e : Entry}

/-! ### The end of a binding -/

/-- The record and the energy total after the end of a binding that adds `n` watt-hours (R23, R64, R82). -/
theorem State.releaseRecord_eq (s : State) (b : BayId) (e : Entry) (r : Rec) (g : Rec → Rec) : s.releaseRecord b e r g =
    (s.setRecord e.slot (some (g { r with energy := min 999999 (r.energy + (s.bay b).unbindEnergy e), bay := none }))).setTallies
      { s.tallies with energyTotal := min 4294967295 (s.tallies.energyTotal + (s.bay b).unbindEnergy e) } := by
  have hswap : ∀ (q q' : Option Rec) (a : Tallies), ((s.setRecord e.slot q).setTallies a).setRecord e.slot q'
      = ((s.setRecord e.slot q).setRecord e.slot q').setTallies a := fun _ _ _ => rfl
  unfold State.releaseRecord State.creditEnergy
  dsimp only
  rw [hswap, State.setRecord_setRecord]
  rfl

/-- With no write waiting only the rounding is added (R82). -/
theorem Bay.unbindEnergy_quiet {x : Bay} (h : x.writes = []) (e : Entry) : x.unbindEnergy e = if 18000000 ≤ x.frac then 1 else 0 := by
  simp [Bay.unbindEnergy, Bay.carriesOf, h, roundUp]

/-- The zone's vote after the end of a binding does not enter ALARM, when the zone stood as voted (R155, R162). -/
theorem State.release_calm {x : Bay} {q : Option Rec} {a : Tallies} (h : s.Voted (bayZone b)) (hx : x.pack = none) :
    let u := ((s.setRecord i q).setTallies a).setBay b x
    voteOf (u.zone (bayZone b)).state (u.channelStates (bayZone b)) = .alarm → (u.zone (bayZone b)).state = .alarm :=
  State.leave_calm (s := s) rfl rfl rfl (fun k hk => by rw [State.bay_setBay, if_neg hk]; rfl) (by rw [State.bay_setBay_same, hx]) h

/-! ### ABORT_BAY -/

/-- The channel after an accepted ABORT_BAY, with no write of the binding waiting (R67). -/
theorem Bay.aborted_eq {x : Bay} (h : x.writes = []) (g : BayState) (n : Nat) : (x.unbound e).aborted g n = { x with
    mode := if x.link = .lost then .faulted else g
    fault := if x.link = .lost then
        some { cause := .linkLost, entered := if Config.abortedFromStopped n then .stopped else .idle }
      else none
    binding := none, copies := none, level := 0, holds := {}, heldFrom := none, releasePending := false
    probe := {}, faultCount := 0, frac := 0, blanking := 0, holdOff := none, endCount := 0, restElapsed := 0
    rebounds := 0, isoDerate := false, limit := none, warning := false, shutdown := false, openCount := 0
    retry := none, retryWait := 0, recovery := 0, lastStage := .probing, stageOwed := false, pack := none } := by
  simp [Bay.aborted, Bay.unbound, abortFault, h]

/-- The state that an accepted ABORT_BAY makes in its grant. -/
def State.abort (s : State) (b : BayId) (e : Entry) (r : Rec) : State :=
  ((s.releaseRecord b e r (fun x => { x with stage := .waiting })).releaseBay b e
    (fun x => x.aborted (s.restState b) s.freeCount)).useFree (decide ((s.bay b).link = .lost))

/-- ABORT_BAY's own checks, in their order (R67). -/
theorem State.grantAbort_unbound (hl : s.lockedOut p = false) (hb : (s.bay b).binding = none) :
    s.grantAbort p b.1 = s.refuse .notBound := by simp [State.grantAbort, hl, hb]

theorem State.grantAbort_unseen (hl : s.lockedOut p = false) (hb : (s.bay b).binding = some e) (hs : s.sees p e.slot = false) :
    s.grantAbort p b.1 = s.refuse .notFound := by simp [State.grantAbort, hl, hb, hs]

theorem State.grantAbort_protected (hl : s.lockedOut p = false) (hb : (s.bay b).binding = some e) (hs : s.sees p e.slot = true)
    (hm : s.mayChange p e.slot = false) : s.grantAbort p b.1 = s.refuse .isProtected := by
  simp [State.grantAbort, hl, hb, hs, hm]

theorem State.grantAbort_bound (hl : s.lockedOut p = false) (hb : (s.bay b).binding = some e) (hs : s.sees p e.slot = true)
    (hm : s.mayChange p e.slot = true) (hr : s.record e.slot = some r) (ht : r.tag = e.tag) :
    s.grantAbort p b.1 = (s.abort b e r).withRecord e.slot := by
  have hn : s.named e = some r := by simp [State.named, hr, ht]
  simp only [State.grantAbort, bayOf_val, hl, hb, hs, hm, hn, Bool.not_true, Bool.false_eq_true, if_false]
  rfl

/-- The record that ABORT_BAY frees, `n` watt-hours added (R67, R82). -/
def Rec.abortFreed (r : Rec) (n : Nat) : Rec := { r with stage := .waiting, bay := none, energy := min 999999 (r.energy + n) }

/-- The state that ABORT_BAY makes, before the next free value is used. -/
def State.unbindAborted (s : State) (b : BayId) (e : Entry) (r : Rec) (n : Nat) : State :=
  ((((s.setRecord e.slot (some (r.abortFreed n))).setTallies
    { s.tallies with energyTotal := min 4294967295 (s.tallies.energyTotal + n) }).setBay b
      (((s.bay b).unbound e).aborted (s.restState b) s.freeCount)).vote (bayZone b)).raiseBay b .release

/-- The watt-hour of the unbind rounding (R82). -/
def Bay.rounding (x : Bay) : Nat := if 18000000 ≤ x.frac then 1 else 0

theorem State.abort_eq (hw : (s.bay b).writes = []) :
    s.abort b e r = (s.unbindAborted b e r (s.bay b).rounding).useFree (decide ((s.bay b).link = .lost)) := by
  unfold State.abort
  rw [State.releaseRecord_eq, Bay.unbindEnergy_quiet hw]
  rfl

theorem State.abort_setAccess (p : Port) (hw : (s.bay b).writes = []) (hv : s.Voted (bayZone b)) :
    (s.setAccess (.port p)).abort b e r = (s.abort b e r).setAccess (.port p) := by
  have huse : ∀ (u : State) on, (u.setAccess (.port p)).useFree on = (u.useFree on).setAccess (.port p) := fun u on => by
    cases on <;> rfl
  rw [State.abort_eq hw, State.abort_eq (s := s.setAccess (.port p)) hw, ← huse, State.unbindAborted, State.unbindAborted,
    ← State.raiseBay_setAccess,
    ← State.vote_setAccess _ (State.release_calm hv rfl)]
  rfl

theorem State.useFree_asksNothing (s : State) (on : Bool) : s.AsksNothing (s.useFree on) := by
  cases on <;> exact .of_same rfl rfl rfl rfl

theorem State.abort_asksNothing (hw : (s.bay b).writes = []) (hv : s.Voted (bayZone b)) : s.AsksNothing (s.abort b e r) := by
  rw [State.abort_eq hw]
  refine State.AsksNothing.trans ?_ (State.useFree_asksNothing _ _)
  refine State.AsksNothing.trans ?_ (.raise _)
  refine State.AsksNothing.trans ?_ (State.vote_asksNothing (State.release_calm hv rfl))
  exact (State.AsksNothing.of_same (s := s) (by rfl) (by rfl) (by rfl) (by rfl)).trans
    (.bay (by simp [Bay.aborted, Bay.unbound, hw]))

/-- The record freed stands in its slot after the grant. -/
theorem State.abort_record (hw : (s.bay b).writes = []) : (s.abort b e r).record e.slot = some (r.abortFreed (s.bay b).rounding) := by
  have huse : ∀ (u : State) on, (u.useFree on).record e.slot = u.record e.slot := fun u on => by cases on <;> rfl
  rw [State.abort_eq hw, huse, State.unbindAborted, State.raiseBay_record, State.vote_record, State.setBay_record,
    State.setTallies_record, State.record_setRecord_same]

/-- A LOST link uses the next free value (log entry 7). -/
theorem State.abort_lost (hw : (s.bay b).writes = []) (hl : (s.bay b).link = .lost) :
    s.abort b e r = { s.unbindAborted b e r (s.bay b).rounding with freeCount := s.freeCount + 1 } := by
  have hc : (s.unbindAborted b e r (s.bay b).rounding).freeCount = s.freeCount := by
    simp [State.unbindAborted]
  rw [State.abort_eq hw, decide_eq_true hl, ← hc]
  rfl

theorem State.abort_linked (hw : (s.bay b).writes = []) (hl : (s.bay b).link ≠ .lost) :
    s.abort b e r = s.unbindAborted b e r (s.bay b).rounding := by
  rw [State.abort_eq hw, decide_eq_false hl]
  rfl

/-- Settles O33: ABORT_BAY's checks one by one, and the end of the binding in its grant. -/
theorem abortBayEndsTheBinding : Obligations.AbortBayEndsTheBinding := by
  intro p s b hf hl
  have ho : operandsOk (.abortBay p b.1) = true := by simp [operandsOk, within]; omega
  have hl' : (s.setAccess (.port p)).lockedOut p = false := hl
  have refused : ∀ st, (s.setAccess (.port p)).grantAbort p b.1 = (s.setAccess (.port p)).refuse st →
      exec (.abortBay p b.1) s = .next (s.answer p 0x21 (.refuse st)) := fun st h =>
    exec_granted_refused hf rfl rfl ho (congrArg some h)
  refine ⟨fun hb => refused _ (State.grantAbort_unbound hl' hb), fun e hb => ⟨fun hs => refused _ ?_, fun hs hm => refused _ ?_,
    fun hs hm r hr ht hv => ?_⟩⟩
  · exact State.grantAbort_unseen hl' hb (by simpa using hs)
  · exact State.grantAbort_protected hl' hb (by simpa using hs) (by simpa using hm)
  · have hw : (s.bay b).writes = [] := hf.2.2.1.2.2 b
    have hg : (s.setAccess (.port p)).grantAbort p b.1 =
        (.ok (.record ((s.abort b e r).view e.slot (r.abortFreed (s.bay b).rounding))), (s.abort b e r).setAccess (.port p)) := by
      rw [State.grantAbort_bound hl' hb (by simpa using hs) (by simpa using hm) hr ht, State.abort_setAccess p hw hv,
        State.withRecord, State.recordReply, State.setAccess_record, State.abort_record hw]
      rfl
    have he := exec_granted_settled hf rfl rfl ho (congrArg some hg)
      (State.Quiet.settled (hf.2.stays (State.abort_asksNothing hw hv)))
    have hx := Bay.aborted_eq (e := e) hw (s.restState b) s.freeCount
    by_cases hlink : (s.bay b).link = .lost
    · rw [State.abort_lost hw hlink, State.unbindAborted, hx] at he
      simp only [hlink, if_true] at he ⊢
      exact he
    · rw [State.abort_linked hw hlink, State.unbindAborted, hx] at he
      simp only [hlink, if_false] at he ⊢
      exact he

end Sys2Proof.Machine
end

section
/-!
PROOFS. The port requests that take no grant and change no bay's state of work (R69, R70, R133, R152, R170, R174 to R180, R189 to
R191): the reports, the settings, the level cap, and attention read and masked.
-/

namespace Sys2Proof.Machine

variable {c : Cause} {s t : State} {p : Port} {b : BayId}

/-- What exec answers for a request that takes no grant, on a port that takes it (R35). -/
theorem exec_served {req : Instr} {f : State → Reply × State} {rep : Reply} {t : State} (ht : s.Takes p)
    (he : exec req s = .next (s.served p req f)) (ha : portAccepts req = true) (ho : operandsOk req = true) (hf : f s = (rep, t)) :
    exec req s = .next (t.answer p req.code rep) := by
  rw [he, s.served_eq ht ha ho, hf]

theorem within_bay (b : BayId) : within 0 11 b.1 = true := by simp [within]; omega

theorem within_zone (z : ZoneId) : within 0 6 z.1 = true := by simp [within]; omega

theorem within_class (k : ClassId) : within 0 7 k.1 = true := by simp [within]; omega

@[simp] theorem State.onBay_val (b : BayId) (f : BayId → Reply × State) : s.onBay b.1 f = f b := by simp [State.onBay]

@[simp] theorem State.onZone_val (z : ZoneId) (f : ZoneId → Reply × State) : s.onZone z.1 f = f z := by simp [State.onZone]

/-! ### SET_LEVEL_CAP -/

/-- Settles O35: the cap stored, and the channel under it by Bay.capped. -/
theorem setLevelCapLimitsTheLevel : Obligations.SetLevelCapLimitsTheLevel := by
  intro p s b cap ht h1 h2
  have ho : operandsOk (.setLevelCap p b.1 cap) = true := by simp [operandsOk, within, h1, h2]; omega
  have answers : ∀ rep t, s.serveLevelCap b.1 cap = (rep, t) → exec (.setLevelCap p b.1 cap) s = .next (t.answer p 0x23 rep) :=
    fun rep t h => exec_served ht rfl rfl ho h
  have accepted : (s.bay b).mode ≠ .unconfigured → ∀ y, (s.bay b).capped cap = y →
      s.serveLevelCap b.1 cap = (.ok (.levels cap y.level),
        (s.setSettings { s.settings with bays := s.settings.bays.set b { s.bayCfg b with cap := cap } }).setBay b y) := by
    rintro hm y rfl
    simp only [State.serveLevelCap, State.onBay_val, if_neg hm, State.modBay, State.bay_setBay_same]
    rfl
  refine ⟨fun hm => answers _ _ (by simp [State.serveLevelCap, hm, State.refuse]), fun hm ha => ?_, fun ha hle => ?_, fun ha hlt => ?_⟩
  · refine answers _ _ ((accepted hm (s.bay b) (by simp [Bay.capped, ha])).trans ?_)
    exact congrArg (Prod.mk _) (State.setBay_self _ b)
  · exact answers _ _ (accepted (by simp [ha]) { s.bay b with holdOff := none } (by
      simp [Bay.capped, ha, Bay.setLevel, Nat.min_eq_left hle]))
  · exact answers _ _ (accepted (by simp [ha]) { s.bay b with level := cap, blanking := 2, holdOff := none } (by
      simp [Bay.capped, ha, Bay.setLevel, Nat.min_eq_right (Nat.le_of_lt hlt), Nat.ne_of_lt hlt]))

/-! ### The reports -/

/-- A property of the live records asked slot by slot. -/
theorem State.anyStage_eq (s : State) (g : Stage) :
    s.anyStage g = (List.finRange 256).any (fun i => (s.record i).any (fun r => decide (r.stage = g))) := by
  unfold State.anyStage
  rw [Bank.list_eq_map_get s.slots, List.any_map]
  congr 1
  funext i
  show (match s.record i with | some r => _ | none => _) = _
  cases s.record i <;> rfl

/-- The stage under which READ_QUEUE reports an entry (R152). -/
theorem State.named_stage (s : State) (e : Entry) :
    (s.named e).map Rec.stage = (s.record e.slot).bind (fun r => if r.tag = e.tag then some r.stage else none) := by
  unfold State.named
  cases s.record e.slot with
  | none => rfl
  | some r => by_cases h : r.tag = e.tag <;> simp [h]

/-- The first admission condition: the head of the queue stands QUEUED (R139). -/
theorem State.headQueued_eq (s : State) : s.admissionConditions.head? = some (s.feed.queue.head?.any (fun e =>
    (s.record e.slot).any (fun r => decide (r.tag = e.tag) && decide (r.stage = .queued)))) := by
  unfold State.admissionConditions State.named
  cases hq : s.feed.queue with
  | nil => rfl
  | cons e l =>
    simp only [List.head?_cons, Option.any_some]
    cases s.record e.slot with
    | none => rfl
    | some r => by_cases h : r.tag = e.tag <;> simp [h]

/-- The admission conditions that fail, one by one (R139, R152). -/
theorem State.failing_eq (s : State) : s.admissionConditions.map not =
    [ !s.feed.queue.head?.any (fun e => (s.record e.slot).any (fun r => decide (r.tag = e.tag) && decide (r.stage = .queued))),
      decide (s.chamber.state ≠ .inert), !s.lines.throatEmpty,
      s.feed.faults.gateTimeout || s.feed.faults.unexpectedPass || s.feed.faults.shredTimeout,
      (List.finRange 256).any (fun i => (s.record i).any (fun r => decide (r.stage = .shredUnconfirmed))),
      s.feed.block.z4 || s.feed.block.z5 || s.feed.block.z6, s.feed.gate.isSome || s.feed.gateOpen,
      s.feed.shred.isSome || (List.finRange 256).any (fun i => (s.record i).any (fun r => decide (r.stage = .inShredder))) ] := by
  have htail : s.admissionConditions.tail = [decide (s.chamber.state = .inert), s.lines.throatEmpty, !s.feed.faults.present,
      !s.anyStage .shredUnconfirmed, s.feed.block.empty, s.feed.gate.isNone && !s.feed.gateOpen,
      s.feed.shred.isNone && !s.anyStage .inShredder] := rfl
  obtain ⟨l, hl⟩ := List.head?_eq_some_iff.mp s.headQueued_eq
  rw [hl, List.tail_cons] at htail
  rw [hl, htail, s.anyStage_eq, s.anyStage_eq]
  simp [FeedFaults.present, ZoneBlock.empty]

/-- The channels of a zone, in the order READ_ZONE gives them (R155, R170). -/
theorem State.zoneChannels_eq (s : State) (z : ZoneId) : s.zoneChannels z =
    (s.zone z).flame.report z ::
      ((List.finRange 28).filterMap (fun d => (s.settings.detectors.get d).bind (fun m =>
          if m.zone = z then some ((s.detector d).chan.report m.kind.chanKind d.1 (some (s.detector d).age)) else none))
        ++ (List.finRange 12).filterMap (fun b =>
          if b.1 / 3 = z.1 then (s.bay b).pack.map (fun k => k.report .packTemp b.1 none) else none)) := by
  have hzone : ∀ b : BayId, bayZone b = z ↔ b.1 / 3 = z.1 := fun b => by simp [bayZone, Fin.ext_iff]
  unfold State.zoneChannels State.mappedTo zoneBays Bank.places
  simp only [List.filterMap_filter, hzone, decide_eq_true_eq]
  congr 2
  refine filterMap_eq_of_mem fun d _ => ?_
  cases s.settings.detectors.get d with
  | none => rfl
  | some m => by_cases h : m.zone = z <;> simp [h]

/-- Settles O37: each report's definition, served in a state that it leaves. -/
theorem reportsChangeNothing : Obligations.ReportsChangeNothing := by
  intro p s ht
  refine ⟨exec_status_taken ht, fun b => ?_, ?_, ?_, fun z => ?_, fun k => ?_, fun b => ?_, fun z => ?_, fun given n hg => ⟨?_, ?_, ?_⟩⟩
  · exact exec_served ht rfl rfl (within_bay b) (by rw [State.serveReadBay, State.onBay_val]; rfl)
  · exact exec_served ht rfl rfl rfl rfl
  · refine exec_served ht rfl rfl rfl ?_
    rw [State.serveReadQueue, State.queueView, s.failing_eq]
    simp only [s.named_stage]
  · refine exec_served ht rfl rfl (within_zone z) ?_
    rw [State.serveReadZone, State.onZone_val, s.zoneChannels_eq]
    rfl
  · have ho : operandsOk (.readSetting p 0 ⟨1, k.1⟩) = true := by rw [operandsOk_readSetting]; omega
    exact exec_served ht rfl rfl ho (by simp only [State.readSetting, State.readClass, classOf_val])
  · have ho : operandsOk (.readSetting p 1 ⟨1, b.1⟩) = true := by rw [operandsOk_readSetting]; omega
    refine exec_served ht rfl rfl ho ?_
    have hoc : (s.bayCfg b).rating.map (fun _ => s.overcurrentLevel b) = (s.bayCfg b).rating.map (fun n => n + n / 4) := by
      unfold State.overcurrentLevel State.rating
      cases (s.bayCfg b).rating <;> rfl
    simp only [State.readSetting, State.readBayCfg, bayOf_val, hoc]
  · have ho : operandsOk (.readSetting p 2 ⟨1, z.1⟩) = true := by rw [operandsOk_readSetting]; omega
    exact exec_served ht rfl rfl ho (by simp only [State.readSetting, State.readZoneCfg, zoneOf_val])
  · exact exec_served ht rfl rfl ((operandsOk_readSetting p 3 given n).mpr (by omega)) rfl
  · exact exec_served ht rfl rfl ((operandsOk_readSetting p 4 given n).mpr (by omega)) rfl
  · exact exec_served ht rfl rfl ((operandsOk_readSetting p 5 given n).mpr (by omega)) rfl

/-! ### Attention -/

/-- When a line is asserted: a pending condition of each kind that the mask enables (R189). -/
theorem Attn.asserts_iff (a : Attn) (m : BitVec 6) : a.asserts m = true ↔
    (m.getLsbD 0 = true ∧ ∃ b, a.bays.get b ≠ 0) ∨ (m.getLsbD 1 = true ∧ ∃ z, a.zones.get z ≠ none)
      ∨ (m.getLsbD 2 = true ∧ a.chamber = true) ∨ (m.getLsbD 3 = true ∧ a.feed = true)
      ∨ (m.getLsbD 4 = true ∧ a.lockExpired = true) ∨ (m.getLsbD 5 = true ∧ a.restart = true) := by
  have hb : a.bays.1.any (fun d => decide (d ≠ 0)) = true ↔ ∃ b, a.bays.get b ≠ 0 := by rw [Bank.any_iff]; simp
  have hz : a.zones.1.any Option.isSome = true ↔ ∃ z, a.zones.get z ≠ none := by
    rw [Bank.any_iff]; simp [← Option.ne_none_iff_isSome]
  simp only [Attn.asserts, Bool.or_eq_true, Bool.and_eq_true, hb, hz, or_assoc]

/-- The pending set's bytes begin with the details of the twelve bays (R190). -/
theorem Attn.bytes_bays (a : Attn) : a.bytes.take 24 = (List.finRange 12).flatMap (fun b =>
    [BitVec.ofNat 8 ((a.bays.get b).toNat / 256), BitVec.ofNat 8 (a.bays.get b).toNat]) := by
  have hb : a.bays.1.flatMap (fun d => numBytes 2 d.toNat) = (List.finRange 12).flatMap (fun b =>
      [BitVec.ofNat 8 ((a.bays.get b).toNat / 256), BitVec.ofNat 8 (a.bays.get b).toNat]) := by
    rw [Bank.list_eq_map_get a.bays, List.flatMap_map]
    simp [numBytes]
  have hl : ((List.finRange 12).flatMap (fun b =>
      [BitVec.ofNat 8 ((a.bays.get b).toNat / 256), BitVec.ofNat 8 (a.bays.get b).toNat])).length = 24 := by
    simp only [List.length_flatMap, List.length_cons, List.length_nil]
    rfl
  unfold Attn.bytes
  rw [hb]
  simp only [List.append_assoc]
  rw [List.take_append_of_le_length (Nat.le_of_eq hl.symm), List.take_of_length_le (Nat.le_of_eq hl)]

/-- Settles O56: both requests as served, and the line by Attn.asserts. -/
theorem attentionIsReadAndMasked : Obligations.AttentionIsReadAndMasked := by
  intro p s ht
  refine ⟨?_, Attn.bytes_bays _, fun d => by cases d <;> rfl, fun n line hn hline => ?_⟩
  · refine exec_served ht rfl rfl rfl ?_
    rw [State.serveGetAttention, PortState.attend, Attn.asserts_empty]
  · have hl : (s.port p).attn.asserts (BitVec.ofNat 6 n) = line := Bool.eq_iff_iff.mpr ((Attn.asserts_iff _ _).trans hline.symm)
    refine exec_served ht rfl rfl (by simp [operandsOk, within, hn]) ?_
    rw [State.serveSetMask]
    dsimp only
    rw [hl]

end Sys2Proof.Machine
end

section
/-!
PROOFS. The settings (R161, R174 to R179), each stored as a whole or refused for its use.
-/

namespace Sys2Proof.Machine

variable {c : Cause} {s t : State} {p : Port} {b : BayId}

/-! ### SET_DETECTOR_MAP -/

theorem mapEntryOf_eq {used zone kind : Nat} {entry : Option MapEntry} (hu : used = 0 ∨ used = 1) (h0 : used = 0 → entry = none)
    (h1 : used = 1 → ∃ m, entry = some m ∧ m.zone.1 = zone ∧ kindOf kind = some m.kind) : mapEntryOf used zone kind = entry := by
  rcases hu with rfl | rfl
  · rw [h0 rfl]; rfl
  · obtain ⟨m, rfl, hz, hk⟩ := h1 rfl
    subst hz
    simp [mapEntryOf, hk]

theorem State.zoneFull_iff {d : DetId} {entry : Option MapEntry} : s.zoneFull d entry = true ↔
    ∃ m, entry = some m ∧ 4 ≤ ((s.mappedTo m.zone).filter (fun e => decide (e ≠ d))).length := by
  cases entry <;> simp [State.zoneFull, State.detectorCount]

/-- The state of a map entry's change between the votes: the address unmapped (R161). -/
def State.unmap (s : State) (d : DetId) : State :=
  s.setSettings { s.settings with detectors := s.settings.detectors.set d none }

/-- The zone of a map entry votes. -/
def State.voteFor (s : State) (entry : Option MapEntry) : State :=
  match entry with
  | some m => s.vote m.zone
  | none => s

/-- The address mapped anew, its channel in its start state (R161). -/
def State.mapAnew (s : State) (d : DetId) (entry : Option MapEntry) : State :=
  (s.setSettings { s.settings with detectors := s.settings.detectors.set d entry }).setDetector d {}

theorem State.remap_same {d : DetId} {entry : Option MapEntry} (h : s.settings.detectors.get d = entry) : s.remap d entry = s := by
  simp [State.remap, h]

/-- A change of an entry in its four parts (R161, R177). -/
theorem State.remap_changed {d : DetId} {entry : Option MapEntry} (h : s.settings.detectors.get d ≠ entry) :
    s.remap d entry = (((s.unmap d).voteFor (s.settings.detectors.get d)).mapAnew d entry).voteFor entry := by
  unfold State.remap
  rw [if_neg h]
  rfl

section VoteFor

variable (s : State) (entry : Option MapEntry)

@[simp] theorem State.voteFor_settings : (s.voteFor entry).settings = s.settings := by
  cases entry
  · rfl
  · exact State.vote_settings _ _

@[simp] theorem State.voteFor_detectors : (s.voteFor entry).detectors = s.detectors := by
  cases entry
  · rfl
  · exact State.vote_detectors _ _

@[simp] theorem State.voteFor_slots : (s.voteFor entry).slots = s.slots := by
  cases entry
  · rfl
  · exact State.vote_slots _ _

@[simp] theorem State.voteFor_tallies : (s.voteFor entry).tallies = s.tallies := by
  cases entry
  · rfl
  · exact State.vote_tallies _ _

end VoteFor

/-- A zone that stands as voted stands so after another zone's vote. -/
theorem State.Voted.after_vote {y z : ZoneId} (h : s.Voted z) : (s.vote y).Voted z := by
  by_cases e : z = y
  · rw [e]; exact s.vote_voted y
  · unfold State.Voted at h ⊢
    rw [s.vote_channelStates, s.vote_zone, if_neg e]
    exact h

/-- The channels of the zones that an address is mapped to neither before nor after stay as they are. -/
theorem State.mapAnew_channelStates {d : DetId} {entry : Option MapEntry} {z : ZoneId} (ho : s.settings.detectors.get d = none)
    (hn : ∀ m, entry = some m → m.zone ≠ z) : (s.mapAnew d entry).channelStates z = s.channelStates z := by
  have hmap : (s.mapAnew d entry).mappedTo z = s.mappedTo z := by
    unfold State.mappedTo
    refine List.filter_congr fun e _ => ?_
    have hget : (s.mapAnew d entry).settings.detectors.get e = if e = d then entry else s.settings.detectors.get e :=
      Bank.get_set ..
    rw [hget]
    by_cases he : e = d
    · rw [if_pos he, he, ho]
      cases entry with
      | none => rfl
      | some m => exact decide_eq_false (hn m rfl)
    · rw [if_neg he]
  have hd : ∀ e ∈ s.mappedTo z, ((s.mapAnew d entry).detector e).chan.state = (s.detector e).chan.state := fun e he => by
    obtain ⟨m, hm, _⟩ := State.mem_mappedTo.mp he
    have hne : e ≠ d := fun k => by rw [k, ho] at hm; cases hm
    simp [State.mapAnew, State.detector, State.setDetector, Bank.get_set, hne]
  unfold State.channelStates
  rw [hmap, List.map_congr_left hd]
  rfl

/-- After a change both zones stand as voted (R161, R162). -/
theorem State.remap_voted {d : DetId} {entry : Option MapEntry} (h : s.settings.detectors.get d ≠ entry) {m : MapEntry}
    (hm : s.settings.detectors.get d = some m ∨ entry = some m) : (s.remap d entry).Voted m.zone := by
  rw [State.remap_changed h]
  by_cases hz : ∃ q, entry = some q ∧ q.zone = m.zone
  · obtain ⟨q, rfl, hq⟩ := hz
    rw [← hq]
    exact State.vote_voted _ _
  · have hold : s.settings.detectors.get d = some m := hm.resolve_right fun e => hz ⟨m, e, rfl⟩
    have hv : ((s.unmap d).voteFor (s.settings.detectors.get d)).Voted m.zone := by
      rw [hold]; exact State.vote_voted _ _
    have hu : ((s.unmap d).voteFor (s.settings.detectors.get d)).settings.detectors.get d = none := by simp [State.unmap]
    generalize (s.unmap d).voteFor (s.settings.detectors.get d) = u at hv hu
    have hmid : (u.mapAnew d entry).Voted m.zone := by
      unfold State.Voted at hv ⊢
      rw [State.mapAnew_channelStates hu (fun q hq e => hz ⟨q, hq, e⟩)]
      exact hv
    cases entry with
    | none => exact hmid
    | some q => exact hmid.after_vote

theorem State.serveDetectorMap_eq {d : DetId} {used zone kind : Nat} {entry : Option MapEntry} (he : mapEntryOf used zone kind = entry) :
    s.serveDetectorMap d.1 used zone kind = if s.zoneFull d entry then s.refuse .zoneFull
      else (.ok (.detectorMap (s.remap d entry).settings.detectors.1), s.remap d entry) := by
  simp only [State.serveDetectorMap, detOf_val, he]

/-! ### SET_BAY_CONFIG and SET_TIMING -/

theorem State.serveBayConfig_eq {k : BayCfg} (hc : (s.bay b).mode.configurable = true) : s.serveBayConfig b.1 k =
    (let y := (s.bay b).configured ((s.setBayCfg b k).restState b) s.settings.timing.link
     (.ok (.bayCfg k y.mode), (s.setBayCfg b k).setBay b y)) := by
  simp only [State.serveBayConfig, State.onBay_val, hc, Bool.not_true, Bool.false_eq_true, if_false, State.modBay,
    State.bay_setBay_same]
  rfl

theorem BayState.configurable_iff (m : BayState) : m.configurable = true ↔ m = .unconfigured ∨ m = .stopped ∨ m = .idle := by
  cases m <;> simp [BayState.configurable]

/-- The unbound state under new settings of the bay (R51, R52). -/
theorem State.setBayCfg_restState (s : State) (b : BayId) (k : BayCfg) : (s.setBayCfg b k).restState b =
    if (match k.combine with | .or => s.lines.stop.get b || (s.bay b).softStop | .and => s.lines.stop.get b && (s.bay b).softStop) = true
    then .stopped else .idle := by
  have hcfg : (s.setBayCfg b k).bayCfg b = k := Bank.get_set_same ..
  unfold State.restState State.effectiveStop
  rw [hcfg]
  cases k.combine <;> rfl

theorem State.anyBound_iff : s.anyBound = true ↔ ∃ b, (s.bay b).binding ≠ none := by
  unfold State.anyBound
  rw [Bank.any_iff]
  simp only [← Option.ne_none_iff_isSome]
  rfl

theorem State.timingInUse_iff {l r g q : Option Nat} : s.timingInUse l r g q = true ↔
    ((l ≠ none ∨ r ≠ none) ∧ ∃ b, (s.bay b).binding ≠ none)
      ∨ ((g ≠ none ∨ q ≠ none) ∧ (s.feed.gate ≠ none ∨ s.feed.shred ≠ none)) := by
  simp only [State.timingInUse, Bool.or_eq_true, Bool.and_eq_true, State.anyBound_iff, Option.ne_none_iff_isSome]

/-- Settles O55: each request as served; for the detector map the two votes of a change. -/
theorem settingsAreSetAsAWhole : Obligations.SettingsAreSetAsAWhole := by
  intro s ht
  refine ⟨fun k rate ev sv pm wt st rest ho => ⟨fun h => ?_, fun h => ?_⟩, fun b rating cap toff n mode combine retry m j ho hm hj => ?_,
    fun z hw ha hh gw ga gh w ho => ?_, fun a b t k q ho => ⟨fun h => ?_, fun h1 h2 => ?_⟩, fun l k r g q ho => ⟨fun h => ?_, fun h => ?_⟩,
    fun d used zone kind entry ho h0 h1 => ?_⟩
  · exact exec_served ht rfl rfl ho (by simp [State.serveSetClass, Nat.pos_of_ne_zero h, State.refuse])
  · exact exec_served ht rfl rfl ho (by simp [State.serveSetClass, h])
  · have answers : ∀ rep t, s.serveBayConfig b.1 { rating := some rating, cap := cap, toff := toff, nOpen := n, mode := m, combine := j, retrySec := retry } = (rep, t) →
        exec (.setBayConfig .line b.1 rating cap toff n mode combine retry) s = .next (t.answer .line 0x51 rep) := fun rep t h =>
      exec_served ht rfl rfl ho (by rw [hm, hj]; exact h)
    have hrest := s.setBayCfg_restState b { rating := some rating, cap := cap, toff := toff, nOpen := n, mode := m, combine := j, retrySec := retry }
    refine ⟨fun h => answers _ _ ?_, fun h => answers _ _ ?_, fun h1 h2 h3 => answers _ _ ?_⟩
    · rw [State.serveBayConfig_eq (by rw [h]; rfl), hrest, Bay.configured, if_pos h] <;> cases j <;> rfl
    · have hne : (s.bay b).mode ≠ .unconfigured := by rcases h with h | h <;> simp [h]
      rw [State.serveBayConfig_eq ((BayState.configurable_iff _).mpr (.inr h)), hrest, Bay.configured, if_neg hne] <;> cases j <;> rfl
    · have hc : (s.bay b).mode.configurable = false := by
        rw [← Bool.not_eq_true, BayState.configurable_iff]
        exact fun h => h.elim h1 fun h => h.elim h2 h3
      simp [State.serveBayConfig, hc]
      rfl
  · exact exec_served ht rfl rfl ho (by rw [State.serveZoneConfig, State.onZone_val])
  · refine exec_served ht rfl rfl ho ?_
    unfold State.serveChamberConfig
    rcases h with h | h <;> rw [h]
  · refine exec_served ht rfl rfl ho ?_
    unfold State.serveChamberConfig
    cases hs : s.chamber.state <;> first | rfl | exact absurd hs h1 | exact absurd hs h2
  · exact exec_served ht rfl rfl ho (by rw [State.serveTiming, if_pos (State.timingInUse_iff.mpr h)]; rfl)
  · refine ⟨_, exec_served ht rfl rfl ho (by rw [State.serveTiming, if_neg (fun e => h (State.timingInUse_iff.mp e))]), rfl, fun b => ?_⟩
    exact Bank.get_map _ _ _
  · have hu : used = 0 ∨ used = 1 := by
      simp only [operandsOk, Bool.and_eq_true, Bool.or_eq_true, decide_eq_true_eq] at ho
      exact ho.2.imp_right fun k => k.1.1
    have hs := State.serveDetectorMap_eq (s := s) (d := d) (mapEntryOf_eq hu h0 h1)
    refine ⟨fun h => ?_, fun h he => ?_, fun h he => ?_⟩
    · exact exec_served ht rfl rfl ho (by rw [hs, if_pos (State.zoneFull_iff.mpr h)]; rfl)
    · exact exec_served ht rfl rfl ho (by rw [hs, if_neg (by rwa [State.zoneFull_iff]), State.remap_same he])
    · refine ⟨s.remap d entry, exec_served ht rfl rfl ho (by rw [hs, if_neg (by rwa [State.zoneFull_iff])]), ?_, ?_,
        fun m hm => State.remap_voted he hm, ?_, ?_⟩ <;> rw [State.remap_changed he]
      · simp [State.mapAnew, State.unmap]
      · simp only [State.voteFor_detectors, State.mapAnew]
        rw [show ∀ (u : State) x, (u.setDetector d x).detectors = u.detectors.set d x from fun _ _ => rfl]
        simp [State.unmap]
      · simp [State.mapAnew, State.unmap]
      · simp [State.mapAnew, State.unmap]

end Sys2Proof.Machine
end

section
/-!
PROOFS. Stops and the end of a hold (R52 to R57, R68), CLEAR_FAULT (R113, R114), and the bay channels' writes at their grants
(R8, R23, R64, R81).
-/

namespace Sys2Proof.Machine

variable {c : Cause} {s t : State} {p : Port} {b : BayId} {e : Entry}

/-! ### The effective stop -/

/-- What a change of the effective stop does is what StopActs says of it. -/
theorem State.stopChanged_acts (s : State) (b : BayId) (was : Bool) : StopActs b s was (s.effectiveStop b) (s.stopChanged b was) := by
  unfold StopActs State.stopChanged
  refine ⟨fun h => if_pos h.symm, fun hw hn => ?_, fun hw hn => ?_⟩
  · rw [if_neg (by rw [hw, hn]; simp), if_pos hn]
    refine ⟨fun hm => by rw [if_pos hm]; rfl, fun hu hm => ?_, fun hb g hg => ?_, fun hb hm => ?_⟩
    · rw [if_neg hm, State.addHold_unbound hu]
    · obtain ⟨e, he⟩ := Option.ne_none_iff_exists'.mp hb
      rw [if_neg (by intro k; rw [k] at hg; cases hg), State.addHold_runs he hg]
      rfl
    · obtain ⟨e, he⟩ := Option.ne_none_iff_exists'.mp hb
      rw [if_neg (by rcases hm with k | k <;> simp [k]), State.addHold_rests he (by rcases hm with k | k <;> rw [k] <;> rfl)]
      rfl
  · rw [if_neg (by rw [hw, hn]; simp), if_neg (by rw [hn]; simp)]
    refine ⟨fun hm => by rw [if_pos hm]; rfl, fun hu hm => ?_, fun hb hm => ?_, fun hb hm hz hq => ?_⟩
    · rw [if_neg hm, State.dropHold_unbound hu]
    · obtain ⟨e, he⟩ := Option.ne_none_iff_exists'.mp hb
      rw [if_neg (by rcases hm with k | ⟨k, _⟩ <;> simp [k]), State.dropHold_bound he, if_neg]
      · rfl
      · rintro ⟨h1, h2⟩
        rcases hm with k | ⟨_, k⟩
        · rw [k] at h1; cases h1
        · simp only [Holds.put, Holds.empty, Bool.false_or, k] at h2; cases h2
    · obtain ⟨e, he⟩ := Option.ne_none_iff_exists'.mp hb
      have hput : (s.bay b).holds.put false .stop = {} := by simp [Holds.put, hz, hq]
      rw [if_neg (by simp [hm]), State.dropHold_bound he, hput, if_pos ⟨hm, rfl⟩, State.unheld, hput]

/-- The effective stop by the two sources (R52). -/
def stopOf (k : Combine) (line soft : Bool) : Bool :=
  match k with
  | .or => line || soft
  | .and => line && soft

theorem State.effectiveStop_eq (s : State) (b : BayId) :
    s.effectiveStop b = stopOf (s.bayCfg b).combine (s.lines.stop.get b) (s.bay b).softStop := by
  unfold State.effectiveStop stopOf
  cases (s.bayCfg b).combine <;> rfl

/-- A hold changes no input of the effective stop. -/
theorem State.addHold_softStop (s : State) (b : BayId) (k : HoldCause) : ((s.addHold b k).bay b).softStop = (s.bay b).softStop := by
  cases hb : (s.bay b).binding with
  | none => rw [State.addHold_unbound hb]
  | some e =>
    cases hm : (s.bay b).mode.run with
    | none => rw [State.addHold_rests hb hm]; simp
    | some g => rw [State.addHold_runs hb hm]; simp

theorem State.askStage_softStop (s : State) (b : BayId) (g h : Stage) (o : Option (Nat × Nat)) :
    ((s.askStage b g h o).bay b).softStop = (s.bay b).softStop := by
  cases hb : (s.bay b).binding with
  | none => rw [State.askStage_unbound hb]
  | some e => rw [State.askStage_bound hb]; simp [State.askBay, State.modBay]

theorem State.payStage_softStop (s : State) (b : BayId) : ((s.payStage b).bay b).softStop = (s.bay b).softStop := by
  cases h : (s.bay b).stageOwed with
  | false => rw [State.payStage_settled h]
  | true => rw [State.payStage_owed h, State.askStage_softStop]; simp

theorem State.resume_softStop (s : State) (b : BayId) : ((s.resume b).bay b).softStop = (s.bay b).softStop := by
  cases h : (s.bay b).heldFrom with
  | none => rw [State.resume_none h]
  | some g =>
    rw [State.resume_some h, State.raiseBay_bay]
    unfold State.resumed
    split
    · simp [State.modBay, Bay.resumeReleasing]
    · cases g with
      | active => exact (State.payStage_softStop _ b).trans (by simp [State.modBay, Bay.enterActive])
      | probing => simp [State.modBay]
      | resting => simp [State.modBay]
      | retrying => simp [State.modBay, Bay.beginRetry]

theorem State.dropHold_softStop (s : State) (b : BayId) (k : HoldCause) : ((s.dropHold b k).bay b).softStop = (s.bay b).softStop := by
  cases h : (s.bay b).binding with
  | none => rw [State.dropHold_unbound h]
  | some e =>
    rw [State.dropHold_bound h]
    split
    · rw [State.resume_softStop]; simp [State.unheld]
    · simp [State.unheld]

theorem State.stopChanged_softStop (s : State) (b : BayId) (was : Bool) : ((s.stopChanged b was).bay b).softStop = (s.bay b).softStop := by
  unfold State.stopChanged
  split
  · rfl
  · split
    · split
      · simp [State.modBay]
      · exact s.addHold_softStop b .stop
    · split
      · simp [State.modBay]
      · exact s.dropHold_softStop b .stop

/-- The effective stop after its change is the one that the change acted by. -/
theorem State.stopChanged_effectiveStop (s : State) (b : BayId) (was : Bool) :
    (s.stopChanged b was).effectiveStop b = s.effectiveStop b := by
  have hcfg : (s.stopChanged b was).bayCfg b = s.bayCfg b := by
    unfold State.bayCfg; rw [State.stopChanged_settings]
  rw [State.effectiveStop_eq, State.effectiveStop_eq, hcfg, State.stopChanged_lines, s.stopChanged_softStop]

/-- SET_SOFT_STOP: the soft stop stored, then the change of the effective stop (R68). -/
theorem State.serveSoftStop_eq (s : State) (b : BayId) (value : Nat) : s.serveSoftStop b.1 value =
    (let s1 := s.setBay b { s.bay b with softStop := decide (value = 0), holdOff := none }
     (.ok (.stops (decide (value = 0)) (s.lines.stop.get b) (s1.effectiveStop b)), s1.stopChanged b (s.effectiveStop b))) := by
  have h1 : s.serveSoftStop b.1 value = (let s1 := s.setBay b { s.bay b with softStop := decide (value = 0), holdOff := none }
      let s2 := s1.stopChanged b (s.effectiveStop b)
      (.ok (.stops (s2.bay b).softStop (s2.lines.stop.get b) (s2.effectiveStop b)), s2)) := by
    rw [State.serveSoftStop, State.onBay_val]
    rfl
  rw [h1]
  dsimp only
  rw [State.stopChanged_softStop, State.stopChanged_lines, State.stopChanged_effectiveStop, State.bay_setBay_same, State.setBay_lines]

/-! ### The resumption of a HELD bay -/

/-- STOP_LINE_CHANGE takes the line's level, then the change of the effective stop. -/
theorem exec_stopLineChange (hr : s.running = true) (b : BayId) (high : Bool) : exec (.stopLineChange b high) s =
    .next ((s.setLines { s.lines with stop := s.lines.stop.set b high }).stopChanged b (s.effectiveStop b)) := by
  have he : exec (.stopLineChange b high) s
      = .next ((s.setLines { s.lines with stop := s.lines.stop.set b high }).whenRunning (fun t => t.stopChanged b (s.effectiveStop b))) := rfl
  rw [he, State.whenRunning_running _ (by simpa using hr)]

/-- The STOP line released under OR, as the last hold cause of a HELD bay: the bay resumes (R52, R56). -/
theorem exec_stopLine_resumes {g : RunState} (hr : s.running = true) (hc : (s.bayCfg b).combine = .or)
    (hl : s.lines.stop.get b = true) (hs : (s.bay b).softStop = false) (hm : (s.bay b).mode = .held)
    (hf : (s.bay b).heldFrom = some g) (hz : (s.bay b).holds.zoneAlarm = false) (hq : (s.bay b).holds.quarantine = false)
    (hb : (s.bay b).binding = some e) : exec (.stopLineChange b false) s = .next
      ((((s.setLines { s.lines with stop := s.lines.stop.set b false }).setBay b { s.bay b with holds := {} }).resumed b g).raiseBay b
        .hold) := by
  rw [exec_stopLineChange hr]
  obtain ⟨u, hu⟩ : ∃ u, u = s.setLines { s.lines with stop := s.lines.stop.set b false } := ⟨_, rfl⟩
  have hbay : u.bay b = s.bay b := by rw [hu]; rfl
  have hnow : u.effectiveStop b = false := by
    have hcu : (u.bayCfg b).combine = .or := by rw [hu]; exact hc
    have hlu : u.lines.stop.get b = false := by rw [hu]; exact Bank.get_set_same ..
    rw [State.effectiveStop_eq, hcu, hlu, hbay, hs]; rfl
  have hwas : s.effectiveStop b = true := by rw [State.effectiveStop_eq, hc, hl]; rfl
  obtain ⟨_, _, hacts⟩ := u.stopChanged_acts b (s.effectiveStop b)
  obtain ⟨_, _, _, hres⟩ := hacts hwas hnow
  rw [← hu, hres (by rw [hbay, hb]; simp) (by rw [hbay, hm]) (by rw [hbay, hz]) (by rw [hbay, hq]), hbay, State.resume_some (g := g)]
  rw [State.bay_setBay_same]; exact hf

section Resumed

variable (h : (s.bay b).releasePending = false)

include h

theorem State.resumed_probing : s.resumed b .probing =
    s.setBay b { s.bay b with mode := .probing, heldFrom := none, probe := (s.bay b).probe.restart } := by
  rw [State.resumed, if_neg (by simp [h])]; rfl

theorem State.resumed_active : s.resumed b .active = (s.setBay b (s.bay b).enterActive).payStage b := by
  rw [State.resumed, if_neg (by simp [h])]; rfl

theorem State.resumed_resting : s.resumed b .resting =
    s.setBay b { s.bay b with mode := .resting, heldFrom := none, restElapsed := 0 } := by
  rw [State.resumed, if_neg (by simp [h])]; rfl

theorem State.resumed_retrying : s.resumed b .retrying = s.setBay b (s.bay b).beginRetry := by
  rw [State.resumed, if_neg (by simp [h])]; rfl

end Resumed

/-- Settles O34: both inputs act by the change of the effective stop; the four resumptions from State.resumed. -/
theorem stopsHoldABayAndLetItResume : Obligations.StopsHoldABayAndLetItResume := by
  refine ⟨fun s b => ⟨fun p value ht hv => ?_, fun high hr => ?_⟩, fun s b g => ?_⟩
  · have ho : operandsOk (.setSoftStop p b.1 value) = true := by
      simp only [operandsOk, within_bay, Bool.true_and]
      rcases hv with rfl | rfl <;> rfl
    obtain ⟨s1, hs1⟩ : ∃ s1, s1 = s.setBay b { s.bay b with softStop := decide (value = 0), holdOff := none } := ⟨_, rfl⟩
    have hnow : s1.effectiveStop b = stopOf (s.bayCfg b).combine (s.lines.stop.get b) (decide (value = 0)) := by
      rw [State.effectiveStop_eq, hs1, State.bay_setBay_same]; rfl
    have hacts := s1.stopChanged_acts b (s.effectiveStop b)
    have he := exec_served ht (req := .setSoftStop p b.1 value) rfl rfl ho (s.serveSoftStop_eq b value)
    dsimp only at he
    rw [← hs1] at he
    rw [hnow] at hacts he
    rw [s.effectiveStop_eq, hs1] at hacts
    rw [s.effectiveStop_eq, hs1] at he
    exact ⟨_, hacts, he⟩
  · obtain ⟨s1, hs1⟩ : ∃ s1, s1 = s.setLines { s.lines with stop := s.lines.stop.set b high } := ⟨_, rfl⟩
    have hnow : s1.effectiveStop b = stopOf (s.bayCfg b).combine high (s.bay b).softStop := by
      have hl : s1.lines.stop.get b = high := by rw [hs1]; exact Bank.get_set_same ..
      rw [State.effectiveStop_eq, hl, hs1]; rfl
    have hacts := s1.stopChanged_acts b (s.effectiveStop b)
    have he := exec_stopLineChange hr b high
    rw [hnow, s.effectiveStop_eq, hs1] at hacts
    rw [s.effectiveStop_eq] at he
    exact ⟨_, hacts, he⟩
  · intro x free resumes hr hc hl hs hm hf hz hq e hb
    have he := exec_stopLine_resumes hr hc hl hs hm hf hz hq hb
    obtain ⟨u, hu⟩ : ∃ u, u = (s.setLines { s.lines with stop := s.lines.stop.set b false }).setBay b { s.bay b with holds := {} } :=
      ⟨_, rfl⟩
    have hbay : u.bay b = { s.bay b with holds := {} } := by rw [hu, State.bay_setBay_same]
    have hset : ∀ y, u.setBay b y = (s.setLines { s.lines with stop := s.lines.stop.set b false }).setBay b y := fun y => by
      rw [hu, State.setBay_setBay]
    rw [← hu] at he
    refine ⟨fun hp => ?_, fun hp hg => ?_⟩
    · have hpu : (u.bay b).releasePending = false := by rw [hbay]; exact hp
      refine ⟨?_, ?_, ?_, ?_, ?_⟩
      · rintro rfl
        rw [State.resumed_probing hpu, hset, hbay] at he
        exact he
      · rintro rfl ho
        rw [State.resumed_active hpu, State.payStage_settled (by rw [State.bay_setBay_same, hbay]; exact ho), hset, hbay] at he
        exact he
      · rintro rfl ho
        rw [State.resumed_active hpu, State.payStage_owed (by rw [State.bay_setBay_same, hbay]; exact ho), State.bay_setBay_same,
          State.setBay_setBay, State.askStage_bound (e := e) (by rw [State.bay_setBay_same, hbay]; exact hb), State.bay_setBay_same,
          State.setBay_setBay, hset, hbay] at he
        exact he
      · rintro rfl
        rw [State.resumed_resting hpu, hset, hbay] at he
        exact he
      · rintro rfl k hk
        have hbegin : (u.bay b).beginRetry = { s.bay b with
            holds := {}, heldFrom := none, mode := .retrying, retryWait := 0, recovery := 0
            level := if k = .openConnection then 1 else 0, fault := some { cause := k.cause, entered := .active } } := by
          have hk' : (s.bay b).retry = some k := hk
          rw [hbay]
          cases k <;> simp [Bay.beginRetry, retryLevel, hk']
        rw [State.resumed_retrying hpu, hbegin, hset] at he
        exact he
    · have hpu : (u.bay b).releasePending = true := by rw [hbay]; exact hp
      have hrel : (u.bay b).resumeReleasing g = { s.bay b with holds := {}, heldFrom := none, mode := g.mode, fault := none } := by
        rw [hbay, Bay.resumeReleasing, if_neg hg]
      rw [State.resumed_releasing g hpu, hrel, hset] at he
      exact he

end Sys2Proof.Machine
end

section
/-!
PROOFS. CLEAR_FAULT (R113, R114), and the bay channels' writes at their grants (R8, R23, R64, R81).
-/

namespace Sys2Proof.Machine

variable {c : Cause} {s t : State} {p : Port} {b : BayId} {e : Entry} {r : Rec}

/-! ### CLEAR_FAULT -/

/-- The checks of R113 on the sample and the rating as they are. -/
theorem State.faultStands_iff {f : FaultRec} {w : Sample} {rating : Nat} (hf : (s.bay b).fault = some f)
    (hw : (s.bay b).sample = some w) (hr : (s.bayCfg b).rating = some rating) : s.faultStands b = true ↔
      (s.bay b).releasePending = true ∨ (s.bay b).link = .lost ∨ (2500 < w.i ∨ rating + rating / 4 ≤ w.i)
        ∨ (∃ d, f.shutdown = some d ∧ (w.t < -40 ∨ 150 < w.t ∨ d - 5 ≤ w.t))
        ∨ (f.cause = .moduleFault ∧ w.loadFault = true) ∨ (f.cause = .linkLost ∧ (s.bay b).binding = none) := by
  have hlatest : (s.bay b).latest = w := by rw [Bay.latest, hw]; rfl
  have hoc : s.overcurrentLevel b = rating + rating / 4 := by rw [State.overcurrentLevel, State.rating, hr]; rfl
  have hhot : tooHot f w.t = true ↔ ∃ d, f.shutdown = some d ∧ (w.t < -40 ∨ 150 < w.t ∨ d - 5 ≤ w.t) := by
    unfold tooHot
    cases f.shutdown with
    | none => simp
    | some d =>
      simp only [tempValid, Bool.or_eq_true, Bool.not_eq_true', Bool.and_eq_false_iff, decide_eq_false_iff_not, Option.some.injEq,
        exists_eq_left']
      omega
  simp only [State.faultStands, hf, hlatest, hoc, overcurrentBy, Bool.or_eq_true, Bool.and_eq_true, decide_eq_true_eq, hhot,
    Option.isNone_iff_eq_none, or_assoc]

theorem State.clearTheFault_unbound (h : (s.bay b).binding = none) : s.clearTheFault b =
    (s.setBay b { s.bay b with fault := none, mode := s.restState b }).raiseBay b .fault := by
  simp [State.clearTheFault, h]

/-- The channel of a bound bay with its fault gone, before its next state (R114). -/
def Bay.faultless (x : Bay) (f : FaultRec) : Bay :=
  { x with fault := none, probe := if clearedTo f.entered = .probing then x.probe.cleared f.cause else x.probe }

/-- A bound bay with its fault gone takes its next state (R57, R114). -/
def State.clearedBound (s : State) (b : BayId) (f : FaultRec) : State :=
  (if (s.bay b).holds.empty then
    (if clearedTo f.entered = .probing then s.setBay b { (s.bay b).faultless f with mode := .probing }
      else (s.setBay b ((s.bay b).faultless f).enterActive).payStage b)
  else s.setBay b { (s.bay b).faultless f with mode := .held, heldFrom := some (clearedTo f.entered) }).raiseBay b .fault

theorem State.clearTheFault_bound {f : FaultRec} (h : (s.bay b).binding = some e) (hf : (s.bay b).fault = some f) :
    s.clearTheFault b = s.clearedBound b f := by
  unfold State.clearTheFault
  dsimp only
  split
  · next e' f' he' hf' =>
    obtain rfl : f' = f := Option.some.inj (hf'.symm.trans hf)
    rfl
  · next hn => exact absurd hf (hn e f h)

theorem clearedTo_probing {m : BayState} : clearedTo m = .probing ↔ m = .probing := by cases m <;> simp [clearedTo]

theorem clearedTo_other {m : BayState} (h : m ≠ .probing) : clearedTo m = .active := by
  cases m <;> first | rfl | exact absurd rfl h

/-- The probe that a failed attempt, and another fault, leave to a bay cleared to PROBING (R73, R74). -/
theorem Probe.cleared_eq (q : Probe) (k : FaultCause) : q.cleared k =
    if k = .probeOpen ∨ k = .probeInconsistent then { q with step := 1, count := 0, results := [], attempt := 1, round := 2 }
    else { q with step := 1, count := 0, results := [], attempt := 1 } := by
  cases k <;> simp [Probe.cleared, Probe.afterFault]

/-- Settles O36: the checks of R113 as State.faultStands has them, and the next states of R114. -/
theorem clearFaultChecksAndClears : Obligations.ClearFaultChecksAndClears := by
  intro p s b ht
  have answers : ∀ rep t, s.serveClearFault b.1 = (rep, t) → exec (.clearFault p b.1) s = .next (t.answer p 0x24 rep) :=
    fun rep t h => exec_served ht rfl rfl (within_bay b) h
  refine ⟨fun hm => answers _ _ (by rw [State.serveClearFault, State.onBay_val, if_pos hm]; rfl),
    fun f w rating hm hf hw hr => ⟨fun h => ?_, fun h => ?_⟩⟩
  · refine answers _ _ ?_
    rw [State.serveClearFault, State.onBay_val, if_neg (by simp [hm]), if_pos ((State.faultStands_iff hf hw hr).mpr h)]
    rfl
  · have accepted : ∀ u, s.clearTheFault b = u → exec (.clearFault p b.1) s = .next (u.answer p 0x24 (.ok (.bayState (u.bay b).mode))) := by
      rintro u rfl
      refine answers _ _ ?_
      rw [State.serveClearFault, State.onBay_val, if_neg (by simp [hm]), if_neg (fun k => h ((State.faultStands_iff hf hw hr).mp k))]
    have cleared : ∀ y, s.clearTheFault b = (s.setBay b y).raiseBay b .fault →
        exec (.clearFault p b.1) s = .next (((s.setBay b y).raiseBay b .fault).answer p 0x24 (.ok (.bayState y.mode))) := fun y hy => by
      have := accepted _ hy
      rwa [State.raiseBay_bay, State.bay_setBay_same] at this
    have hother : f.entered ≠ .probing → (s.bay b).faultless f = { s.bay b with fault := none } := fun hne => by
      rw [Bay.faultless, if_neg (by rwa [clearedTo_probing])]
    refine ⟨fun hb => cleared _ (State.clearTheFault_unbound hb), fun hb hh => ?_, fun hb hh => ?_⟩
    · obtain ⟨e, he⟩ := Option.ne_none_iff_exists'.mp hb
      have hstate := State.clearTheFault_bound he hf
      rw [State.clearedBound, if_neg (by simp [hh])] at hstate
      refine ⟨fun hp => ?_, fun hne => ?_⟩
      · rw [Bay.faultless, if_pos (clearedTo_probing.mpr hp), clearedTo_probing.mpr hp, Probe.cleared_eq] at hstate
        exact cleared _ hstate
      · rw [hother hne, clearedTo_other hne] at hstate
        exact cleared _ hstate
    · obtain ⟨e, he⟩ := Option.ne_none_iff_exists'.mp hb
      have hstate := State.clearTheFault_bound he hf
      rw [State.clearedBound, if_pos hh] at hstate
      refine ⟨fun hp => ?_, fun hne ho => ?_, fun hne ho e' he' => ?_⟩
      · rw [if_pos (clearedTo_probing.mpr hp), Bay.faultless, if_pos (clearedTo_probing.mpr hp), Probe.cleared_eq] at hstate
        exact cleared _ hstate
      · rw [if_neg (by rwa [clearedTo_probing]), hother hne, State.payStage_settled (by rw [State.bay_setBay_same]; exact ho)] at hstate
        exact cleared _ hstate
      · rw [if_neg (by rwa [clearedTo_probing]), hother hne, State.payStage_owed (by rw [State.bay_setBay_same]; exact ho),
          State.setBay_setBay, State.bay_setBay_same, State.askStage_bound (e := e') (by rw [State.bay_setBay_same]; exact he'),
          State.bay_setBay_same, State.setBay_setBay] at hstate
        have := accepted _ hstate
        rw [State.raiseBay_bay] at this
        refine this.trans ?_
        simp only [State.askBay, State.wake_bay, State.modBay, State.bay_setBay_same]
        rfl

/-! ### The bay channels' writes -/

/-- A record that a write names, still in its slot (R8). -/
theorem State.named_some (hr : s.record e.slot = some r) (ht : r.tag = e.tag) : s.named e = some r := by
  simp [State.named, hr, ht]

theorem State.named_none (h : ∀ r, s.record e.slot = some r → r.tag ≠ e.tag) : s.named e = none := by
  unfold State.named
  cases hr : s.record e.slot with
  | none => rfl
  | some r => exact if_neg (h r hr)

/-- The oldest write of a channel gone from its list (R34). -/
theorem State.popBay_eq {w : BayWrite} {rest : List BayWrite} (h : (s.bay b).writes = w :: rest) :
    s.popBay b = s.setBay b { s.bay b with writes := rest } := by
  have ht : (s.bay b).writes.tail = rest := by rw [h]; rfl
  rw [← ht]
  rfl

/-- An engine in its grant (R33). -/
theorem State.engineGrant_given {g : Engine} {f : State → State} (hr : s.running = true) (ha : s.arb.access = .engine g) :
    s.engineGrant g f = (f s).endGrant 2 := if_pos ⟨hr, ha⟩

section BayGrant

variable {rest : List BayWrite} (hr : s.running = true) (ha : s.arb.access = .engine (.bay b))

include hr ha

theorem exec_energyCarry (h : (s.bay b).writes = .carry e :: rest) :
    exec (.energyCarry b) s = .next (((s.popBay b).makeCarry e).endGrant 2) := by
  have he : exec (.energyCarry b) s = .next (s.grantCarry b) := rfl
  rw [he, State.grantCarry, h]
  exact congrArg Host.Outcome.next (State.engineGrant_given hr ha)

theorem exec_hazardFlagWrite {f : HazardFlag} (h : (s.bay b).writes = .flag e f :: rest) :
    exec (.hazardFlagWrite b) s = .next (((s.popBay b).makeFlag e f).endGrant 2) := by
  have he : exec (.hazardFlagWrite b) s = .next (s.grantFlag b) := rfl
  rw [he, State.grantFlag, h]
  exact congrArg Host.Outcome.next (State.engineGrant_given hr ha)

theorem exec_stageChangeWrite {w : StageWrite} (h : (s.bay b).writes = .stage w :: rest) :
    exec (.stageChangeWrite b) s = .next (((s.popBay b).makeStage w).endGrant 2) := by
  have he : exec (.stageChangeWrite b) s = .next (s.grantStage b) := rfl
  rw [he, State.grantStage, h]
  exact congrArg Host.Outcome.next (State.engineGrant_given hr ha)

theorem exec_unbindingGrant {w : StageWrite} (h : (s.bay b).writes = .unbind w :: rest) :
    exec (.unbindingGrant b) s = .next (((s.popBay b).makeUnbind b w).endGrant 2) := by
  have he : exec (.unbindingGrant b) s = .next (s.grantUnbind b) := rfl
  rw [he, State.grantUnbind, h]
  exact congrArg Host.Outcome.next (State.engineGrant_given hr ha)

end BayGrant

theorem State.makeCarry_none (h : s.named e = none) : s.makeCarry e = s := by simp only [State.makeCarry, h]

theorem State.makeCarry_some (h : s.named e = some r) : s.makeCarry e = s.creditEnergy e.slot r 1 := by simp only [State.makeCarry, h]

theorem State.makeFlag_none {f : HazardFlag} (h : s.named e = none) : s.makeFlag e f = s := by simp only [State.makeFlag, h]

theorem State.makeFlag_some {f : HazardFlag} (h : s.named e = some r) :
    s.makeFlag e f = s.setRecord e.slot (some { r with flags := r.flags.hazard f }) := by simp only [State.makeFlag, h]

theorem State.makeStage_none {w : StageWrite} (h : s.expect w.entry w.expected = none) : s.makeStage w = s := by
  simp only [State.makeStage, h]

theorem State.makeStage_some {w : StageWrite} (h : s.expect w.entry w.expected = some r) :
    s.makeStage w = s.setRecord w.entry.slot (some (w.apply r)) := by simp only [State.makeStage, h]

theorem State.popBay_named_some (hr : s.record e.slot = some r) (ht : r.tag = e.tag) : (s.popBay b).named e = some r :=
  State.named_some (by rw [State.popBay, State.modBay_record]; exact hr) ht

theorem State.popBay_named_none (h : ∀ r, s.record e.slot = some r → r.tag ≠ e.tag) : (s.popBay b).named e = none :=
  State.named_none (by rw [State.popBay, State.modBay_record]; exact h)

theorem State.popBay_expect_some {g : Stage} (hr : s.record e.slot = some r) (ht : r.tag = e.tag) (hg : r.stage = g) :
    (s.popBay b).expect e g = some r := State.expect_some (by rw [State.popBay, State.modBay_record]; exact ⟨hr, ht, hg⟩)

theorem State.popBay_expect_none {g : Stage} (h : ∀ r, s.record e.slot = some r → r.tag = e.tag → r.stage ≠ g) :
    (s.popBay b).expect e g = none :=
  State.expect_none fun r ⟨h1, h2, h3⟩ => h r (by rwa [State.popBay, State.modBay_record] at h1) h2 h3

/-- What a stage write makes of its record (R8, R96, R98). -/
theorem StageWrite.apply_eq (w : StageWrite) (r : Rec) : w.apply r = { r with
    stage := w.new, rest := (w.rest.map Prod.fst).orElse (fun _ => r.rest), rebounds := (w.rest.map Prod.snd).getD r.rebounds
    flags := if w.reboundLimit then { r.flags with reboundLimit := true } else r.flags } := by
  unfold StageWrite.apply Rec.overRebound
  cases w.rest <;> cases w.reboundLimit <;> rfl

/-- Settles O38: each write at its grant, made or not by what its slot holds. -/
theorem bayWritesAreMadeAtTheirGrants : Obligations.BayWritesAreMadeAtTheirGrants := by
  intro s b rest hr ha
  refine ⟨fun e h => ⟨fun r hrec ht => ?_, fun hn => ?_⟩, fun e f h => ⟨fun r hrec ht => ?_, fun hn => ?_⟩,
    fun w h => ⟨fun r hrec ht hst hreb => ?_, fun hn => ?_⟩⟩
  · rw [exec_energyCarry hr ha h, State.makeCarry_some (State.popBay_named_some hrec ht), State.popBay_eq h]
    rfl
  · rw [exec_energyCarry hr ha h, State.makeCarry_none (State.popBay_named_none hn), State.popBay_eq h]
  · dsimp only
    rw [exec_hazardFlagWrite hr ha h, State.makeFlag_some (State.popBay_named_some hrec ht), State.popBay_eq h]
    cases f <;> rfl
  · rw [exec_hazardFlagWrite hr ha h, State.makeFlag_none (State.popBay_named_none hn), State.popBay_eq h]
  · dsimp only
    rw [exec_stageChangeWrite hr ha h, State.makeStage_some (State.popBay_expect_some hrec ht hst), StageWrite.apply_eq, hreb,
      State.popBay_eq h]
    rfl
  · rw [exec_stageChangeWrite hr ha h, State.makeStage_none (State.popBay_expect_none hn), State.popBay_eq h]

/-! ### The unbinding grant -/

/-- An unbinding write that matches its record and its channel's binding is made (R64). -/
theorem State.makeUnbind_some {w : StageWrite} (h : s.expect w.entry w.expected = some r) (hb : (s.bay b).binding = some w.entry) :
    s.makeUnbind b w = (s.releaseRecord b w.entry r w.apply).releaseBay b w.entry (fun x => x.unboundMode (s.restState b)) := by
  simp only [State.makeUnbind, h, if_pos hb]

theorem State.makeUnbind_none {w : StageWrite} (h : (s.bay b).binding ≠ some w.entry ∨ s.expect w.entry w.expected = none) :
    s.makeUnbind b w = s := by
  unfold State.makeUnbind
  split
  · next r hx =>
    rcases h with h | h
    · exact if_neg h
    · rw [h] at hx; cases hx
  · rfl

/-- The last channel written before the record and the tallies changed is the one that counts. -/
theorem State.setBay_past (s : State) (x y : Bay) (q : Option Rec) (a : Tallies) (i : Slot) :
    (((s.setBay b x).setRecord i q).setTallies a).setBay b y = ((s.setRecord i q).setTallies a).setBay b y :=
  State.setBay_setBay ((s.setRecord i q).setTallies a) b x y

/-- The channel's part of an unbinding grant, on the channel as it stands (R64, R155). -/
theorem State.releaseBay_eq {x : Bay} (g : Bay → Bay) (h : s.bay b = x) : s.releaseBay b e g =
    ((s.setBay b (g (x.unbound e))).vote (bayZone b)).raiseBay b .release := by rw [← h]; rfl

/-- Settles O39: the writes of the unbinding in the order of R64, on the state whose list the write has left. -/
theorem unbindingEndsTheBinding : Obligations.UnbindingEndsTheBinding := by
  intro s b w rest hr ha h
  have hbay : (s.popBay b).bay b = { s.bay b with writes := rest } := by rw [State.popBay_eq h, State.bay_setBay_same]
  refine ⟨fun hn => ?_, fun hb r hrec ht hst => ?_⟩
  · rw [exec_unbindingGrant hr ha h, State.makeUnbind_none, State.popBay_eq h]
    rcases hn with hn | hn
    · left; rwa [hbay]
    · right; exact State.popBay_expect_none hn
  · have hcount : ∀ x : Bay, x.writes = rest → x.carriesOf w.entry = rest.count (.carry w.entry) := fun x hx => by
      rw [Bay.carriesOf, hx, List.count]
      rfl
    have hrest : (s.popBay b).restState b = if s.effectiveStop b then .stopped else .idle := by
      have hstop : (s.popBay b).effectiveStop b = s.effectiveStop b := by
        rw [State.effectiveStop_eq, State.effectiveStop_eq, hbay, State.popBay_eq h]; rfl
      rw [State.restState, hstop]
    intro n freed y
    have hn : ({ s.bay b with writes := rest } : Bay).unbindEnergy w.entry = n := by rw [Bay.unbindEnergy, hcount _ rfl]; rfl
    have hy : (({ s.bay b with writes := rest } : Bay).unbound w.entry).unboundMode (if s.effectiveStop b then .stopped else .idle) = y :=
      rfl
    have hfreed : w.apply { r with energy := min 999999 (r.energy + n), bay := none } = freed := by rw [StageWrite.apply_eq]
    rw [exec_unbindingGrant hr ha h, State.makeUnbind_some (State.popBay_expect_some hrec ht hst) (by rw [hbay]; exact hb),
      State.releaseRecord_eq, hbay, hn, hfreed, hrest, State.releaseBay_eq (x := { s.bay b with writes := rest }) _ (by exact hbay), hy,
      State.popBay_eq h, State.setBay_past]
    rfl

end Sys2Proof.Machine
end

section
/-!
PROOFS. The feed queue and admission at a request (R137, R138, R139, R150).
-/

namespace Sys2Proof.Machine

variable {c : Cause} {s t : State} {p : Port} {i : Slot} {e : Entry} {r : Rec}

/-! ### ENQUEUE and WITHDRAW -/

/-- Conditions 3 and 4 of the eligibility test as R99 says them. -/
theorem Rec.eligible_iff (r : Rec) (k : ClassCfg) : r.eligible k = true ↔
    (∃ v, r.rest = some v ∧ v * 100 / r.cells ≤ k.safeV)
      ∧ (r.declared = 0 ∨ r.declared - r.energy ≤ r.declared * k.permille / 1000) := by
  cases h : r.rest <;> simp [Rec.eligible, Rec.perCell, perCellOf, Rec.residual, Rec.allowance, h]

/-- ENQUEUE's own checks, in their order (R137). -/
theorem State.grantEnqueue_eq (hu : s.TagsUnique) (hm : s.MayAct p i r) : s.grantEnqueue p r.tag =
    if r.stage ≠ .discharged then s.refuse .wrongStage
    else if r.flags.quarantine then s.refuse .quarantined
    else if !r.eligible (s.classCfg r.cls) then s.refuse .notEligible
    else if 8 ≤ s.feed.queue.length then s.refuse .queueFull
    else ((((s.setRecord i (some { r with stage := .queued })).setFeed
      { s.feed with queue := s.feed.queue ++ [{ slot := i, tag := r.tag }] }).forget { slot := i, tag := r.tag }).evalAdmission).withRecord
        i := by
  rw [State.grantEnqueue, s.findTag_eq hu hm.2.1, s.onRecord_mayAct hm]

/-- WITHDRAW's own check (R138). -/
theorem State.grantWithdraw_eq (hu : s.TagsUnique) (hm : s.MayAct p i r) : s.grantWithdraw p r.tag =
    if r.stage ≠ .queued then s.refuse .wrongStage
    else ((((s.setRecord i (some { r with stage := .discharged })).setFeed (s.feed.leave { slot := i, tag := r.tag })).forget
      { slot := i, tag := r.tag }).evalAdmission).withRecord i := by
  rw [State.grantWithdraw, s.findTag_eq hu hm.2.1, s.onRecord_mayAct hm]

/-- An answer that evaluates admission first and then gives the record of a slot (R9, R139). -/
theorem State.withRecord_evaluated (h : t.record i = some r) : ((t.setAccess (.port p)).evalAdmission).withRecord i =
    (.ok (.record (t.evalAdmission.view i r)), (t.setAccess (.port p)).evalAdmission) := by
  have hr : (t.setAccess (.port p)).evalAdmission.record i = some r := by rw [State.evalAdmission_record]; exact h
  simp only [State.withRecord, State.recordReply, hr]
  rw [State.evalAdmission_setAccess]
  rfl

/-- The queue replaced for a record, the memory cleared when it names it, and admission evaluated (R137, R138). -/
theorem State.requeued (y : Rec) (tag : Nat) (q : List Entry) :
    (((((s.setAccess (.port p)).setRecord i (some y)).setFeed { s.feed with queue := q }).forget
      { slot := i, tag }).evalAdmission).withRecord i
    = (.ok (.record (((s.setRecord i (some y)).setFeed { s.feed with
          queue := q
          memory := if s.feed.memory.map (fun m => (m.slot, m.tag)) = some (i, tag) then none else s.feed.memory
        }).evalAdmission.view i y)),
      (((s.setRecord i (some y)).setFeed { s.feed with
          queue := q
          memory := if s.feed.memory.map (fun m => (m.slot, m.tag)) = some (i, tag) then none else s.feed.memory
        }).setAccess (.port p)).evalAdmission) := by
  rw [State.forget_eq]
  exact State.withRecord_evaluated (t := (s.setRecord i (some y)).setFeed _) (by rw [State.setFeed_record, State.record_setRecord_same])

/-- Settles O46: the requests' own checks in order, then the queue with its new or without its old entry. -/
theorem feedRequestsMoveTheQueue : Obligations.FeedRequestsMoveTheQueue := by
  intro p s i r k hf hu hm ht hk
  have hg := State.grantEnqueue_eq (s := s.setAccess (.port p)) hu (s.mayAct_setAccess _ hm)
  have hw := State.grantWithdraw_eq (s := s.setAccess (.port p)) hu (s.mayAct_setAccess _ hm)
  have hcfg : (s.setAccess (.port p)).classCfg r.cls = k := s.classCfg_eq _ _ hk
  rw [hcfg] at hg
  refine ⟨fun h => ?_, fun h h' => ?_, fun h h' => ⟨fun hn => ?_, fun he hl => ?_, fun he hl => ?_⟩, fun h => ?_, fun h => ?_⟩
  · exact exec_granted_refused hf rfl rfl ht (congrArg some (by rw [hg, if_pos h]; rfl))
  · exact exec_granted_refused hf rfl rfl ht (congrArg some (by rw [hg, if_neg (not_not_intro h), if_pos h']; rfl))
  · have hn' : (!r.eligible k) = true := by
      rw [Bool.not_eq_true', ← Bool.not_eq_true]
      exact fun hk => hn ((r.eligible_iff k).mp hk)
    exact exec_granted_refused hf rfl rfl ht (congrArg some (by
      rw [hg, if_neg (not_not_intro h), if_neg (by simp [h']), if_pos hn']; rfl))
  · have he' : ¬ (!r.eligible k) = true := by rw [(r.eligible_iff k).mpr he]; decide
    exact exec_granted_refused hf rfl rfl ht (congrArg some (by
      rw [hg, if_neg (not_not_intro h), if_neg (by simp [h']), if_neg he', State.setAccess_feed, if_pos hl]; rfl))
  · have he' : ¬ (!r.eligible k) = true := by rw [(r.eligible_iff k).mpr he]; decide
    refine s.exec_granted_evaluates hf rfl rfl ht (congrArg some ?_) (hf.2.same rfl rfl rfl rfl)
    rw [hg, if_neg (not_not_intro h), if_neg (by simp [h']), if_neg he', State.setAccess_feed, if_neg (Nat.not_le.mpr hl)]
    exact State.requeued _ _ _
  · exact exec_granted_refused hf rfl rfl ht (congrArg some (by rw [hw, if_pos h]; rfl))
  · refine s.exec_granted_evaluates hf rfl rfl ht (congrArg some ?_) (hf.2.same rfl rfl rfl rfl)
    rw [hw, if_neg (not_not_intro h)]
    exact State.requeued _ _ _

/-! ### Admission -/

/-- The conditions of R139 as R139 says them. -/
theorem State.admits_iff : s.admits = true ↔
    (∃ e, s.feed.queue.head? = some e ∧ ∃ r, s.record e.slot = some r ∧ r.tag = e.tag ∧ r.stage = .queued)
      ∧ s.chamber.state = .inert ∧ s.lines.throatEmpty = true ∧ s.feed.faults.present = false
      ∧ (∀ i r, s.record i = some r → r.stage ≠ .shredUnconfirmed ∧ r.stage ≠ .inShredder)
      ∧ s.feed.block = { z4 := false, z5 := false, z6 := false } ∧ s.feed.gate = none ∧ s.feed.gateOpen = false
      ∧ s.feed.shred = none := by
  have hall : s.admits = (s.admissionConditions.map not).all not := by
    simp [State.admits, List.all_map, Function.comp_def]; rfl
  have hblock : s.feed.block = { z4 := false, z5 := false, z6 := false } ↔
      s.feed.block.z4 = false ∧ s.feed.block.z5 = false ∧ s.feed.block.z6 = false := by
    rcases s.feed.block with ⟨a, b, d⟩; simp
  rw [hall, State.failing_eq, hblock]
  simp [FeedFaults.present, Option.any_eq_true]
  intros
  simp only [imp_and, forall_and]
  grind

/-- Admission evaluated with its conditions holding and no write waiting (R139). -/
theorem State.evalAdmission_asks (h : s.admits = true) (hw : s.feed.admissionWaiting = false) (hq : s.feed.queue.head? = some e) :
    s.evalAdmission = (s.setFeed { s.feed with admissionWaiting := true }).askFeed (.admission e) := by
  obtain ⟨l, hq⟩ := List.head?_eq_some_iff.mp hq
  simp only [State.evalAdmission, if_pos (And.intro h hw), hq]

/-- A second admission is not asked for while one waits (R139). -/
theorem State.evalAdmission_waits (hw : s.feed.admissionWaiting = true) : s.evalAdmission = s := by
  simp [State.evalAdmission, hw]

/-- Some pack of the shredder path is unconfirmed (R150). -/
theorem Feed.unsettled_iff (f : Feed) : f.unsettled = true ↔ ∃ x ∈ f.path, x.unconfirmed = true := List.any_eq_true

/-- Settles O47: RESUME_FEED by its refusal and by the conditions of R139; the throat by condition 3. -/
theorem admissionIsAskedForWhenItsConditionsHold : Obligations.AdmissionIsAskedForWhenItsConditionsHold := by
  refine fun s => ⟨fun p ht => ⟨fun h => ?_, fun h => ?_⟩, ?_⟩
  · exact exec_served ht rfl rfl rfl (if_pos ((Feed.unsettled_iff _).mpr h))
  · have hset : ¬ s.feed.unsettled = true := fun hk => by
      obtain ⟨x, hx, hu⟩ := (Feed.unsettled_iff _).mp hk
      simp [h x hx] at hu
    refine ⟨fun e ⟨hq, hr, hin, hth, hst, hb, hg, ho, hsh⟩ hw => ?_, fun hn => ?_⟩
    · have hadm : (s.setFeed { s.feed with faults := {} }).admits = true :=
        State.admits_iff.mpr ⟨⟨e, hq, hr⟩, hin, hth, rfl, hst, hb, hg, ho, hsh⟩
      refine exec_served ht rfl rfl rfl ((if_neg hset).trans ?_)
      rw [State.evalAdmission_asks hadm hw hq]
      rfl
    · refine exec_served ht rfl rfl rfl ((if_neg hset).trans ?_)
      rcases hn with hn | hw
      · rw [State.evalAdmission_refused]
        rw [← Bool.not_eq_true]
        intro hadm
        obtain ⟨⟨e, hq, hr⟩, hin, hth, -, hst, hb, hg, ho, hsh⟩ := State.admits_iff.mp hadm
        exact hn e ⟨hq, hr, hin, hth, hst, hb, hg, ho, hsh⟩
      · rw [State.evalAdmission_waits (by exact hw)]
  · have he : exec .throatEmptyDeassert s
        = .next ((s.setLines { s.lines with throatEmpty := false }).whenRunning State.evalAdmission) := rfl
    rw [he, State.whenRunning, State.evalAdmission_refused _ (State.admits_throat _ rfl), ite_self]

end Sys2Proof.Machine
end

section
/-!
PROOFS. The chamber's moves (R120 to R131), the events of the feed (R142 to R148) and the Feed Controller's writes at their
grants (R8, R140 to R149).
-/

namespace Sys2Proof.Machine

variable {c : Cause} {s t : State} {p : Port} {e : Entry} {r : Rec} {g : ChamberState} {c' : Chamber}

/-! ### A new chamber state -/

/-- The chamber in a state, with the outputs of that state, and CHAMBER attention raised (R130, R131, R132). -/
def State.entered (s : State) (g : ChamberState) : State :=
  (s.setChamber ({ s.chamber with state := g }.drive s.settings.chamber.abort s.lines.plantPermit)).raiseChamber

theorem State.enterChamber_entered (h : s.chamber.state ≠ g) :
    s.enterChamber g = (s.entered g).feedChamberReport s.chamber.state g := if_neg h

@[simp] theorem State.entered_state (s : State) (g : ChamberState) : (s.entered g).chamber.state = g := by
  simp [State.entered, Chamber.drive]

theorem State.feedChamberReport_outside {old : ChamberState} (h : old ≠ .inert) :
    s.feedChamberReport old g = s.evalAdmission := by
  unfold State.feedChamberReport
  rw [if_neg h]

/-- A move that neither leaves nor enters INERT tells the feed nothing it acts on (R132). -/
theorem State.enterChamber_outside (h : s.chamber.state ≠ g) (ho : s.chamber.state ≠ .inert) (hg : g ≠ .inert) :
    s.enterChamber g = s.entered g := by
  rw [State.enterChamber_entered h, State.feedChamberReport_outside ho, State.evalAdmission_outside _ (by simpa using hg)]

/-- An entry to INERT lets admission be evaluated (R132). -/
theorem State.enterChamber_inert (h : s.chamber.state ≠ .inert) : s.enterChamber .inert = (s.entered .inert).evalAdmission := by
  rw [State.enterChamber_entered h, State.feedChamberReport_outside h]

/-- INERT left for SHREDDING (R127). -/
theorem State.enterChamber_shredding (h : s.chamber.state = .inert) : s.enterChamber .shredding = s.entered .shredding := by
  rw [State.enterChamber_entered (by rw [h]; decide), State.feedChamberReport, if_pos h, State.evalAdmission_outside _ (by simp)]

/-- INERT left for HOLD, SEALED or OPEN returns the record at the gate (R132). -/
theorem State.enterChamber_left (h : s.chamber.state = .inert) (hg : g = .hold ∨ g = .sealed ∨ g = .doorOpen) :
    s.enterChamber g = (s.entered g).startReturn := by
  rcases hg with rfl | rfl | rfl <;>
    rw [State.enterChamber_entered (by rw [h]; decide), State.feedChamberReport, if_pos h,
      State.evalAdmission_outside _ (by simp)]

/-- INERT left for FIRE closes the gate (R132). -/
theorem State.enterChamber_fire (h : s.chamber.state = .inert) :
    s.enterChamber .fire = (s.entered .fire).setFeed s.feed.closeGate := by
  rw [State.enterChamber_entered (by rw [h]; decide), State.feedChamberReport, if_pos h,
    State.evalAdmission_outside _ (by simp)]
  congr 2
  simp [State.entered]

theorem Chamber.confirmHolds_eq (x : Chamber) (n : Nat) :
    x.confirmHolds n = (decide (x.condition = .agreed) && x.eff.any (fun e => decide (e ≤ n))) := by
  unfold Chamber.confirmHolds
  cases x.eff <;> rfl

/-! ### PURGE and STOP_CHAMBER -/

/-- The chamber purging from SEALED (R121). -/
theorem State.startPurge_eq (h : s.chamber.state = .sealed) : s.startPurge =
    (s.setChamber { s.chamber with
      state := .purging, purgeTimer := some 0, purgeFault := false
      confirm := if decide (s.chamber.condition = .agreed) && s.chamber.eff.any (fun e =>
        decide (e ≤ s.settings.chamber.admitLevel)) then some 0 else none
      nitrogen := true, flood := false, permit := false, shredPermit := false }).raiseChamber := by
  rw [State.startPurge, State.enterChamber_outside (by simp [Chamber.startConfirm, h]) (by simp [Chamber.startConfirm, h]) (by decide),
    ← Chamber.confirmHolds_eq]
  rfl

theorem exec_purge (hs : s.Takes p) : exec (.purge p) s = .next (s.servePurge.2.answer p 0x30 s.servePurge.1) :=
  exec_served hs rfl rfl rfl rfl

theorem exec_stopChamber (hs : s.Takes p) :
    exec (.stopChamber p) s = .next (s.serveStopChamber.2.answer p 0x31 s.serveStopChamber.1) :=
  exec_served hs rfl rfl rfl rfl

theorem State.serveStopChamber_stops (h : s.chamber.stoppable = true) :
    s.serveStopChamber = (.ok (.chamberState .sealed), s.stopInerting) := by
  rw [State.serveStopChamber, if_pos h, State.stopInerting, State.enterChamber_state]

theorem State.serveStopChamber_refused (h : s.chamber.stoppable = false) :
    s.serveStopChamber = s.refuse .chamberState := if_neg (by simp [h])

@[simp] theorem Chamber.stopTimers_state (x : Chamber) : x.stopTimers.state = x.state := rfl

/-! ### Lines and attention do not meet -/

theorem State.raise_setLines (s : State) (x : Lines) (f : Attn → Attn) : (s.setLines x).raise f = (s.raise f).setLines x := by
  by_cases h : s.running = true
  · rw [State.raise_eq _ h, State.raise_eq _ (by exact h)]
    rfl
  · have hn : s.running = false := by simpa using h
    simp [State.raise, State.raisePort, hn]

theorem State.doorOpens_eq (h : s.chamber.state ≠ .doorOpen) (hf : s.chamber.state ≠ .fire) : s.doorOpens =
    (((s.setChamber s.chamber.stopTimers).enterChamber .doorOpen).loseShred).evalAdmission := by
  unfold State.doorOpens
  cases hc : s.chamber.state <;> simp_all

theorem State.doorOpens_open (h : s.chamber.state = .doorOpen ∨ s.chamber.state = .fire) : s.doorOpens = s := by
  unfold State.doorOpens
  rcases h with h | h <;> rw [h]

/-- A door that opens on a moving chamber, with the line at its new level (R120). -/
theorem State.entered_setLines (x : Lines) : ((s.setLines x).setChamber c').entered g =
    ((s.setChamber ({ c' with state := g }.drive s.settings.chamber.abort x.plantPermit)).raiseChamber).setLines x :=
  State.raise_setLines (s.setChamber _) x _

/-- The door opens in a running part (R120). -/
theorem exec_doorOpens (hr : s.running = true) (hd : s.lines.doorClosed = true) :
    exec (.doorClosedChange false) s = .next (s.setLines { s.lines with doorClosed := false }).doorOpens := by
  have he : exec (.doorClosedChange false) s = .next ((s.setLines { s.lines with doorClosed := false }).whenRunning
    (fun t => if false = s.lines.doorClosed then t else t.doorOpens)) := rfl
  rw [he, State.whenRunning_running _ (by exact hr), if_neg (by simp [hd])]

/-- The door closes in a running part (R120). -/
theorem exec_doorCloses (hr : s.running = true) (hd : s.lines.doorClosed = false) :
    exec (.doorClosedChange true) s = .next (s.setLines { s.lines with doorClosed := true }).doorCloses := by
  have he : exec (.doorClosedChange true) s = .next ((s.setLines { s.lines with doorClosed := true }).whenRunning
    (fun t => if true = s.lines.doorClosed then t else t.doorCloses)) := rfl
  rw [he, State.whenRunning_running _ (by exact hr), if_neg (by simp [hd])]

/-- Settles O50: each move by its state, with the outputs and the report of the state it enters. -/
theorem chamberMovesBetweenItsStates : Obligations.ChamberMovesBetweenItsStates := by
  intro s hr
  refine ⟨fun p hs => ⟨fun h => ?_, fun h => ?_, fun h => ?_, fun h => ?_, fun h => ?_⟩,
    fun n hn => ⟨fun h => ?_, fun h hl => ?_⟩, fun n hn h => ?_, fun hd => ⟨fun h => ?_, fun h => ?_, fun h => ?_⟩,
    fun hd => ⟨fun h => ?_, fun h => ?_⟩, fun ho on => ?_⟩
  · have hp : s.servePurge = (.ok (.chamberState .purging), s.startPurge) := by
      rw [State.servePurge, if_pos h, State.startPurge, State.enterChamber_state]
    rw [exec_purge hs, hp, State.startPurge_eq h]
  · rw [exec_purge hs, State.servePurge, if_neg h]
    rfl
  · have hst : s.chamber.stoppable = true := by
      rcases h with h | ⟨h, hl⟩
      · rw [Chamber.stoppable, h]
      · rw [Chamber.stoppable, h, hl]; rfl
    rw [exec_stopChamber hs, State.serveStopChamber_stops hst, State.stopInerting, State.enterChamber_outside
      (by rcases h with h | ⟨h, -⟩ <;> simp [h]) (by rcases h with h | ⟨h, -⟩ <;> simp [h])
      (by decide)]
    rfl
  · rw [exec_stopChamber hs, State.serveStopChamber_stops (by rw [Chamber.stoppable, h]), State.stopInerting,
      State.enterChamber_left (by exact h) (.inr (.inl rfl))]
    rfl
  · have hst : s.chamber.stoppable = false := by
      rcases h with h | h | h | h | ⟨h, hl⟩
      · rw [Chamber.stoppable, h]
      · rw [Chamber.stoppable, h]
      · rw [Chamber.stoppable, h]
      · rw [Chamber.stoppable, h]
      · rw [Chamber.stoppable, h, hl]; rfl
    rw [exec_stopChamber hs, State.serveStopChamber_refused hst]
    rfl
  · have he : exec .confirmTimeElapsed s = .next (s.whenRunning State.confirmElapsed) := rfl
    have hc : s.confirmElapsed = (s.setChamber s.chamber.stopTimers).enterChamber .inert := by
      unfold State.confirmElapsed
      rcases h with h | ⟨h, hl⟩
      · rw [hn, h]
      · rw [hn, h, hl]; rfl
    rw [he, State.whenRunning_running _ hr, hc, State.enterChamber_inert
      (by rcases h with h | ⟨h, -⟩ <;> simp [h])]
    rfl
  · have he : exec .confirmTimeElapsed s = .next (s.whenRunning State.confirmElapsed) := rfl
    have hc : s.confirmElapsed = (s.setChamber s.chamber.stopTimers).enterChamber .shredding := by
      unfold State.confirmElapsed
      rw [hn, h, hl]; rfl
    rw [he, State.whenRunning_running _ hr, hc, State.enterChamber_outside (by simp [h])
      (by simp [h]) (by decide)]
    rfl
  · have he : exec .purgeTimeout s = .next (s.whenRunning State.purgeExpired) := rfl
    have hc : s.purgeExpired
        = (s.setChamber { s.chamber with confirm := none, purgeTimer := none, purgeFault := true }).enterChamber .sealed := by
      unfold State.purgeExpired
      rw [hn]
      exact if_pos h
    rw [he, State.whenRunning_running _ hr, hc, State.enterChamber_outside (by simp [h]) (by simp [h]) (by decide)]
    rfl
  · have hne : (s.chamber.state ≠ .doorOpen ∧ s.chamber.state ≠ .fire) ∧ s.chamber.state ≠ .inert := by
      rcases h with h | h | h | h <;> rw [h] <;> decide
    rw [exec_doorOpens hr hd, State.doorOpens_eq (by exact hne.1.1) (by exact hne.1.2),
      State.enterChamber_outside (by exact hne.1.1) (by exact hne.2) (by decide), State.entered_setLines,
      State.evalAdmission_outside _ (by simp [Chamber.drive])]
    rfl
  · rw [exec_doorOpens hr hd, State.doorOpens_eq (by simp [h]) (by simp [h]),
      State.enterChamber_left (by exact h) (.inr (.inr rfl)), State.entered_setLines,
      State.evalAdmission_outside _ (by simp [Chamber.drive])]
    rfl
  · rw [exec_doorOpens hr hd, State.doorOpens_open (by exact h)]
  · have hc : (s.setLines { s.lines with doorClosed := true }).doorCloses
        = ((s.setLines { s.lines with doorClosed := true }).setChamber s.chamber).enterChamber .sealed := by
      unfold State.doorCloses
      rw [State.setLines_chamber, h]
      rfl
    rw [exec_doorCloses hr hd, hc,
      State.enterChamber_outside (by simp [h]) (by simp [h]) (by decide), State.entered_setLines]
    rfl
  · have hc : (s.setLines { s.lines with doorClosed := true }).doorCloses = s.setLines { s.lines with doorClosed := true } := by
      unfold State.doorCloses
      cases hc : s.chamber.state <;> simp_all
    rw [exec_doorCloses hr hd, hc]
  · have he : exec (.plantPermitChange on) s
        = .next ((s.setLines { s.lines with plantPermit := on }).whenRunning State.driveChamber) := rfl
    obtain ⟨hn, hf, hp, -⟩ := ho.1 hr
    have hdrive : s.chamber.drive s.settings.chamber.abort on = { s.chamber with shredPermit := s.chamber.permit && on } := by
      rw [Chamber.drive, ← hn, ← hf, ← hp]
    rw [he, State.whenRunning_running _ (by exact hr)]
    exact congrArg (fun x => Host.Outcome.next ((s.setLines { s.lines with plantPermit := on }).setChamber x)) hdrive

end Sys2Proof.Machine
end

section
/-!
PROOFS. The events of the feed (R142 to R148) and the Feed Controller's writes at their grants (R8, R140 to R149).
-/

namespace Sys2Proof.Machine

variable {c : Cause} {s t : State} {p : Port} {e : Entry} {r : Rec}

/-! ### The chamber at an event of the feed -/

/-- A pass in INERT (R127). -/
theorem State.chamberPass_inert (h : s.chamber.state = .inert) : s.chamberPass = (s.setChamber { s.chamber with
    loaded := true, state := .shredding, nitrogen := true, flood := false, permit := true
    shredPermit := s.lines.plantPermit }).raiseChamber := by
  rw [State.chamberPass, if_pos h, State.enterChamber_shredding (by exact h)]
  rfl

/-- A pass elsewhere (R127). -/
theorem State.chamberPass_outside (h : s.chamber.state ≠ .inert) :
    s.chamberPass = s.setChamber { s.chamber with loaded := true } := if_neg h

/-- A throat that empties in SHREDDING (R127). -/
theorem State.chamberThroatEmpty_shredding (h : s.chamber.state = .shredding) : s.chamberThroatEmpty = (s.setChamber { s.chamber with
    loaded := false, state := .inert, nitrogen := true, flood := false, permit := true
    shredPermit := s.lines.plantPermit }).raiseChamber.evalAdmission := by
  rw [State.chamberThroatEmpty, if_pos h, State.enterChamber_inert (by simp [h])]
  rfl

/-- A throat that empties elsewhere (R127). -/
theorem State.chamberThroatEmpty_outside (h : s.chamber.state ≠ .shredding) :
    s.chamberThroatEmpty = s.setChamber { s.chamber with loaded := false } := if_neg h

/-! ### The order of independent updates -/

/-- A write asked for by the Feed Controller, as one update of the arbiter (R32, R34). -/
theorem State.askFeed_eq (w : FeedWrite) : s.askFeed w = s.setArb { s.arb with
    feedWrites := s.arb.feedWrites ++ [w]
    access := if s.arb.access = .parked then .engine .feed else s.arb.access } := by
  rw [State.askFeed, State.wake_eq, State.setAccess]
  by_cases h : s.arb.access = .parked
  · rw [if_pos h]; simp [h]
  · rw [if_neg h]; simp [h]

theorem State.raiseFeed_eq (h : s.running = true) : s.raiseFeed = { s with
    line := s.line.attend (fun a => { a with feed := true }), plant := s.plant.attend (fun a => { a with feed := true }) } :=
  s.raise_eq h _

/-- FEED attention raised twice is raised once (R188). -/
theorem State.addFeedFault_raised (hr : s.running = true) (f : FeedFaults → FeedFaults) :
    s.raiseFeed.addFeedFault f = s.addFeedFault f := by
  have hraised := State.raiseFeed_eq hr
  have hfault := State.raiseFeed_eq (s := s.setFeed { s.feed with faults := f s.feed.faults }) hr
  rw [State.addFeedFault, State.addFeedFault, hfault, hraised]
  exact State.raiseFeed_eq hr

/-- A feed fault added to a write asked for (R148, R150). -/
theorem State.addFeedFault_only (w : FeedWrite) (f : FeedFaults → FeedFaults) :
    (s.askFeed w).addFeedFault f = ((s.setFeed { s.feed with faults := f s.feed.faults }).askFeed w).raiseFeed := by
  rw [State.addFeedFault, State.askFeed_eq, State.askFeed_eq]
  rfl

theorem exec_gatePass (hr : s.running = true) : exec .gatePass s = .next s.feedPass.chamberPass := by
  have he : exec .gatePass s = .next (s.whenRunning (fun t => t.feedPass.chamberPass)) := rfl
  rw [he, State.whenRunning_running _ hr]

theorem exec_throatEmpty (hr : s.running = true) : exec .throatEmpty s
    = .next (s.setLines { s.lines with throatEmpty := true }).feedThroatEmpty.chamberThroatEmpty.evalAdmission := by
  have he : exec .throatEmpty s = .next ((s.setLines { s.lines with throatEmpty := true }).whenRunning
    (fun t => t.feedThroatEmpty.chamberThroatEmpty.evalAdmission)) := rfl
  rw [he, State.whenRunning_running _ (by exact hr)]

/-- The chamber follows a pass in the same event (R127). -/
theorem exec_gatePass_follows (hr : s.running = true) (hf : s.feedPass = t) (hc : t.chamber = s.chamber) (hl : t.lines = s.lines) :
    (s.chamber.state = .inert → exec .gatePass s = .next ((t.setChamber { s.chamber with
        loaded := true, state := .shredding, nitrogen := true, flood := false, permit := true
        shredPermit := s.lines.plantPermit }).raiseChamber))
      ∧ (s.chamber.state ≠ .inert → exec .gatePass s = .next (t.setChamber { s.chamber with loaded := true })) := by
  refine ⟨fun h => ?_, fun h => ?_⟩
  · rw [exec_gatePass hr, hf, State.chamberPass_inert (by rw [hc]; exact h), hc, hl]
  · rw [exec_gatePass hr, hf, State.chamberPass_outside (by rw [hc]; exact h), hc]

/-- The chamber follows a throat-empty event in the same event (R127). -/
theorem exec_throatEmpty_follows (hr : s.running = true)
    (hf : (s.setLines { s.lines with throatEmpty := true }).feedThroatEmpty = t) (hc : t.chamber = s.chamber)
    (hl : t.lines = { s.lines with throatEmpty := true }) :
    (s.chamber.state = .shredding → exec .throatEmpty s = .next ((t.setChamber { s.chamber with
        loaded := false, state := .inert, nitrogen := true, flood := false, permit := true
        shredPermit := s.lines.plantPermit }).raiseChamber.evalAdmission))
      ∧ (s.chamber.state ≠ .shredding →
        exec .throatEmpty s = .next ((t.setChamber { s.chamber with loaded := false }).evalAdmission)) := by
  refine ⟨fun h => ?_, fun h => ?_⟩
  · rw [exec_throatEmpty hr, hf, State.chamberThroatEmpty_shredding (by rw [hc]; exact h), State.evalAdmission_twice, hc, hl]
  · rw [exec_throatEmpty hr, hf, State.chamberThroatEmpty_outside (by rw [hc]; exact h), hc]

/-- Settles O48: each event by the record it acts on, then the chamber by its state. -/
theorem feedEventsActAtOnce : Obligations.FeedEventsActAtOnce := by
  refine fun s hr => ⟨fun e h => ?_, fun h => ?_, fun e h => ?_, fun h => ?_, fun e x h hx => ?_, fun e x h hx => ?_, ?_⟩
  · refine exec_gatePass_follows hr ?_ (by simp) (by simp)
    unfold State.feedPass
    rw [h]
    rfl
  · refine exec_gatePass_follows hr ?_ (by simp) (by simp)
    unfold State.feedPass
    split
    · next e he => rw [h] at he; cases he
    · rfl
  · refine exec_throatEmpty_follows hr ?_ (by simp) (by simp)
    unfold State.feedThroatEmpty
    rw [State.setLines_feed, h]
    rfl
  · refine exec_throatEmpty_follows hr ?_ (by simp) (by simp)
    unfold State.feedThroatEmpty
    rw [State.setLines_feed, h]
  · have he : exec .gateTimeout s = .next (s.whenRunning State.gateExpired) := rfl
    have hx : s.gateExpired = (s.startReturn.addFeedFault (fun f => { f with gateTimeout := true })).evalAdmission := by
      unfold State.gateExpired
      rw [h, hx]
    have hret : s.startReturn = (((s.setFeed s.feed.closeGate).remember e).askFeed (.giveBack e)).raiseFeed := by
      unfold State.startReturn
      rw [h]
    rw [he, State.whenRunning_running _ hr, hx, hret, State.addFeedFault_raised (by simpa using hr), State.addFeedFault_only,
      State.evalAdmission_refused _ (State.admits_fault _ (by simp [FeedFaults.present]))]
    rfl
  · have he : exec .shredTimeout s = .next (s.whenRunning State.shredExpired) := rfl
    have hx : s.shredExpired = (s.loseShred.addFeedFault (fun f => { f with shredTimeout := true })).evalAdmission := by
      unfold State.shredExpired
      rw [h, hx]
    have hlose : s.loseShred = (s.setFeed s.feed.dropShred).askFeed (.unconfirmed e) := by
      unfold State.loseShred
      rw [h]
    rw [he, State.whenRunning_running _ hr, hx, hlose, State.addFeedFault_only,
      State.evalAdmission_refused _ (State.admits_fault _ (by simp [FeedFaults.present]))]
    rfl
  · have he : exec .returnWindowEnd s = .next (s.whenRunning State.windowEnded) := rfl
    rw [he, State.whenRunning_running _ hr]
    rfl

/-! ### The Feed Controller's writes -/

/-- The oldest write of the Feed Controller gone from its list (R34). -/
theorem State.popFeed_eq {w : FeedWrite} {rest : List FeedWrite} (h : s.arb.feedWrites = w :: rest) :
    s.popFeed = s.setArb { s.arb with feedWrites := rest } := by
  have ht : s.arb.feedWrites.tail = rest := by rw [h]; rfl
  rw [← ht]
  rfl

section FeedGrant

variable {rest : List FeedWrite} (hr : s.running = true) (ha : s.arb.access = .engine .feed)

include hr ha

/-- A grant of the Feed Controller: its write, the evaluation of admission, the end of the grant (R33, R139). -/
theorem State.feedGrant_given {w : FeedWrite} {f : State → State} (h : s.arb.feedWrites = w :: rest)
    (hf : f (s.setArb { s.arb with feedWrites := rest }) = t) : s.feedGrant f = t.evalAdmission.endGrant 2 := by
  rw [State.feedGrant, State.engineGrant_given hr ha, State.popFeed_eq h, hf]

theorem exec_admissionWrite (h : s.arb.feedWrites = .admission e :: rest)
    (hf : ((s.setArb { s.arb with feedWrites := rest }).makeAdmission e).evalAdmission = t.evalAdmission) :
    exec .admissionWrite s = .next (t.evalAdmission.endGrant 2) := by
  have he : exec .admissionWrite s = .next s.grantAdmission := rfl
  rw [he, State.grantAdmission, h, ← hf]
  exact congrArg Host.Outcome.next (State.feedGrant_given hr ha h rfl)

theorem exec_passWrite (h : s.arb.feedWrites = .pass e :: rest)
    (hf : (s.setArb { s.arb with feedWrites := rest }).makePass e = t) :
    exec .passWrite s = .next (t.evalAdmission.endGrant 2) := by
  have he : exec .passWrite s = .next s.grantPass := rfl
  rw [he, State.grantPass, h]
  exact congrArg Host.Outcome.next (State.feedGrant_given hr ha h hf)

theorem exec_unexpectedPassWrite {o : Option Entry} (h : s.arb.feedWrites = .unexpected o :: rest)
    (hf : (s.setArb { s.arb with feedWrites := rest }).makeUnexpected o = t) :
    exec .unexpectedPassWrite s = .next (t.evalAdmission.endGrant 2) := by
  have he : exec .unexpectedPassWrite s = .next s.grantUnexpected := rfl
  rw [he, State.grantUnexpected, h]
  exact congrArg Host.Outcome.next (State.feedGrant_given hr ha h hf)

theorem exec_returnWrite (h : s.arb.feedWrites = .giveBack e :: rest)
    (hf : (s.setArb { s.arb with feedWrites := rest }).makeReturn e = t) :
    exec .returnWrite s = .next (t.evalAdmission.endGrant 2) := by
  have he : exec .returnWrite s = .next s.grantReturn := rfl
  rw [he, State.grantReturn, h]
  exact congrArg Host.Outcome.next (State.feedGrant_given hr ha h hf)

theorem exec_retirementWrite (h : s.arb.feedWrites = .retirement e :: rest)
    (hf : (s.setArb { s.arb with feedWrites := rest }).makeRetirement e = t) :
    exec .retirementWrite s = .next (t.evalAdmission.endGrant 2) := by
  have he : exec .retirementWrite s = .next s.grantRetirement := rfl
  rw [he, State.grantRetirement, h]
  exact congrArg Host.Outcome.next (State.feedGrant_given hr ha h hf)

theorem exec_shredUnconfirmedWrite (h : s.arb.feedWrites = .unconfirmed e :: rest)
    (hf : (s.setArb { s.arb with feedWrites := rest }).makeUnconfirmed e = t) :
    exec .shredUnconfirmedWrite s = .next (t.evalAdmission.endGrant 2) := by
  have he : exec .shredUnconfirmedWrite s = .next s.grantUnconfirmed := rfl
  rw [he, State.grantUnconfirmed, h]
  exact congrArg Host.Outcome.next (State.feedGrant_given hr ha h hf)

end FeedGrant

/-! ### A write that finds its record, and one that does not -/

/-- The admission write made: the gate opens for the head of the queue (R140). -/
theorem State.makeAdmission_made (h : s.expect e .queued = some r) (hq : s.feed.queue.head? = some e) (ha : s.admits = true) :
    s.makeAdmission e = (s.setRecord e.slot (some { r with stage := .atGate, flags := { r.flags with gateReturned := false } })).setFeed
      { s.feed with
        admissionWaiting := false, gate := some e, gateOpen := true
        gateTimer := some { elapsed := 0, duration := s.settings.timing.gateSec * 100 }
        memory := if s.feed.memory.map (fun m => (m.slot, m.tag)) = some (e.slot, e.tag) then none else s.feed.memory } := by
  have hx : (s.setFeed { s.feed with admissionWaiting := false }).expect e .queued = some r := h
  have hg : (s.setFeed { s.feed with admissionWaiting := false }).admits = true
      ∧ (s.setFeed { s.feed with admissionWaiting := false }).feed.queue.head? = some e := ⟨ha, hq⟩
  simp only [State.makeAdmission, hx, if_pos hg, State.forget_eq]
  rfl

/-- The admission write not made: the wait ends, and admission is evaluated again (R140). -/
theorem State.makeAdmission_unmade (h : s.expect e .queued = none ∨ s.feed.queue.head? ≠ some e ∨ s.admits = false) :
    s.makeAdmission e = (s.setFeed { s.feed with admissionWaiting := false }).evalAdmission := by
  have hx : (s.setFeed { s.feed with admissionWaiting := false }).expect e .queued = s.expect e .queued := rfl
  simp only [State.makeAdmission, hx]
  cases hr : s.expect e .queued with
  | none => rfl
  | some r =>
    refine if_neg fun hg => ?_
    have ha : s.admits = true := hg.1
    rcases h with h | h | h
    · rw [hr] at h; cases h
    · exact h hg.2
    · rw [h] at ha; cases ha

theorem State.makePass_made (h : s.expect e .atGate = some r) :
    s.makePass e = (s.setFeed { s.feed with passPending := false }).enterPath e r false := by
  have hx : (s.setFeed { s.feed with passPending := false }).expect e .atGate = some r := h
  simp only [State.makePass, hx]

theorem State.makePass_unmade (h : s.expect e .atGate = none) : s.makePass e = s.setFeed { s.feed with passPending := false } := by
  have hx : (s.setFeed { s.feed with passPending := false }).expect e .atGate = none := h
  simp only [State.makePass, hx]

theorem State.makeUnexpected_made (h : s.expect e .queued = some r) :
    s.makeUnexpected (some e) = (s.enterPath e r true).raiseFeed := by simp only [State.makeUnexpected, h]

theorem State.makeUnexpected_unmade {o : Option Entry} (h : ∀ e, o = some e → s.expect e .queued = none) :
    s.makeUnexpected o = s := by
  cases o with
  | none => rfl
  | some e => simp only [State.makeUnexpected, h e rfl]

theorem State.makeReturn_made (h : s.expect e .atGate = some r) :
    s.makeReturn e = s.setRecord e.slot (some { r.returned with stage := .queued }) := by simp only [State.makeReturn, h]

theorem State.makeReturn_unmade (h : s.expect e .atGate = none) : s.makeReturn e = s := by simp only [State.makeReturn, h]

theorem State.makeRetirement_made (h : s.expect e .inShredder = some r) :
    s.makeRetirement e = ((s.freeSlot e.slot r).countShredded).setFeed (s.feed.leavePath e) := by
  simp only [State.makeRetirement, h]

theorem State.makeRetirement_unmade (h : s.expect e .inShredder = none) : s.makeRetirement e = s := by
  simp only [State.makeRetirement, h]

theorem State.makeUnconfirmed_made (h : s.expect e .inShredder = some r) : s.makeUnconfirmed e =
    ((s.setRecord e.slot (some { r with stage := .shredUnconfirmed })).setFeed (s.feed.unconfirmPath e.slot)).raiseFeed := by
  simp only [State.makeUnconfirmed, h]

theorem State.makeUnconfirmed_unmade (h : s.expect e .inShredder = none) : s.makeUnconfirmed e = s := by
  simp only [State.makeUnconfirmed, h]

/-- Settles O49: each write at its grant, made or not by what its slot holds. -/
theorem feedWritesAreMadeAtTheirGrants : Obligations.FeedWritesAreMadeAtTheirGrants := by
  intro s w rest hr ha hw
  have hsome : ∀ {e : Entry} {g : Stage} {r : Rec}, (s.record e.slot = some r ∧ r.tag = e.tag ∧ r.stage = g) →
      (s.setArb { s.arb with feedWrites := rest }).expect e g = some r := fun h => State.expect_some h
  have hnone : ∀ {e : Entry} {g : Stage}, (∀ r, ¬ (s.record e.slot = some r ∧ r.tag = e.tag ∧ r.stage = g)) →
      (s.setArb { s.arb with feedWrites := rest }).expect e g = none := fun h => State.expect_none h
  refine ⟨fun e h => ⟨fun r hx hq hadm => ?_, fun hn => ?_⟩, fun e h => ⟨fun r hx => ?_, fun hn => ?_⟩,
    fun o h => ⟨fun e r ho hx => ?_, fun hn => ?_⟩, fun e h => ⟨fun r hx => ?_, fun hn => ?_⟩,
    fun e h => ⟨fun r hx => ?_, fun hn => ?_⟩, fun e h => ⟨fun r hx => ?_, fun hn => ?_⟩⟩ <;> subst h
  · exact exec_admissionWrite hr ha hw (congrArg State.evalAdmission (State.makeAdmission_made (hsome hx) hq hadm))
  · refine exec_admissionWrite hr ha hw ?_
    rw [State.makeAdmission_unmade (hn.imp hnone id), State.evalAdmission_twice]
    rfl
  · exact exec_passWrite hr ha hw (State.makePass_made (hsome hx))
  · exact exec_passWrite hr ha hw (State.makePass_unmade (hnone hn))
  · subst ho
    exact exec_unexpectedPassWrite hr ha hw (State.makeUnexpected_made (hsome hx))
  · exact exec_unexpectedPassWrite hr ha hw (State.makeUnexpected_unmade fun e he => hnone (hn e he))
  · exact exec_returnWrite hr ha hw (State.makeReturn_made (hsome hx))
  · exact exec_returnWrite hr ha hw (State.makeReturn_unmade (hnone hn))
  · exact exec_retirementWrite hr ha hw (State.makeRetirement_made (hsome hx))
  · exact exec_retirementWrite hr ha hw (State.makeRetirement_unmade (hnone hn))
  · exact exec_shredUnconfirmedWrite hr ha hw (State.makeUnconfirmed_made (hsome hx))
  · exact exec_shredUnconfirmedWrite hr ha hw (State.makeUnconfirmed_unmade (hnone hn))

end Sys2Proof.Machine
end

section
/-!
PROOFS. The analysers (R117 to R119, R122, R124): what a recomputation of the effective oxygen leaves.
-/

namespace Sys2Proof.Machine

variable {s t : State} {w v : Analyser} {r : Bool} {e : Nat}

/-! ### The effective oxygen (Table 6-3) -/

/-- EFF and the condition that a chamber's analysers give (Table 6-3). -/
def Chamber.oxygen (x : Chamber) (tolerance : Nat) : Option Nat × Condition := effective x.a x.b tolerance

theorem Chamber.oxygen_none {x : Chamber} (n : Nat) (hv : v ≠ w) (h : (x.analyser w).fresh = false)
    (ho : (x.analyser v).fresh = false) : x.oxygen n = (none, .noReading) := by
  cases w <;> cases v <;> simp_all [Chamber.oxygen, Chamber.analyser, effective]

theorem Chamber.oxygen_single {x : Chamber} (n : Nat) (hv : v ≠ w) (h : (x.analyser w).fresh = false)
    (ho : (x.analyser v).fresh = true) (he : (x.analyser v).value = some e) : x.oxygen n = (some e, .single v) := by
  cases w <;> cases v <;> simp_all [Chamber.oxygen, Chamber.analyser, effective]

theorem Chamber.oxygen_both {x : Chamber} {y : Nat} (n : Nat) (hv : v ≠ w) (h : (x.analyser w).fresh = true)
    (hy : (x.analyser w).value = some y) (ho : (x.analyser v).fresh = true) (he : (x.analyser v).value = some e) :
    x.oxygen n = (some (max y e), if max y e - min y e ≤ n then .agreed else .disagree) := by
  cases w <;> cases v
  · exact absurd rfl hv
  · simp_all [Chamber.oxygen, Chamber.analyser, effective]
  · simp only [Chamber.analyser] at h hy ho he
    simp only [Chamber.oxygen, effective, h, hy, ho, he, Nat.max_comm, Nat.min_comm]
  · exact absurd rfl hv

/-- A stale analyser leaves the condition short of AGREED (Table 6-3). -/
theorem Chamber.oxygen_stale {x : Chamber} (n : Nat) (h : (x.analyser w).fresh = false) : (x.oxygen n).2 ≠ .agreed := by
  unfold Chamber.oxygen effective
  cases w <;> rw [Chamber.analyser] at h <;> rw [h] <;> split <;> simp_all

/-! ### The recomputation -/

/-- The chamber under a new effective oxygen, before the HOLD entry rule (R119, R122, R124). -/
def Chamber.reread (x : Chamber) (k : ChamberCfg) (r : Bool) : Chamber :=
  let y := { x with eff := (x.oxygen k.tolerance).1, condition := (x.oxygen k.tolerance).2 }.confirmRule k.admitLevel
  if r then y.countExcess k.admitLevel else y

/-- The chamber after the HOLD entry rule, before its outputs (R124). -/
def Chamber.settle (y : Chamber) (n : Nat) : Chamber :=
  if y.mustHold then { { y with excess := 0 }.startConfirm n with state := .hold } else y

/-- The chamber after a recomputation (R119). -/
theorem State.recompute_chamber (s : State) (r : Bool) : (s.recompute r).chamber =
    ((s.chamber.reread s.settings.chamber r).settle s.settings.chamber.admitLevel).drive s.settings.chamber.abort
      s.lines.plantPermit := by
  have hmain : ∀ (y : Chamber) (q : State), q.chamber = y → q.settings = s.settings → q.lines = s.lines →
      (if y.mustHold = true then (q.setChamber ({ y with excess := 0 }.startConfirm s.settings.chamber.admitLevel)).enterChamber .hold
        else q.driveChamber).chamber
      = (y.settle s.settings.chamber.admitLevel).drive s.settings.chamber.abort s.lines.plantPermit := by
    intro y q hy hs hl
    unfold Chamber.settle
    by_cases h : y.mustHold = true
    · have hne : y.state ≠ .hold := by rcases Chamber.mustHold_state h with h | h <;> rw [h] <;> decide
      rw [if_pos h, if_pos h, State.enterChamber_chamber _ _ (by exact hne), State.setChamber_settings, State.setChamber_lines, hs, hl]
      rfl
    · rw [if_neg h, if_neg h, State.driveChamber, State.setChamber_chamber, hy, hs, hl]
  refine hmain (s.chamber.reread s.settings.chamber r)
    (if s.chamber.condition = (s.chamber.oxygen s.settings.chamber.tolerance).2
      then s.setChamber (s.chamber.reread s.settings.chamber r)
      else (s.setChamber (s.chamber.reread s.settings.chamber r)).raiseChamber) ?_ ?_ ?_ <;> split <;> simp

@[simp] theorem Chamber.settle_eff (y : Chamber) (n : Nat) : (y.settle n).eff = y.eff := by unfold Chamber.settle; split <;> rfl

@[simp] theorem Chamber.settle_condition (y : Chamber) (n : Nat) : (y.settle n).condition = y.condition := by
  unfold Chamber.settle; split <;> rfl

@[simp] theorem Chamber.settle_analyser (y : Chamber) (n : Nat) : (y.settle n).analyser w = y.analyser w := by
  unfold Chamber.settle; split <;> cases w <;> rfl

/-- Only the confirm timer and the excess count move beside EFF and the condition (R122, R124). -/
theorem Chamber.reread_frame (x : Chamber) (k : ChamberCfg) (r : Bool) : ∃ n m, x.reread k r =
    { x with eff := (x.oxygen k.tolerance).1, condition := (x.oxygen k.tolerance).2, confirm := n, excess := m } := by
  unfold Chamber.reread Chamber.confirmRule Chamber.countExcess
  dsimp only
  repeat' split
  all_goals exact ⟨_, _, rfl⟩

theorem State.recompute_eff (s : State) (r : Bool) :
    (s.recompute r).chamber.eff = (s.chamber.oxygen s.settings.chamber.tolerance).1 := by
  obtain ⟨n, m, h⟩ := s.chamber.reread_frame s.settings.chamber r
  rw [State.recompute_chamber, Chamber.drive, Chamber.settle_eff, h]

theorem State.recompute_condition (s : State) (r : Bool) :
    (s.recompute r).chamber.condition = (s.chamber.oxygen s.settings.chamber.tolerance).2 := by
  obtain ⟨n, m, h⟩ := s.chamber.reread_frame s.settings.chamber r
  rw [State.recompute_chamber, Chamber.drive, Chamber.settle_condition, h]

theorem State.recompute_analyser (s : State) (r : Bool) (w : Analyser) :
    (s.recompute r).chamber.analyser w = s.chamber.analyser w := by
  obtain ⟨n, m, h⟩ := s.chamber.reread_frame s.settings.chamber r
  have hd : ∀ (y : Chamber) (n : Nat) (b : Bool), (y.drive n b).analyser w = y.analyser w := fun y n b => by cases w <;> rfl
  rw [State.recompute_chamber, hd, Chamber.settle_analyser, h]
  cases w <;> rfl

/-- A chamber outside INERT and SHREDDING stays in its state through a recomputation (R124). -/
theorem State.recompute_state_outside (h : ¬ (s.chamber.state = .inert ∨ s.chamber.state = .shredding)) :
    (s.recompute r).chamber.state = s.chamber.state := by
  obtain ⟨n, m, hx⟩ := s.chamber.reread_frame s.settings.chamber r
  rw [State.recompute_chamber, Chamber.settle, if_neg fun hm => h (by have := Chamber.mustHold_state hm; rwa [hx] at this), hx]
  rfl

/-- The states in which R122 keeps the confirm timer. -/
def Chamber.timed (x : Chamber) : Prop := x.state = .purging ∨ x.state = .hold

/-- The states that R124 leaves for HOLD. -/
def Chamber.inerted (x : Chamber) : Prop := x.state = .inert ∨ x.state = .shredding

theorem Chamber.timed_not_inerted {x : Chamber} (h : x.timed) : ¬ x.inerted := by
  rcases h with h | h <;> simp [Chamber.inerted, h]

/-- The confirm condition on a chamber's effective oxygen (R122). -/
theorem Chamber.confirmHolds_oxygen {y x : Chamber} {n : Nat} (hc : y.condition = (x.oxygen n).2) (he : y.eff = (x.oxygen n).1)
    (l : Nat) : y.confirmHolds l = (decide ((x.oxygen n).2 = .agreed) && (x.oxygen n).1.any (fun e => decide (e ≤ l))) := by
  rw [Chamber.confirmHolds_eq, hc, he]

theorem Chamber.reread_confirm (x : Chamber) (k : ChamberCfg) (r : Bool) : (x.timed → (x.reread k r).confirm =
      if (decide ((x.oxygen k.tolerance).2 = .agreed) && (x.oxygen k.tolerance).1.any (fun e => decide (e ≤ k.admitLevel)))
        then some (x.confirm.getD 0) else none)
    ∧ (¬ x.timed → (x.reread k r).confirm = x.confirm) := by
  have hx : (x.reread k r).confirm = ({ x with eff := (x.oxygen k.tolerance).1, condition := (x.oxygen k.tolerance).2 }.confirmRule
      k.admitLevel).confirm := by
    unfold Chamber.reread Chamber.countExcess
    dsimp only
    repeat' split
    all_goals rfl
  refine ⟨fun h => ?_, fun h => ?_⟩
  · rw [hx, Chamber.confirmRule, if_pos (by exact h), Chamber.confirmHolds_oxygen rfl rfl]
  · rw [hx, Chamber.confirmRule, if_neg (by exact h)]

/-- An effective reading with condition AGREED counts the excess in INERT and SHREDDING (R124). -/
theorem Chamber.reread_excess {x : Chamber} {k : ChamberCfg} (h : x.inerted) (ho : x.oxygen k.tolerance = (some e, .agreed)) :
    (x.reread k true).excess = if k.admitLevel < e then min 3 (x.excess + 1) else 0 := by
  have hr : { x with eff := (x.oxygen k.tolerance).1, condition := (x.oxygen k.tolerance).2 }.confirmRule k.admitLevel
      = { x with eff := some e, condition := .agreed } := by
    rw [ho, Chamber.confirmRule, if_neg]
    exact fun ht => Chamber.timed_not_inerted (x := x) ht h
  unfold Chamber.reread
  simp only [if_pos, hr]
  rw [Chamber.countExcess, if_pos ⟨by exact h, rfl⟩]

theorem Chamber.settle_held {y : Chamber} {n : Nat} (h : y.mustHold = true) (hc : y.confirmHolds n = false) :
    (y.settle n).state = .hold ∧ (y.settle n).confirm = none := by
  rw [Chamber.settle, if_pos h]
  refine ⟨rfl, ?_⟩
  have hs : ({ y with excess := 0 } : Chamber).confirmHolds n = false := hc
  simp only [Chamber.startConfirm, hs]
  rfl

theorem Chamber.settle_stays {y : Chamber} {n : Nat} (h : ¬ y.mustHold = true) : y.settle n = y := if_neg h

theorem Chamber.mustHold_iff (y : Chamber) : y.mustHold = true ↔ y.inerted ∧ (y.condition ≠ .agreed ∨ 3 ≤ y.excess) := by
  simp [Chamber.mustHold, Chamber.inerted]

/-- A condition that is not AGREED ends INERT and SHREDDING and stops the confirm timer (R122, R124). -/
theorem State.recompute_unagreed (r : Bool) (h : (s.chamber.oxygen s.settings.chamber.tolerance).2 ≠ .agreed) :
    (s.chamber.inerted → (s.recompute r).chamber.state = .hold)
    ∧ (s.chamber.timed ∨ s.chamber.inerted → (s.recompute r).chamber.confirm = none)
    ∧ (¬ (s.chamber.timed ∨ s.chamber.inerted) → (s.recompute r).chamber.confirm = s.chamber.confirm) := by
  obtain ⟨n, m, hy⟩ := s.chamber.reread_frame s.settings.chamber r
  have hc := (s.chamber.reread_confirm s.settings.chamber r)
  have hh := Chamber.confirmHolds_oxygen (y := s.chamber.reread s.settings.chamber r) (x := s.chamber)
    (n := s.settings.chamber.tolerance) (by rw [hy]) (by rw [hy]) s.settings.chamber.admitLevel
  rw [decide_eq_false h, Bool.false_and] at hc hh
  have hm : (s.chamber.reread s.settings.chamber r).mustHold = true ↔ s.chamber.inerted := by
    rw [Chamber.mustHold_iff, hy]
    exact ⟨fun k => k.1, fun k => ⟨k, .inl h⟩⟩
  simp only [State.recompute_chamber, Chamber.drive]
  refine ⟨fun hi => (Chamber.settle_held (hm.mpr hi) hh).1, fun hi => ?_, fun hn => ?_⟩
  · by_cases hi' : s.chamber.inerted
    · exact (Chamber.settle_held (hm.mpr hi') hh).2
    · rw [Chamber.settle_stays (fun k => hi' (hm.mp k)), hc.1 (hi.resolve_right hi')]
      rfl
  · rw [Chamber.settle_stays (fun k => hn (.inr (hm.mp k))), hc.2 (fun k => hn (.inl k))]

/-- An effective reading with condition AGREED (R122, R124). -/
theorem State.recompute_agreed (ho : s.chamber.oxygen s.settings.chamber.tolerance = (some e, .agreed)) :
    let excess := if s.settings.chamber.admitLevel < e then s.chamber.excess + 1 else 0
    (s.chamber.inerted → 3 ≤ excess → (s.recompute true).chamber.state = .hold ∧ (s.recompute true).chamber.confirm = none)
    ∧ (s.chamber.inerted → excess < 3 → (s.recompute true).chamber.state = s.chamber.state
        ∧ (s.recompute true).chamber.excess = excess ∧ (s.recompute true).chamber.confirm = s.chamber.confirm)
    ∧ (s.chamber.timed → e ≤ s.settings.chamber.admitLevel →
        (s.recompute true).chamber.confirm = some (s.chamber.confirm.getD 0))
    ∧ (s.chamber.timed → s.settings.chamber.admitLevel < e → (s.recompute true).chamber.confirm = none)
    ∧ (¬ s.chamber.timed → ¬ s.chamber.inerted → (s.recompute true).chamber.confirm = s.chamber.confirm) := by
  intro excess
  obtain ⟨n, m, hy⟩ := s.chamber.reread_frame s.settings.chamber true
  have hc := (s.chamber.reread_confirm s.settings.chamber true)
  have hh := Chamber.confirmHolds_oxygen (y := s.chamber.reread s.settings.chamber true) (x := s.chamber)
    (n := s.settings.chamber.tolerance) (by rw [hy]) (by rw [hy]) s.settings.chamber.admitLevel
  rw [ho] at hc hh
  simp only [decide_true, Bool.true_and, Option.any_some, decide_eq_true_eq] at hc hh
  have hst : (s.chamber.reread s.settings.chamber true).state = s.chamber.state := by rw [hy]
  have hm : (s.chamber.reread s.settings.chamber true).mustHold = true
      ↔ s.chamber.inerted ∧ 3 ≤ (s.chamber.reread s.settings.chamber true).excess := by
    rw [Chamber.mustHold_iff, Chamber.inerted, hst]
    have hcond : (s.chamber.reread s.settings.chamber true).condition = .agreed := by rw [hy]; exact congrArg Prod.snd ho
    rw [hcond]
    exact and_congr_right fun _ => by simp
  have hex : s.chamber.inerted → (s.chamber.reread s.settings.chamber true).excess = min 3 excess := fun hi => by
    rw [Chamber.reread_excess hi ho]
    simp only [excess]
    split <;> omega
  simp only [State.recompute_chamber, Chamber.drive]
  refine ⟨fun hi h3 => ?_, fun hi h3 => ?_, fun ht hl => ?_, fun ht hl => ?_, fun ht hi => ?_⟩
  · have hl : s.settings.chamber.admitLevel < e := by
      refine Classical.byContradiction fun hl => ?_
      simp only [excess, if_neg hl] at h3
      omega
    exact Chamber.settle_held (hm.mpr ⟨hi, by rw [hex hi]; omega⟩) (by rw [hh]; simpa using hl)
  · rw [Chamber.settle_stays (fun k => by have := (hm.mp k).2; rw [hex hi] at this; omega), hst, hex hi,
      hc.2 (fun ht => Chamber.timed_not_inerted ht hi)]
    exact ⟨rfl, by omega, rfl⟩
  · rw [Chamber.settle_stays (fun k => Chamber.timed_not_inerted ht (hm.mp k).1), hc.1 ht, if_pos hl]
  · rw [Chamber.settle_stays (fun k => Chamber.timed_not_inerted ht (hm.mp k).1), hc.1 ht, if_neg (by omega)]
  · rw [Chamber.settle_stays (fun k => hi (hm.mp k).1), hc.2 ht]

/-! ### An analyser replaced -/

section SetAnalyser

variable (x : Chamber) (w : Analyser) (y : AnalyserState)

@[simp] theorem Chamber.setAnalyser_analyser_same : (x.setAnalyser w y).analyser w = y := by cases w <;> rfl

theorem Chamber.setAnalyser_analyser_other (h : v ≠ w) : (x.setAnalyser w y).analyser v = x.analyser v := by
  cases w <;> cases v
  · exact absurd rfl h
  · rfl
  · rfl
  · exact absurd rfl h

@[simp] theorem Chamber.setAnalyser_state : (x.setAnalyser w y).state = x.state := by cases w <;> rfl

@[simp] theorem Chamber.setAnalyser_confirm : (x.setAnalyser w y).confirm = x.confirm := by cases w <;> rfl

@[simp] theorem Chamber.setAnalyser_excess : (x.setAnalyser w y).excess = x.excess := by cases w <;> rfl

theorem Chamber.setAnalyser_inerted : (x.setAnalyser w y).inerted ↔ x.inerted := by simp [Chamber.inerted]

theorem Chamber.setAnalyser_timed : (x.setAnalyser w y).timed ↔ x.timed := by simp [Chamber.timed]

end SetAnalyser

/-- The state after an analyser took a new reading or went stale (R117, R118, R119). -/
def State.reads (s : State) (w : Analyser) (y : AnalyserState) (r : Bool) : State :=
  (s.setChamber (s.chamber.setAnalyser w y)).recompute r

/-- Nothing but the chamber follows its analysers, and the other analyser stays (R117, R124). -/
theorem State.reads_keeps (hv : v ≠ w) (y : AnalyserState) (r : Bool) :
    (s.reads w y r).slots = s.slots ∧ (s.reads w y r).tallies = s.tallies ∧ (s.reads w y r).bays = s.bays
      ∧ (s.reads w y r).settings = s.settings ∧ (s.reads w y r).chamber.analyser v = s.chamber.analyser v
      ∧ (¬ (s.chamber.state = .inert ∨ s.chamber.state = .shredding) → (s.reads w y r).chamber.state = s.chamber.state) := by
  refine ⟨by simp [State.reads], by simp [State.reads], by simp [State.reads], by simp [State.reads], ?_, fun h => ?_⟩
  · rw [State.reads, State.recompute_analyser, State.setChamber_chamber, Chamber.setAnalyser_analyser_other _ _ _ hv]
  · rw [State.reads, State.recompute_state_outside (by simpa using h), State.setChamber_chamber, Chamber.setAnalyser_state]

theorem State.reads_analyser (y : AnalyserState) (r : Bool) : (s.reads w y r).chamber.analyser w = y := by
  rw [State.reads, State.recompute_analyser, State.setChamber_chamber, Chamber.setAnalyser_analyser_same]

theorem State.reads_oxygen (y : AnalyserState) (r : Bool) {o : Option Nat × Condition}
    (h : (s.chamber.setAnalyser w y).oxygen s.settings.chamber.tolerance = o) :
    (s.reads w y r).chamber.eff = o.1 ∧ (s.reads w y r).chamber.condition = o.2 := by
  rw [State.reads, State.recompute_eff, State.recompute_condition]
  exact ⟨congrArg Prod.fst h, congrArg Prod.snd h⟩

/-- A reading that leaves the condition short of AGREED (R122, R124). -/
theorem State.reads_unagreed {y : AnalyserState} (r : Bool)
    (h : ((s.chamber.setAnalyser w y).oxygen s.settings.chamber.tolerance).2 ≠ .agreed) :
    (s.chamber.inerted → (s.reads w y r).chamber.state = .hold)
    ∧ (s.chamber.timed ∨ s.chamber.inerted → (s.reads w y r).chamber.confirm = none)
    ∧ (¬ (s.chamber.timed ∨ s.chamber.inerted) → (s.reads w y r).chamber.confirm = s.chamber.confirm) := by
  have hu := State.recompute_unagreed (s := s.setChamber (s.chamber.setAnalyser w y)) r h
  rw [State.setChamber_chamber, Chamber.setAnalyser_inerted, Chamber.setAnalyser_timed, Chamber.setAnalyser_confirm] at hu
  exact hu

theorem State.reads_confirm {y : AnalyserState} (r : Bool)
    (h : ((s.chamber.setAnalyser w y).oxygen s.settings.chamber.tolerance).2 ≠ .agreed) : (s.reads w y r).chamber.confirm =
      if (s.chamber.state = .purging ∨ s.chamber.state = .hold) ∨ (s.chamber.state = .inert ∨ s.chamber.state = .shredding)
        then none else s.chamber.confirm := by
  split
  · next k => exact (State.reads_unagreed r h).2.1 k
  · next k => exact (State.reads_unagreed r h).2.2 k

/-- An analyser that goes stale (R117, R118). -/
theorem State.reads_stale (hv : v ≠ w) {y : AnalyserState} (hy : y.fresh = false) :
    ((s.chamber.analyser v).fresh = false →
        (s.reads w y false).chamber.eff = none ∧ (s.reads w y false).chamber.condition = .noReading)
    ∧ (∀ e, (s.chamber.analyser v).fresh = true → (s.chamber.analyser v).value = some e →
        (s.reads w y false).chamber.eff = some e ∧ (s.reads w y false).chamber.condition = .single v) := by
  have hw : ((s.chamber.setAnalyser w y).analyser w).fresh = false := by simpa using hy
  have ho := Chamber.setAnalyser_analyser_other s.chamber w y hv
  exact ⟨fun h => State.reads_oxygen y false (Chamber.oxygen_none _ hv hw (by rw [ho]; exact h)),
    fun e h he => State.reads_oxygen y false (Chamber.oxygen_single _ hv hw (by rw [ho]; exact h) (by rw [ho]; exact he))⟩

/-- An analyser renewed beside a stale one (R117, Table 6-3). -/
theorem State.reads_lone (hv : v ≠ w) {n : Nat} (ho : (s.chamber.analyser v).fresh = false) :
    let t := s.reads w { value := some n, fresh := true, age := 0 } true
    t.chamber.eff = some n ∧ t.chamber.condition = .single w
      ∧ (s.chamber.state = .inert ∨ s.chamber.state = .shredding → t.chamber.state = .hold)
      ∧ t.chamber.confirm = if (s.chamber.state = .purging ∨ s.chamber.state = .hold)
          ∨ (s.chamber.state = .inert ∨ s.chamber.state = .shredding) then none else s.chamber.confirm := by
  have hox : (s.chamber.setAnalyser w { value := some n, fresh := true, age := 0 }).oxygen s.settings.chamber.tolerance
      = (some n, .single w) :=
    Chamber.oxygen_single _ hv.symm (by rw [Chamber.setAnalyser_analyser_other _ _ _ hv]; exact ho) (by simp) (by simp)
  have hn : ((s.chamber.setAnalyser w { value := some n, fresh := true, age := 0 }).oxygen s.settings.chamber.tolerance).2
      ≠ .agreed := by rw [hox]; simp
  exact ⟨(State.reads_oxygen _ _ hox).1, (State.reads_oxygen _ _ hox).2, (State.reads_unagreed true hn).1,
    State.reads_confirm true hn⟩

/-- An analyser renewed beside a fresh one (R117, R122, R124, Table 6-3). -/
theorem State.reads_pair (hv : v ≠ w) {n y : Nat} (ho : (s.chamber.analyser v).fresh = true)
    (hy : (s.chamber.analyser v).value = some y) :
    let t := s.reads w { value := some n, fresh := true, age := 0 } true
    let agree := max n y - min n y ≤ s.settings.chamber.tolerance
    let excess := if s.settings.chamber.admitLevel < max n y then s.chamber.excess + 1 else 0
    t.chamber.eff = some (max n y) ∧ (agree → t.chamber.condition = .agreed) ∧ (¬ agree → t.chamber.condition = .disagree)
      ∧ (s.chamber.inerted → ¬ agree → t.chamber.state = .hold)
      ∧ (s.chamber.inerted → agree → 3 ≤ excess → t.chamber.state = .hold)
      ∧ (s.chamber.inerted → agree → excess < 3 →
          t.chamber.state = s.chamber.state ∧ t.chamber.excess = excess ∧ t.chamber.confirm = s.chamber.confirm)
      ∧ (s.chamber.inerted → (¬ agree ∨ 3 ≤ excess) → t.chamber.confirm = none)
      ∧ (s.chamber.timed → agree → max n y ≤ s.settings.chamber.admitLevel →
          t.chamber.confirm = some (s.chamber.confirm.getD 0))
      ∧ (s.chamber.timed → (¬ agree ∨ s.settings.chamber.admitLevel < max n y) → t.chamber.confirm = none)
      ∧ (¬ s.chamber.timed → ¬ s.chamber.inerted → t.chamber.confirm = s.chamber.confirm) := by
  intro t agree excess
  have hox : (s.chamber.setAnalyser w { value := some n, fresh := true, age := 0 }).oxygen s.settings.chamber.tolerance
      = (some (max n y), if agree then .agreed else .disagree) :=
    Chamber.oxygen_both _ hv (by simp) (by simp) (by rw [Chamber.setAnalyser_analyser_other _ _ _ hv]; exact ho)
      (by rw [Chamber.setAnalyser_analyser_other _ _ _ hv]; exact hy)
  obtain ⟨heff, hcond⟩ := State.reads_oxygen (s := s) _ true hox
  by_cases ha : agree
  · rw [if_pos ha] at hox hcond
    have hag := State.recompute_agreed
      (s := s.setChamber (s.chamber.setAnalyser w { value := some n, fresh := true, age := 0 })) hox
    simp only [State.setChamber_chamber, State.setChamber_settings, Chamber.setAnalyser_inerted, Chamber.setAnalyser_timed,
      Chamber.setAnalyser_confirm, Chamber.setAnalyser_excess, Chamber.setAnalyser_state] at hag
    obtain ⟨hhold, hstay, hstart, hstop, hleft⟩ := hag
    exact ⟨heff, fun _ => hcond, fun hn => absurd ha hn, fun _ hn => absurd ha hn, fun hi _ h3 => (hhold hi h3).1,
      fun hi _ h3 => hstay hi h3, fun hi h => (hhold hi (h.resolve_left (not_not_intro ha))).2, fun ht _ hl => hstart ht hl,
      fun ht h => hstop ht (h.resolve_left (not_not_intro ha)), hleft⟩
  · rw [if_neg ha] at hox hcond
    obtain ⟨hhold, hstop, hleft⟩ := State.reads_unagreed (s := s) (w := w)
      (y := { value := some n, fresh := true, age := 0 }) true (by rw [hox]; simp)
    exact ⟨heff, fun h => absurd h ha, fun _ => hcond, fun hi _ => hhold hi, fun _ h => absurd h ha, fun _ h => absurd h ha,
      fun hi _ => hstop (.inr hi), fun _ h => absurd h ha, fun ht _ => hstop (.inl ht),
      fun ht hi => hleft (fun h => h.elim ht hi)⟩

/-! ### Frames on the sensor link -/

/-- An accepted sensor frame in a running part (R192). -/
theorem exec_sensorFrame {bytes : List Byte} {x : Reading} (hr : s.running = true) (hx : readSensor (fromSync bytes) = some x) :
    exec (.sensorFrame bytes) s = .next (s.takeReading x) := by
  have he : exec (.sensorFrame bytes) s = .next (s.onSensorLink bytes) := rfl
  rw [he, State.onSensorLink, if_pos hr, hx]

/-- The address of an analyser is used and reaches the Chamber Monitor (R117, R192). -/
theorem State.analyserAddress {x : Reading} (h : x.address.1 = if w = .a then 30 else 31) :
    s.usesAddress x.address = true ∧ s.deliver x = s.analyserReading w x.fault x.value := by
  have hn : ¬ x.address.1 < 28 := by rw [h]; cases w <;> decide
  refine ⟨?_, ?_⟩
  · rw [State.usesAddress, dif_neg hn, h]; cases w <;> rfl
  · rw [State.deliver, dif_neg hn]
    cases w with
    | a => exact if_pos h
    | b =>
      have h' : x.address.1 = 31 := h
      rw [if_neg (by omega), if_pos h']

/-- Settles O51: each frame and lapse as one recomputation. -/
theorem analysersGiveTheEffectiveOxygen : Obligations.AnalysersGiveTheEffectiveOxygen := by
  intro s w v hr hv
  refine ⟨fun bytes x hx ha => ⟨fun h => ?_, fun h => ?_⟩, fun h => ?_, fun h => ?_⟩
  · rw [exec_sensorFrame hr hx, s.takeReading_repeat (State.analyserAddress ha).1 h]
  · rw [exec_sensorFrame hr hx, s.takeReading_new h, (State.analyserAddress ha).2, State.analyserReading]
    by_cases hf : x.fault = true
    · refine ⟨(s.setSensor x.address { toggle := some x.toggle, value := some x.value }).reads w
        { s.chamber.analyser w with fresh := false } false, by rw [if_pos hf]; rfl, by simp [State.reads, State.setSensor],
        fun _ => ?_, fun hn => absurd (hf.symm.trans hn) (by decide)⟩
      have hst := Chamber.oxygen_stale (x := s.chamber.setAnalyser w { s.chamber.analyser w with fresh := false }) (w := w)
        s.settings.chamber.tolerance (by simp)
      have hstale := State.reads_stale (s := s.setSensor x.address { toggle := some x.toggle, value := some x.value })
        (y := { s.chamber.analyser w with fresh := false }) hv rfl
      exact ⟨State.reads_analyser _ _, State.reads_keeps (s := s.setSensor x.address _) hv _ _, hstale.1, hstale.2,
        fun hi _ => (State.reads_unagreed (s := s.setSensor x.address _) false hst).1 hi,
        State.reads_confirm (s := s.setSensor x.address _) false hst⟩
    · refine ⟨(s.setSensor x.address { toggle := some x.toggle, value := some x.value }).reads w
        { value := some (min 2500 x.value.toNat), fresh := true, age := 0 } true, by rw [if_neg hf]; rfl,
        by simp [State.reads, State.setSensor], fun hn => absurd hn hf, fun _ => ?_⟩
      exact ⟨State.reads_analyser _ _, State.reads_keeps (s := s.setSensor x.address _) hv _ _,
        State.reads_lone (s := s.setSensor x.address _) hv,
        fun y ho hy => State.reads_pair (s := s.setSensor x.address _) hv ho hy⟩
  · have he : exec (.analyserFreshnessLapse w) s = .next (s.whenRunning (fun t => t.analyserLapse w)) := rfl
    refine ⟨s.reads w { s.chamber.analyser w with fresh := false, age := 100 } false, ?_, State.reads_analyser _ _,
      State.reads_keeps hv _ _, (State.reads_stale hv rfl).1, (State.reads_stale hv rfl).2, fun hi _ => ?_, ?_⟩
    · rw [he, State.whenRunning_running _ hr, State.analyserLapse, if_pos h]
      rfl
    · exact (State.reads_unagreed false (Chamber.oxygen_stale _ (w := w) (by simp))).1 hi
    · exact State.reads_confirm false (Chamber.oxygen_stale _ (w := w) (by simp))
  · have he : exec (.analyserFreshnessLapse w) s = .next (s.whenRunning (fun t => t.analyserLapse w)) := rfl
    rw [he, State.whenRunning_running _ hr, State.analyserLapse, if_neg (by simp [h])]

end Sys2Proof.Machine
end

section
/-!
PROOFS. The detector channels: their readings and their lapses (R156, R157, R158, R162).
-/

namespace Sys2Proof.Machine

variable {s t : State} {d : DetId} {m : MapEntry} {x : Reading}

/-! ### A detector channel replaced -/

/-- A detector channel takes its new state, and its zone votes when the state changed (R156, R162). -/
theorem State.moveDetector_gives (s : State) (d : DetId) (m : MapEntry) (y : Detector) :
    (s.moveDetector d m y).detector d = y
    ∧ (y.chan.state = (s.detector d).chan.state → s.moveDetector d m y = s.setDetector d y)
    ∧ (y.chan.state ≠ (s.detector d).chan.state → (s.moveDetector d m y).Voted m.zone ∧ (s.moveDetector d m y).slots = s.slots
        ∧ (s.moveDetector d m y).tallies = s.tallies ∧ (s.moveDetector d m y).sensors = s.sensors
        ∧ (∀ e, e ≠ d → (s.moveDetector d m y).detector e = s.detector e)
        ∧ (∀ z, z ≠ m.zone → (s.moveDetector d m y).zone z = s.zone z)) := by
  by_cases h : (s.detector d).chan.state = y.chan.state
  · have hm : s.moveDetector d m y = s.setDetector d y := if_pos h
    exact ⟨by rw [hm]; simp, fun _ => hm, fun hn => absurd h.symm hn⟩
  · have hm : s.moveDetector d m y = ((s.setDetector d y).raiseZone m.zone (detSource d)).vote m.zone := if_neg h
    rw [hm]
    refine ⟨by simp, fun hn => absurd hn.symm h, fun _ => ⟨State.vote_voted _ _, by simp, by simp, by simp, fun e he => ?_, fun z hz => ?_⟩⟩
    · rw [State.vote_detector, State.raiseZone_detector]
      exact (Bank.get_set _ _ _ _).trans (if_neg he)
    · rw [State.vote_zone, if_neg hz]
      simp

/-- The readings of a sensor kind that its channel takes (R157). -/
theorem detValid_iff (k : DetKind) (v : Int) : detValid k v = true ↔ match k with
    | .heat => -40 ≤ v ∧ v ≤ 400
    | .gas => 0 ≤ v ∧ v ≤ 10000 := by
  cases k <;> simp [detValid]

/-! ### Frames from an address of the Fire Zone Monitor -/

theorem State.usesAddress_detector (hd : d.1 = x.address.1) : s.usesAddress x.address = (s.settings.detectors.get d).isSome := by
  have hlt : x.address.1 < 28 := by omega
  obtain rfl : d = ⟨x.address.1, hlt⟩ := Fin.ext hd
  rw [State.usesAddress, dif_pos hlt]

theorem State.deliver_detector (hd : d.1 = x.address.1) : s.deliver x = s.detectorReading d x.fault x.value := by
  have hlt : x.address.1 < 28 := by omega
  obtain rfl : d = ⟨x.address.1, hlt⟩ := Fin.ext hd
  rw [State.deliver, dif_pos hlt]

section Mapped

variable (hm : s.settings.detectors.get d = some m)

include hm

theorem State.detectorReading_fault (v : Int) : s.detectorReading d true v =
    s.moveDetector d m { s.detector d with chan := (s.detector d).chan.fail } := by
  unfold State.detectorReading
  rw [hm]
  rfl

theorem State.detectorReading_invalid {v : Int} (h : detValid m.kind v = false) : s.detectorReading d false v =
    s.moveDetector d m { chan := { (s.detector d).chan.fail with reading := some v }, age := 0 } := by
  unfold State.detectorReading
  rw [hm]
  simp [h]

theorem State.detectorReading_valid {v : Int} (h : detValid m.kind v = true) : s.detectorReading d false v =
    s.moveDetector d m { chan := (s.detector d).chan.take (detLevels m.kind (s.zoneCfg m.zone)) (s.zoneCfg m.zone).w v, age := 0 } := by
  unfold State.detectorReading
  rw [hm]
  simp [h]

theorem State.detectorLapse_eq : s.detectorLapse d = if (s.detector d).age < 100
    then s.moveDetector d m { chan := (s.detector d).chan.fail, age := 100 } else s := by
  unfold State.detectorLapse
  rw [hm]

end Mapped

theorem exec_detectorFreshnessLapse (hr : s.running = true) :
    exec (.detectorFreshnessLapse d) s = .next (s.detectorLapse d) := by
  have he : exec (.detectorFreshnessLapse d) s = .next (s.whenRunning (fun t => t.detectorLapse d)) := rfl
  rw [he, State.whenRunning_running _ hr]

/-- Settles O52: each frame by its address, its FAULT bit and its value, then the vote by `moveDetector_gives`. -/
theorem detectorsFilterTheirReadings : Obligations.DetectorsFilterTheirReadings := by
  intro s bytes x hr hx
  refine ⟨fun ha ht => ?_, fun ha => ?_, fun d hd => ⟨fun hm => ⟨?_, ?_⟩, fun m hm ht => ?_⟩⟩
  · rw [exec_sensorFrame hr hx, s.takeReading_repeat ?_ ht]
    rcases ha with ha | ⟨d, hd, hm⟩
    · rw [State.usesAddress, dif_neg (by omega)]
      exact decide_eq_true ha
    · rw [State.usesAddress_detector hd]
      exact Option.isSome_iff_ne_none.mpr hm
  · rw [exec_sensorFrame hr hx, s.takeReading_unused]
    · rfl
    · rw [State.usesAddress, dif_neg (by omega)]
      exact decide_eq_false (by omega)
  · rw [exec_sensorFrame hr hx, s.takeReading_unused]
    · rfl
    · rw [State.usesAddress_detector hd, hm]
      rfl
  · rw [exec_detectorFreshnessLapse hr, State.detectorLapse, hm]
  · intro k old failed valid warn alarm quiet run alarmRun warnRun quietRun judged gives
    have hlevels : detLevels m.kind (s.zoneCfg m.zone) = ⟨warn, alarm, quiet⟩ := by
      simp only [warn, alarm, quiet]
      cases m.kind <;> rfl
    have hframe : ∀ y, (s.setSensor x.address { toggle := some x.toggle, value := some x.value }).detectorReading d x.fault x.value
        = (s.setSensor x.address { toggle := some x.toggle, value := some x.value }).moveDetector d m y →
        gives (.sensorFrame bytes) { s with sensors := s.sensors.set x.address { toggle := some x.toggle, value := some x.value } } y := by
      intro y hy
      refine ⟨(s.setSensor x.address { toggle := some x.toggle, value := some x.value }).moveDetector d m y, ?_,
        State.moveDetector_gives (s.setSensor x.address _) d m y⟩
      rw [exec_sensorFrame hr hx, s.takeReading_new ht, State.deliver_detector hd, hy]
    have hlapse : ∀ y, s.detectorLapse d = s.moveDetector d m y → gives (.detectorFreshnessLapse d) s y := fun y hy =>
      ⟨s.moveDetector d m y, by rw [exec_detectorFreshnessLapse hr, hy], State.moveDetector_gives s d m y⟩
    have hvalid : detValid m.kind x.value = true ↔ valid := detValid_iff _ _
    have htaken : x.fault = false → valid → ∀ y, old.chan.take ⟨warn, alarm, quiet⟩ k.w x.value = y →
        gives (.sensorFrame bytes) { s with sensors := s.sensors.set x.address { toggle := some x.toggle, value := some x.value } }
          { chan := y, age := 0 } := fun hf hv y hy => by
      refine hframe _ ?_
      rw [hf, State.detectorReading_valid (by exact hm) (hvalid.mpr hv), ← hy, ← hlevels]
      rfl
    refine ⟨fun hf => ?_, fun hf hv => ?_, fun hf hv => ⟨fun hn => ?_, fun hn hg => ?_, fun hn hg => ?_⟩, fun ha => ?_, fun ha => ?_⟩
    · exact hframe _ (by rw [hf]; exact State.detectorReading_fault (by exact hm) _)
    · have hn : detValid m.kind x.value = false := by
        rw [← Bool.not_eq_true, hvalid]
        exact hv
      exact hframe _ (by rw [hf]; exact State.detectorReading_invalid (by exact hm) hn)
    · exact htaken hf hv _ (Chan.take_judged old.chan warn alarm quiet k.w x.value hn)
    · exact htaken hf hv _ ((Chan.take_fault old.chan warn alarm quiet k.w x.value hn).trans (if_pos hg))
    · exact htaken hf hv _ ((Chan.take_fault old.chan warn alarm quiet k.w x.value hn).trans (if_neg (by omega)))
    · exact hlapse _ (by rw [State.detectorLapse_eq hm, if_pos ha]; rfl)
    · rw [exec_detectorFreshnessLapse hr, State.detectorLapse_eq hm, if_neg (Nat.not_lt.mpr ha)]

end Sys2Proof.Machine
end

section
/-!
PROOFS. The flame scan, the entry to ALARM and CLEAR_ALARM (R160, R162, R164, R168, R169).
-/

namespace Sys2Proof.Machine

variable {s t : State} {z y : ZoneId} {b : BayId}

/-! ### A pass over the items of a list -/

/-- A fold over distinct items, seen at one of them: before and after that item's step the other steps keep a relation. -/
theorem foldl_seen {α : Type} {f : State → α → State} {R : State → State → Prop} {a : α} {l : List α} (hl : l.Nodup) (ha : a ∈ l)
    (hrefl : ∀ u, R u u) (htrans : ∀ u v w, R u v → R v w → R u w) (hother : ∀ u x, x ≠ a → R u (f u x)) (s : State) :
    ∃ u, R s u ∧ R (f u a) (l.foldl f s) := by
  have hrest : ∀ (l : List α) (u : State), a ∉ l → R u (l.foldl f u) := by
    intro l
    induction l with
    | nil => exact fun u _ => hrefl u
    | cons x l ih =>
      intro u hx
      rw [List.mem_cons, not_or] at hx
      exact htrans _ _ _ (hother u x (Ne.symm hx.1)) (ih _ hx.2)
  induction l generalizing s with
  | nil => cases ha
  | cons x l ih =>
    obtain ⟨hx, hl⟩ := List.nodup_cons.mp hl
    by_cases hxa : x = a
    · subst hxa
      exact ⟨s, hrefl s, hrest l _ hx⟩
    · obtain ⟨u, hu, hv⟩ := ih hl ((List.mem_cons.mp ha).resolve_left (Ne.symm hxa)) (f s x)
      exact ⟨u, htrans _ _ _ (hother s x hxa) hu, hv⟩

/-! ### What a vote leaves alone -/

theorem State.vote_bay_other (h : bayZone b ≠ z) : (s.vote z).bay b = s.bay b := by
  unfold State.vote; dsimp only
  (repeat' split) <;> simp [(State.enterAlarm_bay _ z b).1 h]

theorem State.enterAlarm_chamber (h : z ≠ 6) : (s.enterAlarm z).chamber = s.chamber := by
  have hc := foldl_frame (fun t => t.chamber) (fun (t : State) (b : BayId) => t.addHold b .zoneAlarm) (fun t b => by simp) (zoneBays z)
  unfold State.enterAlarm; dsimp only
  (repeat' split) <;> simp_all

theorem State.vote_chamber (h : z ≠ 6) : (s.vote z).chamber = s.chamber := by
  unfold State.vote; dsimp only
  (repeat' split) <;> simp [State.enterAlarm_chamber h]

/-- A vote that finds an alarm in a zone not in ALARM enters it (R162, R164). -/
theorem State.vote_enters (hn : alarming (s.channelStates z) = true) (ho : (s.zone z).state ≠ .alarm) :
    ∃ u : State, s.vote z = u.enterAlarm z ∧ (∀ b, u.bay b = s.bay b) ∧ (u.zone z).state = .alarm := by
  have hv : voteOf (s.zone z).state (s.channelStates z) = .alarm := by rw [voteOf, if_neg ho, if_pos hn]
  unfold State.vote
  dsimp only
  rw [if_pos (And.intro hv ho)]
  refine ⟨_, rfl, fun b => ?_, ?_⟩ <;> split <;> simp [hv]

/-! ### The flame scan -/

/-- A scan that leaves the channel's state only keeps the level (R160). -/
theorem State.scanFlame_still {l : Bool} (h : ((s.zone z).flame.scan l).state = (s.zone z).flame.state) :
    s.scanFlame z l = s.setZone z { s.zone z with flame := (s.zone z).flame.scan l } := by
  unfold State.scanFlame State.channelMoved
  exact if_pos h.symm

theorem State.scanFlame_moved {l : Bool} (h : ((s.zone z).flame.scan l).state ≠ (s.zone z).flame.state) : s.scanFlame z l =
    ((s.setZone z { s.zone z with flame := (s.zone z).flame.scan l }).raiseZone z flameSource).vote z := by
  unfold State.scanFlame State.channelMoved
  exact if_neg (Ne.symm h)

theorem State.scanFlame_flame (s : State) (z : ZoneId) (l : Bool) :
    ((s.scanFlame z l).zone z).flame = (s.zone z).flame.scan l := by
  by_cases h : ((s.zone z).flame.scan l).state = (s.zone z).flame.state
  · rw [State.scanFlame_still h]; simp
  · rw [State.scanFlame_moved h, State.vote_zone, if_pos rfl]; simp

/-- What a scan of another line leaves of a zone (R160, R164). -/
def State.sameZone (z : ZoneId) (s t : State) : Prop :=
  t.zone z = s.zone z ∧ (∀ b, bayZone b = z → t.bay b = s.bay b) ∧ (z = 6 → t.chamber = s.chamber)

theorem State.scanFlame_other (s : State) (h : y ≠ z) (l : Bool) : State.sameZone z s (s.scanFlame y l) := by
  by_cases hs : ((s.zone y).flame.scan l).state = (s.zone y).flame.state
  · rw [State.scanFlame_still hs]
    exact ⟨by rw [State.zone_setZone, if_neg h.symm], fun b _ => rfl, fun _ => rfl⟩
  · rw [State.scanFlame_moved hs]
    refine ⟨?_, fun b hb => ?_, fun hz => ?_⟩
    · rw [State.vote_zone, if_neg h.symm, State.raiseZone_zone, State.zone_setZone, if_neg h.symm]
    · rw [State.vote_bay_other (by rw [hb]; exact h.symm)]
      simp
    · rw [State.vote_chamber (by rw [← hz]; exact h)]
      simp

/-- A flame line found asserted twice in a row takes its zone to ALARM (R160, R162, R164). -/
theorem State.scanFlame_alarms (ha : (s.zone z).flame.alarmLevel = false) (hl : (s.zone z).flame.last = some true)
    (hs : (s.zone z).state ≠ .alarm) : ((s.scanFlame z true).zone z).state = .alarm
      ∧ ((s.scanFlame z true).zone z).sweepWaiting = true
      ∧ (∀ b, bayZone b = z → (s.bay b).binding ≠ none → ((s.scanFlame z true).bay b).holds.zoneAlarm = true)
      ∧ (z = 6 → (s.scanFlame z true).chamber.state = .fire) := by
  have hscan : ((s.zone z).flame.scan true).alarmLevel = true := by rw [Flame.scan, hl]; rfl
  have hmoved : ((s.zone z).flame.scan true).state ≠ (s.zone z).flame.state := by
    rw [Flame.state, Flame.state, hscan, ha]; decide
  obtain ⟨q, hq⟩ : ∃ q, q = (s.setZone z { s.zone z with flame := (s.zone z).flame.scan true }).raiseZone z flameSource := ⟨_, rfl⟩
  have hqz : q.zone z = { s.zone z with flame := (s.zone z).flame.scan true } := by rw [hq]; simp
  have hqb : ∀ b, q.bay b = s.bay b := fun b => by rw [hq]; simp
  have halarm : alarming (q.channelStates z) = true := by
    rw [State.channelStates, hqz, Flame.state, hscan]
    simp [alarming]
  obtain ⟨u, hu, hub, hus⟩ := State.vote_enters halarm (by rw [hqz]; exact hs)
  rw [State.scanFlame_moved hmoved, ← hq, hu]
  refine ⟨?_, ?_, fun b hb hn => ?_, fun h6 => ?_⟩
  · rw [State.enterAlarm_zone, if_pos rfl]; exact hus
  · rw [State.enterAlarm_zone, if_pos rfl]
  · rw [(State.enterAlarm_bay u z b).2.2.2 hb (by rw [hub, hqb]; exact hn)]; rfl
  · subst h6; exact State.enterAlarm_fire u

/-- The seven lines scanned (R160). -/
def State.scanned (s : State) (levels : BitVec 7) : State :=
  (Bank.places 7).foldl (fun u z => u.scanFlame z (levels.getLsbD z.1)) s

theorem exec_flameScan (hr : s.running = true) (levels : BitVec 7) : exec (.flameScan levels) s = .next (s.scanned levels) := by
  have he : exec (.flameScan levels) s = .next (s.whenRunning (fun t => t.scanned levels)) := rfl
  rw [he, State.whenRunning_running _ hr]

theorem State.scanned_frame (s : State) (levels : BitVec 7) : (s.scanned levels).slots = s.slots
    ∧ (s.scanned levels).tallies = s.tallies ∧ (s.scanned levels).detectors = s.detectors :=
  ⟨foldl_frame (fun t => t.slots) _ (fun t z => by simp) _ _, foldl_frame (fun t => t.tallies) _ (fun t z => by simp) _ _,
    foldl_frame (fun t => t.detectors) _ (fun t z => by simp) _ _⟩

/-- A scan seen at one zone: the other lines leave it before and after its own line's scan (R160). -/
theorem State.scanned_once (s : State) (levels : BitVec 7) (z : ZoneId) :
    ∃ u, State.sameZone z s u ∧ State.sameZone z (u.scanFlame z (levels.getLsbD z.1)) (s.scanned levels) :=
  foldl_seen (R := State.sameZone z) (f := fun u z => u.scanFlame z (levels.getLsbD z.1)) (l := Bank.places 7)
    (List.nodup_finRange 7) (List.mem_finRange z) (fun _ => ⟨rfl, fun _ _ => rfl, fun _ => rfl⟩)
    (fun _ _ _ h k => ⟨k.1.trans h.1, fun b hb => (k.2.1 b hb).trans (h.2.1 b hb), fun hz => (k.2.2 hz).trans (h.2.2 hz)⟩)
    (fun u _ hy => u.scanFlame_other hy _) s

/-! ### CLEAR_ALARM -/

/-- No channel of the zone is WARN or ALARM_LEVEL (R168). -/
theorem State.zoneQuiet_iff : s.zoneQuiet z = true ↔ ∀ g ∈ s.channelStates z, g ≠ .warn ∧ g ≠ .alarmLevel := by
  have hmem : ∀ g, (s.channelStates z).contains g = true ↔ g ∈ s.channelStates z := fun g => List.contains_iff_mem
  simp only [State.zoneQuiet, Bool.not_eq_true', ← Bool.not_eq_true, Bool.or_eq_true, hmem, not_or]
  exact ⟨fun h g hg => ⟨fun k => h.1 (k ▸ hg), fun k => h.2 (k ▸ hg)⟩, fun h => ⟨fun k => (h _ k).1 rfl, fun k => (h _ k).2 rfl⟩⟩

/-- What ending a hold cause on the bays of a list does to each bay channel (R54, R56). -/
theorem State.dropAll_bay (c : HoldCause) (l : List BayId) (b : BayId) : ∀ s : State,
    (b ∉ l → (l.foldl (fun t a => t.dropHold a c) s).bay b = s.bay b)
    ∧ ((l.foldl (fun t a => t.dropHold a c) s).bay b).binding = (s.bay b).binding
    ∧ (b ∈ l → (s.bay b).binding ≠ none →
        ((l.foldl (fun t a => t.dropHold a c) s).bay b).holds = (s.bay b).holds.put false c) := by
  induction l with
  | nil => exact fun s => ⟨fun _ => rfl, rfl, fun h => absurd h List.not_mem_nil⟩
  | cons a l ih =>
    intro s
    obtain ⟨h1, h2, h3⟩ := ih (s.dropHold a c)
    obtain ⟨g1, g2, -, g4⟩ := s.dropHold_bay a b c
    simp only [List.foldl_cons]
    refine ⟨fun hn => ?_, h2.trans g2, fun hm hb => ?_⟩
    · rw [List.mem_cons, not_or] at hn
      rw [h1 hn.2, g1 hn.1]
    · by_cases hl : b ∈ l
      · rw [h3 hl (by rw [g2]; exact hb)]
        by_cases hab : b = a
        · subst hab
          rw [g4 hb]; cases c <;> rfl
        · rw [g1 hab]
      · obtain rfl : b = a := (List.mem_cons.mp hm).resolve_right hl
        rw [h1 hl, g4 hb]

/-- The zone of CLEAR_ALARM back in NORMAL, with its attention (R168, R169). -/
def State.cleared (s : State) (z : ZoneId) : State := (s.setZone z { s.zone z with state := .normal }).raiseZone z 0

theorem State.cleared_feed (z : ZoneId) : (s.cleared z).feed = s.feed := by simp [State.cleared]

/-- A zone of bays cleared: their holds end (R54, R169). -/
theorem State.clearZone_bays (h : z.1 ≤ 3) :
    s.clearZone z = (zoneBays z).foldl (fun t b => t.dropHold b .zoneAlarm) (s.cleared z) := by
  have h6 : z ≠ 6 := fun hz => by rw [hz] at h; exact absurd h (by decide)
  have hf : ¬ (z = 4 ∨ z = 5 ∨ z = 6) := by rintro (rfl | rfl | rfl) <;> exact absurd h (by decide)
  unfold State.clearZone
  dsimp only
  rw [if_neg h6, if_neg hf]
  rfl

/-- A zone of the feed cleared: its block ends (R151, R169). -/
theorem State.clearZone_feed (h : z = 4 ∨ z = 5) : s.clearZone z = (s.cleared z).feedZoneClear z := by
  rcases h with rfl | rfl <;> rfl

/-- Zone 6 cleared: the chamber leaves FIRE, and the block ends (R129, R151, R169). -/
theorem State.clearZone_fire : s.clearZone 6 = (s.cleared 6).chamberFireExit.feedZoneClear 6 := rfl

/-- FIRE left by the door status (R129). -/
theorem State.chamberFireExit_eq (h : s.chamber.state = .fire) : s.chamberFireExit =
    (s.setChamber { s.chamber with
      state := if s.lines.doorClosed then .sealed else .doorOpen, confirm := none, purgeTimer := none, excess := 0
      nitrogen := false, flood := false, permit := false, shredPermit := false }).raiseChamber := by
  have hne : (s.setChamber s.chamber.stopTimers).chamber.state = .fire := h
  rw [State.chamberFireExit, if_pos h]
  cases s.lines.doorClosed with
  | true =>
    refine (State.enterChamber_outside (by rw [hne]; decide) (by rw [hne]; decide) (by decide)).trans ?_
    rfl
  | false =>
    refine (State.enterChamber_outside (by rw [hne]; decide) (by rw [hne]; decide) (by decide)).trans ?_
    rfl

/-- What exec answers for CLEAR_ALARM of a zone (R168). -/
theorem exec_clearAlarm (hs : s.Takes .plant) : exec (.clearAlarm .plant z.1) s =
    .next ((if !s.zoneQuiet z then s.refuse .notClear
      else (.ok (.zoneState ((if (s.zone z).state = .alarm then s.clearZone z else s).zone z).state
          ((if (s.zone z).state = .alarm then s.clearZone z else s).zone z).degraded),
        if (s.zone z).state = .alarm then s.clearZone z else s)).2.answer .plant 0x40
      (if !s.zoneQuiet z then s.refuse .notClear
      else (.ok (.zoneState ((if (s.zone z).state = .alarm then s.clearZone z else s).zone z).state
          ((if (s.zone z).state = .alarm then s.clearZone z else s).zone z).degraded),
        if (s.zone z).state = .alarm then s.clearZone z else s)).1) :=
  exec_served hs rfl rfl (within_zone z) (State.onZone_val z _)

/-- An accepted CLEAR_ALARM of a zone in ALARM (R168, R169). -/
theorem exec_clearAlarm_clears (hs : s.Takes .plant) (hq : s.zoneQuiet z = true) (ha : (s.zone z).state = .alarm)
    (hz : (s.clearZone z).zone z = { s.zone z with state := .normal }) :
    exec (.clearAlarm .plant z.1) s
      = .next ((s.clearZone z).answer .plant 0x40 (.ok (.zoneState .normal (s.zone z).degraded))) := by
  rw [exec_clearAlarm hs, if_neg (by simp [hq]), if_pos ha, hz]

/-- Settles O53: the scan by `scanned_once`; CLEAR_ALARM by the channels, the zone's state and its kind. -/
theorem alarmsAreEnteredAndCleared : Obligations.AlarmsAreEnteredAndCleared := by
  refine fun s => ⟨fun levels hr => ⟨s.scanned levels, exec_flameScan hr levels, (s.scanned_frame levels).1,
    (s.scanned_frame levels).2.1, (s.scanned_frame levels).2.2, fun z => ?_⟩, fun hs z => ⟨fun hq => ?_, fun hq hn => ?_,
    fun hq ha => ⟨fun h3 => ?_, fun h4 => ?_, fun h5 => ?_, fun h6 hf => ?_⟩⟩⟩
  · obtain ⟨u, ⟨huz, hub, -⟩, ⟨hvz, hvb, hvc⟩⟩ := s.scanned_once levels z
    refine ⟨?_, fun h => ?_, fun ha hl hlev hst => ?_⟩
    · rw [hvz, State.scanFlame_flame, huz]
      rfl
    · have hstill : ((u.zone z).flame.scan (levels.getLsbD z.1)).state = (u.zone z).flame.state := by
        rw [huz, Flame.state, Flame.state]
        exact congrArg (fun a : Bool => if a then ChanState.alarmLevel else .normal) h
      rw [hvz, State.scanFlame_still hstill, State.zone_setZone_same, huz]
      exact ⟨rfl, rfl⟩
    · rw [hlev] at hvz hvb hvc
      obtain ⟨h1, h2, h3, h4⟩ := State.scanFlame_alarms (s := u) (z := z) (by rw [huz]; exact ha) (by rw [huz]; exact hl)
        (by rw [huz]; exact hst)
      refine ⟨by rw [hvz]; exact h1, by rw [hvz]; exact h2, fun b hb hn => ?_, fun h6 => by rw [hvc h6]; exact h4 h6⟩
      rw [hvb b hb]
      exact h3 b hb (by rw [hub b hb]; exact hn)
  · have hq' : ¬ s.zoneQuiet z = true := fun k => hq (State.zoneQuiet_iff.mp k)
    rw [exec_clearAlarm hs, if_pos (by simpa using hq')]
    rfl
  · have hq' : s.zoneQuiet z = true := State.zoneQuiet_iff.mpr hq
    rw [exec_clearAlarm hs, if_neg (by simp [hq']), if_neg hn]
  · have hq' : s.zoneQuiet z = true := State.zoneQuiet_iff.mpr hq
    have hfold : ∀ {α : Type} (g : State → α), (∀ (t : State) (b : BayId), g (t.dropHold b .zoneAlarm) = g t) →
        g (s.clearZone z) = g (s.cleared z) := fun g hg => by
      rw [State.clearZone_bays h3]; exact foldl_frame g _ hg _ _
    have hb := fun b => State.dropAll_bay .zoneAlarm (zoneBays z) b (s.cleared z)
    have hcb : ∀ b, (s.cleared z).bay b = s.bay b := fun b => by simp [State.cleared]
    refine ⟨s.clearZone z, exec_clearAlarm_clears hs hq' ha ?_, hfold _ (by simp), ?_, ?_, ?_, fun b hz hn => ?_, fun b hz => ?_⟩
    · rw [hfold (fun t => t.zone z) (by simp)]; simp [State.cleared]
    · rw [hfold (fun t => t.slots) (by simp)]; simp [State.cleared]
    · rw [hfold (fun t => t.feed) (by simp)]; simp [State.cleared]
    · rw [hfold (fun t => t.chamber) (by simp)]; simp [State.cleared]
    · rw [State.clearZone_bays h3, (hb b).2.2 ((mem_zoneBays z b).mpr hz) (by rw [hcb]; exact hn)]
      rfl
    · rw [State.clearZone_bays h3, (hb b).1 (fun k => hz ((mem_zoneBays z b).mp k)), hcb]
  · subst h4
    have hc : s.clearZone 4 = ((s.cleared 4).setFeed { s.feed with block := { s.feed.block with z4 := false } }).evalAdmission := by
      rw [State.clearZone_feed (.inl rfl), ← State.cleared_feed 4]
      rfl
    rw [exec_clearAlarm_clears hs (State.zoneQuiet_iff.mpr hq) ha (by rw [hc]; simp [State.cleared]), hc]
    rfl
  · subst h5
    have hc : s.clearZone 5 = ((s.cleared 5).setFeed { s.feed with block := { s.feed.block with z5 := false } }).evalAdmission := by
      rw [State.clearZone_feed (.inr rfl), ← State.cleared_feed 5]
      rfl
    rw [exec_clearAlarm_clears hs (State.zoneQuiet_iff.mpr hq) ha (by rw [hc]; simp [State.cleared]), hc]
    rfl
  · subst h6
    have hcleared : (s.cleared 6).chamber = s.chamber ∧ (s.cleared 6).lines = s.lines := by simp [State.cleared]
    have hexit := State.chamberFireExit_eq (s := s.cleared 6) (by rw [hcleared.1]; exact hf)
    rw [hcleared.1, hcleared.2] at hexit
    have hc : s.clearZone 6 = (s.cleared 6).chamberFireExit.setFeed { s.feed with block := { s.feed.block with z6 := false } } := by
      have hfeed : (s.cleared 6).chamberFireExit.feed = s.feed := by rw [hexit]; simp [State.cleared]
      rw [State.clearZone_fire, ← hfeed]
      refine State.evalAdmission_outside _ ?_
      rw [State.setFeed_chamber, hexit]
      cases s.lines.doorClosed <;> simp
    rw [exec_clearAlarm_clears hs (State.zoneQuiet_iff.mpr hq) ha (by rw [hc, hexit]; simp [State.cleared]), hc, hexit]
    rfl

end Sys2Proof.Machine
end

section
/-!
PROOFS. The quarantine sweep (R143, R165 to R167): what one pass over the table leaves.
-/

namespace Sys2Proof.Machine

variable {s t u : State} {z : ZoneId} {b : BayId} {i : Slot} {r : Rec} {e : Entry}

/-! ### A record under a sweep -/

/-- The record after the sweep of a zone, in a stage (R165 to R167). -/
def Rec.sweptIn (z : ZoneId) (r : Rec) (g : Stage) : Rec :=
  let q := { r with flags := { r.flags with quarantine := true } }
  match g with
  | .probing | .discharging | .resting => if r.bay.map bayZone = some z then q else r
  | .waiting | .discharged => if z = 4 then q else r
  | .queued => if z = 5 then { q with stage := .discharged } else r
  | .atGate =>
    if z = 5 ∨ z = 6 then { q with stage := .discharged, flags := { q.flags with gateReturned := true } } else r
  | .inShredder => if z = 6 then { q with stage := .shredUnconfirmed } else r
  | .shredUnconfirmed => if z = 6 then q else r

/-- The record after the sweep of a zone, by its stage (R165 to R167). -/
def Rec.sweptBy (z : ZoneId) (r : Rec) : Rec := r.sweptIn z r.stage

/-- A sweep takes the record out of the feed queue (R166, R167). -/
def Rec.pulledBy (z : ZoneId) (r : Rec) : Bool :=
  (decide (r.stage = .queued) && decide (z = 5)) || (decide (r.stage = .atGate) && decide (z = 5 ∨ z = 6))

/-- A sweep leaves the record unconfirmed in the shredder path (R167). -/
def Rec.lostBy (z : ZoneId) (r : Rec) : Bool := decide (r.stage = .inShredder) && decide (z = 6)

/-- What a sweep over a list of slots leaves (R165 to R167). -/
structure State.SweptOver (z : ZoneId) (l : List Slot) (s t : State) : Prop where
  record : ∀ i, t.record i = if i ∈ l then (s.record i).map (Rec.sweptBy z) else s.record i
  queue : t.feed.queue = s.feed.queue.filter (fun e => !(decide (e.slot ∈ l) && (s.record e.slot).any (Rec.pulledBy z)))
  path : t.feed.path = s.feed.path.map (fun x =>
    if (decide (x.slot ∈ l) && (s.record x.slot).any (Rec.lostBy z)) = true then { x with unconfirmed := true } else x)
  gate : ∀ i ∈ l, ∀ r, s.record i = some r → r.stage = .atGate → z = 5 ∨ z = 6 → t.feed.gate = none ∧ t.feed.gateOpen = false
  shut : s.feed.gate = none ∧ s.feed.gateOpen = false → t.feed.gate = none ∧ t.feed.gateOpen = false
  arb : t.arb = s.arb
  tallies : t.tallies = s.tallies
  settings : t.settings = s.settings
  chamber : t.chamber = s.chamber
  zones : t.zones = s.zones
  line : t.line.inFlight = s.line.inFlight
  plant : t.plant.inFlight = s.plant.inFlight
  bays : ∀ b, bayZone b ≠ z → t.bay b = s.bay b
  bindings : ∀ b, (t.bay b).binding = (s.bay b).binding
  held : ∀ b, (s.bay b).holds.quarantine = true → (t.bay b).holds.quarantine = true
  holds : ∀ i ∈ l, ∀ r b, s.record i = some r → r.stage.bound = true → r.bay = some b → bayZone b = z → (s.bay b).binding ≠ none →
    (t.bay b).holds.quarantine = true

/-- A slot that the sweep passes over (R165). -/
theorem State.SweptOver.passed (h : ∀ r, s.record i = some r → r.sweptBy z = r ∧ r.pulledBy z = false ∧ r.lostBy z = false
    ∧ (r.stage = .atGate → ¬ (z = 5 ∨ z = 6)) ∧ (r.stage.bound = true → r.bay.map bayZone ≠ some z)) : State.SweptOver z [i] s s where
  record j := by
    split
    · next hj =>
      obtain rfl : j = i := List.mem_singleton.mp hj
      cases hr : s.record j with
      | none => rfl
      | some r => rw [Option.map_some, (h r hr).1]
    · rfl
  queue := by
    refine (List.filter_eq_self.mpr fun e he => ?_).symm
    by_cases hj : e.slot = i
    · cases hr : s.record i with
      | none => simp [hj, hr]
      | some r => simp [hj, hr, (h r hr).2.1]
    · simp [hj]
  path := by
    refine (List.map_id'' (fun x => ?_) _).symm
    by_cases hj : x.slot = i
    · cases hr : s.record i with
      | none => simp [hj, hr]
      | some r => simp [hj, hr, (h r hr).2.2.1]
    · simp [hj]
  gate j hj r hr hg hz := absurd hz ((h r (by rwa [← List.mem_singleton.mp hj])).2.2.2.1 hg)
  shut h := h
  arb := rfl
  tallies := rfl
  settings := rfl
  chamber := rfl
  zones := rfl
  line := rfl
  plant := rfl
  bays _ _ := rfl
  bindings _ := rfl
  held _ h := h
  holds j hj r b hr hs hb hz _ := absurd (by rw [hb, Option.map_some, hz]) ((h r (by rwa [← List.mem_singleton.mp hj])).2.2.2.2 hs)

/-- Two passes over different slots, one after the other (R165). -/
theorem State.SweptOver.cons {l : List Slot} (h : State.SweptOver z [i] s t) (k : State.SweptOver z l t u) (hi : i ∉ l) :
    State.SweptOver z (i :: l) s u := by
  have hsame : ∀ j ∈ l, t.record j = s.record j := fun j hj => by
    rw [h.record, if_neg]
    rw [List.mem_singleton]
    rintro rfl
    exact hi hj
  refine
    { record := fun j => ?_, queue := ?_, path := ?_, gate := fun j hj r hr hg hz => ?_, shut := fun g => k.shut (h.shut g)
      arb := k.arb.trans h.arb, tallies := k.tallies.trans h.tallies, settings := k.settings.trans h.settings
      chamber := k.chamber.trans h.chamber, zones := k.zones.trans h.zones, line := k.line.trans h.line
      plant := k.plant.trans h.plant, bays := fun b hb => (k.bays b hb).trans (h.bays b hb)
      bindings := fun b => (k.bindings b).trans (h.bindings b), held := fun b hb => k.held b (h.held b hb)
      holds := fun j hj r b hr hs hb hz hn => ?_ }
  · rw [k.record]
    by_cases hj : j ∈ l
    · rw [if_pos hj, if_pos (List.mem_cons_of_mem _ hj), hsame j hj]
    · rw [if_neg hj, h.record]
      exact ite_of_iff (by simp [hj]) _ _
  · rw [k.queue, h.queue, List.filter_filter]
    refine List.filter_congr fun e he => ?_
    by_cases hl : e.slot ∈ l
    · have hne : e.slot ≠ i := fun q => hi (q ▸ hl)
      simp [hl, hne, hsame _ hl]
    · by_cases hj : e.slot = i
      · simp [hi, hj]
      · simp [hl, hj]
  · rw [k.path, h.path, List.map_map]
    refine List.map_congr_left fun x hx => ?_
    by_cases hl : x.slot ∈ l
    · have hne : x.slot ≠ i := fun q => hi (q ▸ hl)
      simp [hl, hne, hsame _ hl]
    · by_cases hj : x.slot = i
      · simp only [Function.comp, hj, List.mem_singleton, decide_true, Bool.true_and, List.mem_cons, true_or]
        split <;> simp [hi, hj]
      · simp [hl, hj]
  · rcases List.mem_cons.mp hj with rfl | hj
    · exact k.shut (h.gate _ (List.mem_singleton.mpr rfl) r hr hg hz)
    · exact k.gate j hj r (by rw [hsame j hj]; exact hr) hg hz
  · rcases List.mem_cons.mp hj with rfl | hj
    · exact k.held b (h.holds _ (List.mem_singleton.mpr rfl) r b hr hs hb hz hn)
    · exact k.holds j hj r b (by rw [hsame j hj]; exact hr) hs hb hz (by rw [h.bindings]; exact hn)

/-- A pass that changes the record of one slot, and of the feed what that record asks for (R165 to R167). -/
theorem State.SweptOver.single {f : Feed} (hr : s.record i = some r)
    (hf : f.queue = s.feed.queue.filter (fun e => !(decide (e.slot = i) && r.pulledBy z)))
    (hp : f.path = s.feed.path.map (fun x => if (decide (x.slot = i) && r.lostBy z) = true then { x with unconfirmed := true } else x))
    (hg : (r.stage = .atGate → z = 5 ∨ z = 6 → f.gate = none ∧ f.gateOpen = false)
      ∧ (s.feed.gate = none ∧ s.feed.gateOpen = false → f.gate = none ∧ f.gateOpen = false))
    (hb : r.stage.bound = true → r.bay.map bayZone ≠ some z) :
    State.SweptOver z [i] s ((s.setRecord i (some (r.sweptBy z))).setFeed f) where
  record j := by
    rw [State.setFeed_record, State.record_setRecord]
    by_cases hj : j = i
    · subst hj; simp [hr]
    · simp [hj]
  queue := by
    rw [State.setFeed_feed, hf]
    refine List.filter_congr fun e _ => ?_
    by_cases hj : e.slot = i
    · simp [hj, hr]
    · simp [hj]
  path := by
    rw [State.setFeed_feed, hp]
    refine List.map_congr_left fun x _ => ?_
    by_cases hj : x.slot = i
    · simp [hj, hr]
    · simp [hj]
  gate j hj q hq hs hz := by
    obtain rfl : q = r := Option.some.inj (hq.symm.trans ((List.mem_singleton.mp hj) ▸ hr))
    exact hg.1 hs hz
  shut h := hg.2 h
  arb := rfl
  tallies := rfl
  settings := rfl
  chamber := rfl
  zones := rfl
  line := rfl
  plant := rfl
  bays _ _ := rfl
  bindings _ := rfl
  held _ h := h
  holds j hj q b hq hs hqb hz _ := by
    obtain rfl : q = r := Option.some.inj (hq.symm.trans ((List.mem_singleton.mp hj) ▸ hr))
    exact absurd (by rw [hqb, Option.map_some, hz]) (hb hs)

theorem State.raise_inFlight (s : State) (f : Attn → Attn) :
    (s.raise f).line.inFlight = s.line.inFlight ∧ (s.raise f).plant.inFlight = s.plant.inFlight := by
  cases hr : s.running with
  | false => simp [State.raise, State.raisePort, hr]
  | true => rw [s.raise_eq hr]; exact ⟨rfl, rfl⟩

/-- A hold leaves the requests in flight. -/
theorem State.addHold_inFlight (s : State) (b : BayId) (k : HoldCause) :
    (s.addHold b k).line.inFlight = s.line.inFlight ∧ (s.addHold b k).plant.inFlight = s.plant.inFlight := by
  unfold State.addHold
  dsimp only
  split
  · exact ⟨rfl, rfl⟩
  · split
    · exact State.raise_inFlight _ _
    · exact ⟨rfl, rfl⟩

/-- A pass over a bound record of the zone, whose bay is held (R165). -/
theorem State.SweptOver.bound (hr : s.record i = some r) (hs : r.stage.bound = true) (hb : r.bay = some b) (hz : bayZone b = z) :
    State.SweptOver z [i] s ((s.setRecord i (some (r.sweptBy z))).addHold b .quarantine) := by
  have hn : r.pulledBy z = false ∧ r.lostBy z = false ∧ r.stage ≠ .atGate := by
    unfold Rec.pulledBy Rec.lostBy
    cases hst : r.stage <;> simp [hst, Stage.bound] at hs ⊢
  have hsame := (s.setRecord i (some (r.sweptBy z))).addHold_bay_same b .quarantine
  exact
    { record := fun j => by
        rw [State.addHold_record, State.record_setRecord]
        by_cases hj : j = i
        · subst hj; simp [hr]
        · simp [hj]
      queue := by
        rw [State.addHold_feed]
        refine (List.filter_eq_self.mpr fun e _ => ?_).symm
        by_cases hj : e.slot = i
        · simp [hj, hr, hn.1]
        · simp [hj]
      path := by
        rw [State.addHold_feed]
        refine (List.map_id'' (fun x => ?_) _).symm
        by_cases hj : x.slot = i
        · simp [hj, hr, hn.2.1]
        · simp [hj]
      gate := fun j hj q hq hg _ => by
        obtain rfl : q = r := Option.some.inj (hq.symm.trans ((List.mem_singleton.mp hj) ▸ hr))
        exact absurd hg hn.2.2
      shut := fun h => by rw [State.addHold_feed]; exact h
      arb := by simp
      tallies := by simp
      settings := by simp
      chamber := by simp
      zones := by simp
      line := (State.addHold_inFlight _ _ _).1
      plant := (State.addHold_inFlight _ _ _).2
      bays := fun a ha => by
        rw [State.addHold_bay_other _ _ _ _ (fun k => ha (by rw [k, hz]))]
        rfl
      bindings := fun a => by
        by_cases ha : a = b
        · subst ha; exact hsame.1
        · rw [State.addHold_bay_other _ _ _ _ ha]
          rfl
      held := fun a h => by
        by_cases ha : a = b
        · subst ha
          by_cases hbind : (s.bay a).binding = none
          · rw [State.addHold_unbound (by exact hbind)]
            exact h
          · rw [hsame.2.2.2.2 (by exact hbind)]
            rfl
        · rw [State.addHold_bay_other _ _ _ _ ha]
          exact h
      holds := fun j hj q a hq _ hqb _ hbind => by
        obtain rfl : q = r := Option.some.inj (hq.symm.trans ((List.mem_singleton.mp hj) ▸ hr))
        obtain rfl : a = b := Option.some.inj (hqb.symm.trans hb)
        rw [hsame.2.2.2.2 (by exact hbind)]
        rfl }

/-! ### The sweep of a zone -/

/-- A pass that leaves the record of its slot, seen on that record (R165). -/
theorem State.SweptOver.passed_record (hr : s.record i = some r) (h1 : r.sweptBy z = r) (h2 : r.pulledBy z = false)
    (h3 : r.lostBy z = false) (h4 : r.stage = .atGate → ¬ (z = 5 ∨ z = 6)) (h5 : r.stage.bound = true → r.bay.map bayZone ≠ some z) :
    State.SweptOver z [i] s s := .passed fun q hq => by
  obtain rfl : q = r := Option.some.inj (hq.symm.trans hr)
  exact ⟨h1, h2, h3, h4, h5⟩

/-- A pass that changes the record of its slot and nothing else (R165). -/
theorem State.SweptOver.marked (hr : s.record i = some r) (h2 : r.pulledBy z = false)
    (h3 : r.lostBy z = false) (h4 : r.stage ≠ .atGate) (h5 : r.stage.bound = false) :
    State.SweptOver z [i] s (s.setRecord i (some (r.sweptBy z))) :=
  .single (f := s.feed) hr (filter_of_all fun e => by simp [h2]) (by simp [h3]) ⟨fun h => absurd h h4, id⟩ (by simp [h5])

theorem State.sweepRecord_bound (hr : s.record i = some r) (hs : r.stage.bound = true) :
    State.SweptOver z [i] s (s.sweepRecord z i) := by
  have he : s.sweepRecord z i =
      if r.bay.map bayZone = some z then (s.setRecord i (some r.quarantined)).holdForQuarantine r else s := by
    unfold State.sweepRecord
    rw [hr]
    cases hst : r.stage <;> simp [hst, Stage.bound] at hs ⊢
  have hq : r.sweptBy z = if r.bay.map bayZone = some z then r.quarantined else r := by
    have hin : ∀ g : Stage, g.bound = true → r.sweptIn z g = if r.bay.map bayZone = some z then r.quarantined else r := by
      intro g hg
      cases g <;> simp [Stage.bound] at hg <;> rfl
    exact hin _ hs
  have hn : r.pulledBy z = false ∧ r.lostBy z = false ∧ r.stage ≠ .atGate := by
    unfold Rec.pulledBy Rec.lostBy
    cases hst : r.stage <;> simp [hst, Stage.bound] at hs ⊢
  by_cases h : r.bay.map bayZone = some z
  · obtain ⟨b, hb, hz⟩ := Option.map_eq_some_iff.mp h
    have hbound := State.SweptOver.bound hr hs hb hz
    rw [hq, if_pos h] at hbound
    rw [he, if_pos h, State.holdForQuarantine_bound hb]
    exact hbound
  · rw [he, if_neg h]
    exact .passed_record hr (by rw [hq, if_neg h]) hn.1 hn.2.1 (fun k => absurd k hn.2.2) (fun _ => h)

theorem State.sweepRecord_resting (hr : s.record i = some r) (hs : r.stage = .waiting ∨ r.stage = .discharged) :
    State.SweptOver z [i] s (s.sweepRecord z i) := by
  have he : s.sweepRecord z i = if z = 4 then s.setRecord i (some r.quarantined) else s := by
    unfold State.sweepRecord
    rw [hr]
    rcases hs with hs | hs <;> simp only [hs]
  have hq : r.sweptBy z = if z = 4 then r.quarantined else r := by
    rw [Rec.sweptBy]
    rcases hs with hs | hs <;> rw [hs] <;> rfl
  have hn : r.pulledBy z = false ∧ r.lostBy z = false ∧ r.stage ≠ .atGate ∧ r.stage.bound = false := by
    unfold Rec.pulledBy Rec.lostBy
    rcases hs with hs | hs <;> simp [hs, Stage.bound]
  by_cases h : z = 4
  · have hm := State.SweptOver.marked hr hn.1 hn.2.1 hn.2.2.1 hn.2.2.2
    rw [hq, if_pos h] at hm
    rw [he, if_pos h]
    exact hm
  · rw [he, if_neg h]
    exact .passed_record hr (by rw [hq, if_neg h]) hn.1 hn.2.1 (fun k => absurd k hn.2.2.1) (by simp [hn.2.2.2])

theorem State.sweepRecord_queued (hr : s.record i = some r) (hs : r.stage = .queued) :
    State.SweptOver z [i] s (s.sweepRecord z i) := by
  have he : s.sweepRecord z i = if z = 5 then s.pullFromFeed i r else s := by
    unfold State.sweepRecord
    simp only [hr, hs]
  by_cases h : z = 5
  · rw [he, if_pos h, State.pullFromFeed_queued hs]
    have hq : r.sweptBy z = { r with flags := { r.flags with quarantine := true }, stage := .discharged } := by
      rw [Rec.sweptBy, hs]
      exact if_pos h
    rw [← hq]
    refine .single hr ?_ ?_ ⟨fun k => ?_, id⟩ (by simp [hs, Stage.bound])
    · simp [Rec.pulledBy, hs, h]
    · simp [Rec.lostBy, hs]
    · rw [hs] at k; cases k
  · rw [he, if_neg h]
    refine .passed_record hr ?_ (by simp [Rec.pulledBy, hs, h]) (by simp [Rec.lostBy, hs]) (by simp [hs]) (by simp [hs, Stage.bound])
    rw [Rec.sweptBy, hs]
    exact if_neg h

theorem State.sweepRecord_atGate (hr : s.record i = some r) (hs : r.stage = .atGate) :
    State.SweptOver z [i] s (s.sweepRecord z i) := by
  have he : s.sweepRecord z i = if z = 5 ∨ z = 6 then s.pullFromFeed i r else s := by
    unfold State.sweepRecord
    simp only [hr, hs]
  by_cases h : z = 5 ∨ z = 6
  · rw [he, if_pos h, State.pullFromFeed_atGate hs]
    have hq : r.sweptBy z = { r with flags := { r.flags with quarantine := true, gateReturned := true }, stage := .discharged } := by
      rw [Rec.sweptBy, hs]
      exact if_pos h
    rw [← hq]
    refine .single hr ?_ ?_ ⟨fun _ _ => ⟨rfl, rfl⟩, fun _ => ⟨rfl, rfl⟩⟩ (by simp [hs, Stage.bound])
    · simp [Rec.pulledBy, hs, h]
    · simp [Rec.lostBy, hs]
  · rw [he, if_neg h]
    refine .passed_record hr ?_ (by simpa [Rec.pulledBy, hs] using h) (by simp [Rec.lostBy, hs]) (fun _ => h) (by simp [hs, Stage.bound])
    rw [Rec.sweptBy, hs]
    exact if_neg h

theorem State.sweepRecord_inShredder (hr : s.record i = some r) (hs : r.stage = .inShredder) :
    State.SweptOver z [i] s (s.sweepRecord z i) := by
  have he : s.sweepRecord z i = if z = 6 then
      (s.setRecord i (some { r.quarantined with stage := .shredUnconfirmed })).setFeed (s.feed.unconfirmPath i) else s := by
    unfold State.sweepRecord
    simp only [hr, hs]
  by_cases h : z = 6
  · have hq : r.sweptBy z = { r.quarantined with stage := .shredUnconfirmed } := by
      rw [Rec.sweptBy, hs]
      exact if_pos h
    rw [he, if_pos h, ← hq]
    refine .single hr ?_ ?_ ⟨fun k => ?_, id⟩ (by simp [hs, Stage.bound])
    · exact filter_of_all fun e => by simp [Rec.pulledBy, hs]
    · simp [Rec.lostBy, hs, h, Feed.unconfirmPath]
    · rw [hs] at k; cases k
  · rw [he, if_neg h]
    refine .passed_record hr ?_ (by simp [Rec.pulledBy, hs]) (by simp [Rec.lostBy, hs, h]) (by simp [hs]) (by simp [hs, Stage.bound])
    rw [Rec.sweptBy, hs]
    exact if_neg h

theorem State.sweepRecord_shredUnconfirmed (hr : s.record i = some r) (hs : r.stage = .shredUnconfirmed) :
    State.SweptOver z [i] s (s.sweepRecord z i) := by
  have he : s.sweepRecord z i = if z = 6 then s.setRecord i (some r.quarantined) else s := by
    unfold State.sweepRecord
    simp only [hr, hs]
  have hq : r.sweptBy z = if z = 6 then r.quarantined else r := by
    rw [Rec.sweptBy, hs]
    rfl
  have hn : r.pulledBy z = false ∧ r.lostBy z = false := by simp [Rec.pulledBy, Rec.lostBy, hs]
  by_cases h : z = 6
  · have hm := State.SweptOver.marked hr hn.1 hn.2 (by simp [hs]) (by simp [hs, Stage.bound])
    rw [hq, if_pos h] at hm
    rw [he, if_pos h]
    exact hm
  · rw [he, if_neg h]
    exact .passed_record hr (by rw [hq, if_neg h]) hn.1 hn.2 (by simp [hs]) (by simp [hs, Stage.bound])

/-- The sweep on one slot, by the stage of its record (R165 to R167). -/
theorem State.sweepRecord_swept (s : State) (z : ZoneId) (i : Slot) : State.SweptOver z [i] s (s.sweepRecord z i) := by
  cases hr : s.record i with
  | none =>
    have he : s.sweepRecord z i = s := by
      unfold State.sweepRecord
      rw [hr]
    rw [he]
    exact .passed fun r h => by rw [hr] at h; cases h
  | some r =>
    cases hs : r.stage
    case probing | discharging | resting => exact State.sweepRecord_bound hr (by rw [hs]; rfl)
    case waiting => exact State.sweepRecord_resting hr (.inl hs)
    case discharged => exact State.sweepRecord_resting hr (.inr hs)
    case queued => exact State.sweepRecord_queued hr hs
    case atGate => exact State.sweepRecord_atGate hr hs
    case inShredder => exact State.sweepRecord_inShredder hr hs
    case shredUnconfirmed => exact State.sweepRecord_shredUnconfirmed hr hs

theorem State.SweptOver.nil (s : State) : State.SweptOver z [] s s where
  record j := by simp
  queue := filter_of_all fun e => by simp
  path := by simp
  gate j hj := absurd hj List.not_mem_nil
  shut h := h
  arb := rfl
  tallies := rfl
  settings := rfl
  chamber := rfl
  zones := rfl
  line := rfl
  plant := rfl
  bays _ _ := rfl
  bindings _ := rfl
  held _ h := h
  holds j hj := absurd hj List.not_mem_nil

/-- The pass over every slot (R165). -/
theorem State.sweepRecords_swept (s : State) (z : ZoneId) : State.SweptOver z (Bank.places 256) s (s.sweepRecords z) := by
  have h : ∀ (l : List Slot) (s : State), l.Nodup → State.SweptOver z l s (l.foldl (State.sweepRecord z) s) := by
    intro l
    induction l with
    | nil => exact fun s _ => .nil s
    | cons i l ih =>
      intro s hl
      obtain ⟨hi, hl⟩ := List.nodup_cons.mp hl
      exact .cons (s.sweepRecord_swept z i) (ih _ hl) hi
  exact h _ s (List.nodup_finRange 256)

/-! ### The grant of a sweep -/

theorem FeedWrite.passEntry_eq {w : FeedWrite} : w.passEntry = some e ↔ w = .pass e := by
  cases w <;> simp [FeedWrite.passEntry]

theorem FeedWrite.findPass {l : List FeedWrite} (he : .pass e ∈ l) (hu : ∀ d, FeedWrite.pass d ∈ l → d = e) :
    l.findSome? FeedWrite.passEntry = some e := by
  obtain ⟨d, hd⟩ := Option.isSome_iff_exists.mp (List.findSome?_isSome_iff (f := FeedWrite.passEntry).mpr
    ⟨.pass e, he, rfl⟩)
  obtain ⟨w, hw, hwd⟩ := List.exists_of_findSome?_eq_some hd
  rw [hd, hu d (FeedWrite.passEntry_eq.mp hwd ▸ hw)]

/-- With no pass write waiting, none is made first (R143). -/
theorem State.makeWaitingPass_none (h : ∀ e, FeedWrite.pass e ∉ s.arb.feedWrites) : s.makeWaitingPass = s := by
  have hn : s.arb.feedWrites.findSome? FeedWrite.passEntry = none := by
    rw [List.findSome?_eq_none_iff]
    intro w hw
    rw [Option.eq_none_iff_forall_ne_some]
    exact fun e he => h e (FeedWrite.passEntry_eq.mp he ▸ hw)
  simp only [State.makeWaitingPass, hn]

theorem State.makeWaitingPass_some (he : .pass e ∈ s.arb.feedWrites) (hu : ∀ d, FeedWrite.pass d ∈ s.arb.feedWrites → d = e) :
    s.makeWaitingPass =
      (s.setArb { s.arb with feedWrites := s.arb.feedWrites.filter (fun w => decide (w ≠ .pass e)) }).makePass e := by
  simp only [State.makeWaitingPass, FeedWrite.findPass he hu]

/-- The sweep of a zone over a table whose pass writes are made (R165 to R167). -/
def State.sweeps (s : State) (z : ZoneId) : State := ((s.sweepRecords z).sweepAttention s z).evalAdmission

/-- A granted sweep (R165). -/
theorem exec_quarantineSweep {rest : List ZoneId} (hr : s.running = true) (ha : s.arb.access = .engine .fire)
    (hs : s.arb.sweeps = z :: rest) : exec .quarantineSweep s = .next ((s.popSweep.makeSweep z).endGrant 2) := by
  have he : exec .quarantineSweep s = .next s.grantSweep := rfl
  have hp : s.phase = .running := by simpa [State.running] using hr
  rw [he, State.grantSweep, hs]
  simp only [hp]
  exact congrArg Host.Outcome.next (State.engineGrant_given hr ha)

/-- The state in which a granted sweep begins (R34, R165). -/
def State.sweepBegun (s : State) (z : ZoneId) (rest : List ZoneId) : State :=
  (s.setArb { s.arb with sweeps := rest }).setZone z { s.zone z with sweepWaiting := false }

theorem State.makeSweep_popped {rest : List ZoneId} (hs : s.arb.sweeps = z :: rest) : s.popSweep.makeSweep z =
    (if z = 5 ∨ z = 6 then (s.sweepBegun z rest).makeWaitingPass else s.sweepBegun z rest).sweeps z := by
  have hp : s.popSweep = s.setArb { s.arb with sweeps := rest } := by rw [State.popSweep, hs]; rfl
  rw [hp]
  rfl

/-- Admission evaluated asks for its write alone (R139). -/
theorem State.evalAdmission_asked (s : State) : ∃ w a, s.evalAdmission = { s with
    feed := { s.feed with admissionWaiting := w }, arb := a } ∧ a.sweeps = s.arb.sweeps := by
  unfold State.evalAdmission
  split
  · split
    · rw [State.askFeed_eq]
      exact ⟨true, _, rfl, rfl⟩
    · exact ⟨_, _, rfl, rfl⟩
  · exact ⟨_, _, rfl, rfl⟩

/-- Attention of a sweep leaves all but the attention of the ports (R166, R167). -/
theorem State.sweepAttention_frame (s before : State) (z : ZoneId) : ∃ x y, s.sweepAttention before z = { s with line := x, plant := y }
    ∧ x.inFlight = s.line.inFlight ∧ y.inFlight = s.plant.inFlight := by
  unfold State.sweepAttention
  split
  · obtain ⟨x, y, h⟩ := s.raise_frame (fun a => { a with feed := true })
    obtain ⟨h1, h2⟩ := s.raise_inFlight (fun a => { a with feed := true })
    rw [h] at h1 h2
    exact ⟨x, y, h, h1, h2⟩
  · exact ⟨_, _, rfl, rfl, rfl⟩

/-- What the sweep, its attention and the evaluation of admission leave (R165 to R167). -/
theorem State.sweeps_frame (s : State) (z : ZoneId) : ∃ x y w a, s.sweeps z = { s.sweepRecords z with
      line := x, plant := y, feed := { (s.sweepRecords z).feed with admissionWaiting := w }, arb := a }
    ∧ a.sweeps = s.arb.sweeps ∧ x.inFlight = s.line.inFlight ∧ y.inFlight = s.plant.inFlight := by
  have h := s.sweepRecords_swept z
  unfold State.sweeps
  revert h
  generalize s.sweepRecords z = q
  intro h
  obtain ⟨x, y, hxy, hx, hy⟩ := q.sweepAttention_frame s z
  obtain ⟨w, a, hwa, ha⟩ := (q.sweepAttention s z).evalAdmission_asked
  refine ⟨x, y, w, a, ?_, ?_, hx.trans h.line, hy.trans h.plant⟩
  · rw [hwa, hxy]
  · rw [ha, hxy, ← h.arb]

/-- A sweep with no pass write waiting (R165). -/
theorem exec_quarantineSweep_clean {rest : List ZoneId} (hr : s.running = true) (ha : s.arb.access = .engine .fire)
    (hs : s.arb.sweeps = z :: rest) (hz : z = 5 ∨ z = 6) (hn : ∀ e, FeedWrite.pass e ∉ s.arb.feedWrites) :
    exec .quarantineSweep s = .next (((s.sweepBegun z rest).sweeps z).endGrant 2) := by
  rw [exec_quarantineSweep hr ha hs, State.makeSweep_popped hs, if_pos hz, State.makeWaitingPass_none (by exact hn)]

/-- A pass write made, with what it counts (R24, R142, R149). -/
theorem State.makePass_counted {f : Feed} {n : Tallies} (h : s.expect e .atGate = some r) (hf : s.feed = f) (hn : s.tallies = n) :
    s.makePass e =
    (((s.setRecord e.slot (some { r with stage := .inShredder })).setFeed { f with
        passPending := false, queue := f.queue.filter (fun d => decide (d.slot ≠ e.slot))
        path := if f.path.length < 8
          then f.path ++ [{ slot := e.slot, tag := e.tag, residual := r.declared - r.energy, unconfirmed := false }]
          else f.path }).setTallies { n with
      residualAdmitted := min 4294967295 (n.residualAdmitted + (r.declared - r.energy))
      massAdmitted := min 4294967295 (n.massAdmitted + r.mass) }) := by
  rw [← hf, ← hn]
  exact State.makePass_made h

/-- A pass write made before or after a sweep begins (R143). -/
theorem State.sweepBegun_passed {rest : List ZoneId} (l : List FeedWrite) (i : Slot) (q : Option Rec) (f : Feed) (n : Tallies)
    (s : State) : (((((s.sweepBegun z rest).setArb { (s.sweepBegun z rest).arb with feedWrites := l }).setRecord i q).setFeed f).setTallies n)
      = (((((s.setArb { s.arb with feedWrites := l }).setRecord i q).setFeed f).setTallies n).sweepBegun z rest) := rfl

/-- A sweep that makes a waiting pass write first is the sweep of a state in which it is made (R143). -/
theorem exec_quarantineSweep_after {rest : List ZoneId} (hr : s.running = true) (ha : s.arb.access = .engine .fire)
    (hs : s.arb.sweeps = z :: rest) (hz : z = 5 ∨ z = 6) (he : .pass e ∈ s.arb.feedWrites)
    (hu : ∀ d, FeedWrite.pass d ∈ s.arb.feedWrites → d = e)
    (hp : ((s.sweepBegun z rest).setArb { (s.sweepBegun z rest).arb with
      feedWrites := s.arb.feedWrites.filter (fun w => decide (w ≠ .pass e)) }).makePass e = t.sweepBegun z rest)
    (hr' : t.running = true) (ha' : t.arb.access = .engine .fire) (hs' : t.arb.sweeps = z :: rest)
    (hn : ∀ d, FeedWrite.pass d ∉ t.arb.feedWrites) : exec .quarantineSweep s = exec .quarantineSweep t := by
  rw [exec_quarantineSweep hr ha hs, State.makeSweep_popped hs, if_pos hz, State.makeWaitingPass_some (by exact he) (by exact hu),
    exec_quarantineSweep_clean hr' ha' hs' hz hn, ← hp]
  rfl

/-- Settles O54: the pass over the table by `sweepRecords_swept`; a pass write that waits by `makePass`. -/
theorem sweepsQuarantineTheirZone : Obligations.SweepsQuarantineTheirZone := by
  intro s z rest hr ha hs swept pulled lost
  refine ⟨fun hn => ?_, fun e hz he hu => ?_⟩
  rotate_left
  have hclean : ∀ d, FeedWrite.pass d ∉ s.arb.feedWrites.filter (fun w => decide (w ≠ .pass e)) := fun d hd =>
    (of_decide_eq_true (List.mem_filter.mp hd).2) (by rw [hu d (List.mem_filter.mp hd).1])
  refine ⟨fun r hrec ht hst => ?_, fun hn => ?_⟩
  rotate_left 2
  · have hbegun : s.popSweep.makeSweep z = (s.sweepBegun z rest).sweeps z := by
      rw [State.makeSweep_popped hs]
      split
      · next hz => rw [State.makeWaitingPass_none (by exact hn hz)]
      · rfl
    have h := (s.sweepBegun z rest).sweepRecords_swept z
    obtain ⟨x, y, w, a, heq, hsw, hx, hy⟩ := (s.sweepBegun z rest).sweeps_frame z
    have hall : ∀ i : Slot, i ∈ Bank.places 256 := List.mem_finRange
    refine ⟨(s.sweepBegun z rest).sweeps z, by rw [exec_quarantineSweep hr ha hs, hbegun], ?_⟩
    rw [heq]
    revert h
    generalize (s.sweepBegun z rest).sweepRecords z = q
    intro h
    refine ⟨hsw, hx, hy, h.zones, fun i => (h.record i).trans (if_pos (hall i)), h.tallies, h.settings, h.chamber, ?_, ?_,
      fun i r hr hg hz => h.gate i (hall i) r hr hg hz, h.bays, fun i r b hr hg hb hz hn => h.holds i (hall i) r b hr hg hb hz hn⟩
    · refine h.queue.trans (List.filter_congr fun e _ => ?_)
      simp only [hall, decide_true, Bool.true_and]
      rfl
    · refine h.path.trans (List.map_congr_left fun x _ => ?_)
      simp only [hall, decide_true, Bool.true_and]
      rfl
  · have hmade := State.makePass_counted (s := (s.sweepBegun z rest).setArb { (s.sweepBegun z rest).arb with
      feedWrites := s.arb.feedWrites.filter (fun w => decide (w ≠ .pass e)) }) (e := e) (r := r) (f := s.feed) (n := s.tallies)
      (State.expect_some ⟨hrec, ht, hst⟩) rfl rfl
    refine exec_quarantineSweep_after hr ha hs hz he hu (hmade.trans (State.sweepBegun_passed _ _ _ _ _ _)) ?_ ?_ ?_ ?_
    · exact hr
    · exact ha
    · exact hs
    · exact hclean
  · have hnone := State.makePass_unmade (s := (s.sweepBegun z rest).setArb { (s.sweepBegun z rest).arb with
      feedWrites := s.arb.feedWrites.filter (fun w => decide (w ≠ .pass e)) }) (e := e)
      (State.expect_none fun r ⟨h1, h2, h3⟩ => hn r h1 h2 h3)
    exact exec_quarantineSweep_after hr ha hs hz he hu hnone hr ha hs hclean

end Sys2Proof.Machine
end

section
/-!
PROOFS. The ends of a bay's times (R61, R91, R96 to R98, R110) and bay frames without a sample (R51, R58, R59).
-/

namespace Sys2Proof.Machine

variable {s t : State} {b : BayId} {x y : Bay} {e : Entry} {c : FaultCause} {k : Copies}

/-! ### Taking a fault -/

/-- An unbound bay takes a fault (R107, R108). -/
theorem State.takeFault_unbound (h : (s.bay b).binding = none) : s.takeFault b c =
    (s.setBay b { (s.bay b).enterFaulted c none with stageOwed := false }).raiseFault b c := by
  unfold State.takeFault
  dsimp only
  split
  · next h1 _ => rw [h] at h1; cases h1
  · rfl

/-- The channel latched in FAULTED, with its count (R107, R108). -/
def Bay.latched (x : Bay) (c : FaultCause) (shutT : Nat) : Bay :=
  { x.enterFaulted c (some (shutT : Int)) with faultCount := satAdd countMax x.faultCount 1 }

theorem State.takeFault_latched (h : (s.bay b).binding = some e) (hk : (s.bay b).copies = some k)
    (hr : retries (s.bayCfg b).mode (s.bay b) c (satAdd countMax (s.bay b).faultCount 1) = none) : s.takeFault b c =
    (if satAdd countMax (s.bay b).faultCount 1 = 5 ∧ (s.bay b).releasePending = false
      then (s.setBay b ((s.bay b).latched c (s.classCfg k.cls).shutT)).askUnbind b (s.bay b).lastStage .waiting none false
      else s.setBay b ((s.bay b).latched c (s.classCfg k.cls).shutT)).raiseFault b c := by
  unfold State.takeFault
  dsimp only
  split
  · next h1 h2 =>
    obtain rfl := Option.some.inj (h2.symm.trans hk)
    rw [hr]
    rfl
  · next hn => exact absurd hk (hn e k h)

theorem State.takeFault_retried {g : RetryKind} (h : (s.bay b).binding = some e) (hk : (s.bay b).copies = some k)
    (hr : retries (s.bayCfg b).mode (s.bay b) c (satAdd countMax (s.bay b).faultCount 1) = some g) : s.takeFault b c =
    (s.setBay b { (s.bay b).enterRetry g with faultCount := satAdd countMax (s.bay b).faultCount 1 }).raiseFault b c := by
  unfold State.takeFault
  dsimp only
  split
  · rw [hr]
  · next hn => exact absurd hk (hn e k h)

/-- An unbinding asked for on a bound channel (R64, R92). -/
theorem State.askUnbind_bound {g h : Stage} {r : Option (Nat × Nat)} {l : Bool} (hb : (s.bay b).binding = some e) :
    s.askUnbind b g h r l =
      (s.setBay b { s.bay b with releasePending := true, level := 0, holdOff := none, lastStage := h }).askBay b
        (.unbind { entry := e, expected := g, new := h, rest := r, reboundLimit := l }) := by
  unfold State.askUnbind
  split
  · next e' he' =>
    obtain rfl : e' = e := Option.some.inj (he'.symm.trans hb)
    rfl
  · next hn => rw [hn] at hb; cases hb

theorem State.setBay_askUnbind {g h : Stage} {r : Option (Nat × Nat)} {l : Bool} (hb : y.binding = some e) :
    (s.setBay b y).askUnbind b g h r l =
      (s.setBay b { y with releasePending := true, level := 0, holdOff := none, lastStage := h }).askBay b
        (.unbind { entry := e, expected := g, new := h, rest := r, reboundLimit := l }) := by
  rw [State.askUnbind_bound (s := s.setBay b y) (e := e) (by rw [State.bay_setBay_same]; exact hb), State.bay_setBay_same,
    State.setBay_setBay]

theorem State.setBay_askStage {g h : Stage} {r : Option (Nat × Nat)} (hb : y.binding = some e) :
    (s.setBay b y).askStage b g h r =
      (s.setBay b { y with lastStage := h }).askBay b (.stage { entry := e, expected := g, new := h, rest := r }) := by
  rw [State.askStage_bound (s := s.setBay b y) (e := e) (by rw [State.bay_setBay_same]; exact hb), State.bay_setBay_same,
    State.setBay_setBay]

theorem satAdd_eq_five (n : Nat) : satAdd countMax n 1 = 5 ↔ n = 4 := by
  simp only [satAdd, countMax]
  omega

/-- A link loss of a bound bay (R61, R107, R108). -/
theorem State.takeFault_linkLost {g : RunState} (h : (s.bay b).binding = some e) (hk : (s.bay b).copies = some k)
    (hg : (s.bay b).enteredFrom = g.mode) : s.takeFault b .linkLost =
    if (s.bay b).faultCount = 4 ∧ (s.bay b).releasePending = false
      then (s.setBay b ((s.bay b).latched .linkLost (s.classCfg k.cls).shutT)).askUnbind b (s.bay b).lastStage .waiting none false
      else s.setBay b ((s.bay b).latched .linkLost (s.classCfg k.cls).shutT) := by
  rw [State.takeFault_latched h hk (retries_linkLost _ _ _), State.raiseFault, if_pos rfl]
  exact ite_of_iff (by rw [satAdd_eq_five]) _ _

/-! ### The link timeout -/

/-- The channel with its link lost (R61). -/
def Bay.linkLost (x : Bay) (n : Nat) : Bay := { x with link := .lost, periods := n, toggle := none }

/-- The link of a bay lost, with LINK attention (R61). -/
def State.lostLink (s : State) (b : BayId) : State :=
  (s.setBay b ((s.bay b).linkLost s.settings.timing.link)).raiseBay b .link

theorem State.loseLink_eq (s : State) (b : BayId) : s.loseLink b =
    (if (s.bay b).mode = .faulted then s.lostLink b else (s.lostLink b).takeFault b .linkLost).packLost b := rfl

theorem State.lostLink_bay (s : State) (b : BayId) : (s.lostLink b).bay b = (s.bay b).linkLost s.settings.timing.link := by
  rw [State.lostLink, State.raiseBay_bay, State.bay_setBay_same]

theorem State.lostLink_classCfg (s : State) (b : BayId) (k : ClassId) : (s.lostLink b).classCfg k = s.classCfg k := by
  simp [State.lostLink]

theorem exec_linkTimeout (hr : s.running = true) (hm : (s.bay b).mode ≠ .unconfigured) (hl : (s.bay b).link = .receiving) :
    exec (.linkTimeout b) s = .next (s.loseLink b) := by
  have he : exec (.linkTimeout b) s
      = .next (s.whenRunning (fun t => if (t.bay b).supervises then t.loseLink b else t)) := rfl
  rw [he, State.whenRunning_running _ hr, if_pos (by simp [Bay.supervises, hm, hl])]

/-- The channel of an unbound bay that loses its link (R61, R108). -/
theorem Bay.enterFaulted_unbound (hm : x.mode = .idle ∨ x.mode = .stopped) : x.enterFaulted c none = { x with
    mode := .faulted, level := 0, holdOff := none, blanking := 0, endCount := 0, restElapsed := 0, heldFrom := none
    retry := none, retryWait := 0, recovery := 0
    fault := some { cause := c, entered := x.mode, shutdown := none } } := by
  have hf : x.enteredFrom = x.mode := by
    unfold Bay.enteredFrom
    rcases hm with hm | hm <;> rw [hm]
  have hp : x.enteredFrom ≠ .probing ∧ x.enteredFrom ≠ .resting := by
    rw [hf]
    rcases hm with hm | hm <;> rw [hm] <;> decide
  rw [Bay.enterFaulted, if_neg hp.1, decide_eq_false hp.2, Bool.or_false, hf]

/-- The channel of a bound bay at its entry to FAULTED from a run state (R74, R108, R109). -/
def Bay.latchedFrom (x : Bay) (g : RunState) (c : FaultCause) (n : Nat) : Bay := { x with
    mode := .faulted, level := 0, holdOff := none, blanking := 0, endCount := 0, restElapsed := 0, heldFrom := none
    retry := none, retryWait := 0, recovery := 0
    fault := some { cause := c, entered := g.mode, shutdown := some (n : Int) }
    faultCount := min 65535 (x.faultCount + 1), stageOwed := x.stageOwed || decide (g = .resting)
    probe := if g = .probing then { x.probe with step := 1, count := 0, results := [], attempt := 1 } else x.probe }

theorem Bay.latched_eq {g : RunState} (hg : x.enteredFrom = g.mode) (n : Nat) : x.latched c n = x.latchedFrom g c n := by
  have hp : (x.enteredFrom = .probing ↔ g = .probing) ∧ (x.enteredFrom = .resting ↔ g = .resting) := by
    rw [hg]
    cases g <;> decide
  have hprobe : (if x.enteredFrom = .probing then x.probe.afterFault else x.probe)
      = if g = .probing then { x.probe with step := 1, count := 0, results := [], attempt := 1 } else x.probe :=
    ite_of_iff hp.1 _ _
  rw [Bay.latched, Bay.enterFaulted, hprobe, decide_eq_decide.mpr hp.2, hg]
  rfl

/-! ### The other times -/

theorem exec_holdOffExpiry {n : Nat} (hr : s.running = true) (hm : (s.bay b).mode = .active) (hh : (s.bay b).holdOff = some n) :
    exec (.holdOffExpiry b) s = .next (s.expireHoldOff b) := by
  have he : exec (.holdOffExpiry b) s
      = .next (s.whenRunning (fun t => if (t.bay b).inHoldOff then t.expireHoldOff b else t)) := rfl
  rw [he, State.whenRunning_running _ hr, if_pos (by simp [Bay.inHoldOff, hm, hh])]

theorem exec_restEnd (hr : s.running = true) (hm : (s.bay b).mode = .resting) (hp : (s.bay b).releasePending = false) :
    exec (.restEnd b) s = .next (s.endRest b) := by
  have he : exec (.restEnd b) s = .next (s.whenRunning (fun t => if (t.bay b).rests then t.endRest b else t)) := rfl
  rw [he, State.whenRunning_running _ hr, if_pos (by simp [Bay.rests, hm, hp])]

theorem exec_retryWaitElapsed (hr : s.running = true) (hm : (s.bay b).mode = .retrying) (hk : (s.bay b).retry = some .overcurrent)
    (hp : (s.bay b).releasePending = false) : exec (.retryWaitElapsed b) s = .next (s.endRetry b) := by
  have he : exec (.retryWaitElapsed b) s
      = .next (s.whenRunning (fun t => if (t.bay b).waitsRetry then t.endRetry b else t)) := rfl
  rw [he, State.whenRunning_running _ hr, if_pos (by simp [Bay.waitsRetry, hm, hk, hp])]

/-- The hold-off by the latest sample (R91). -/
theorem State.expireHoldOff_eq {l : Nat} (hl : (s.bay b).limit = some l) : s.expireHoldOff b =
    s.setBay b (if l < (s.bay b).latest.i
      then { (s.bay b).reduce (s.bayCfg b).toff with extensions := satAdd countMax (s.bay b).extensions 1 }
      else { s.bay b with holdOff := none }) := by
  unfold State.expireHoldOff State.modBay
  dsimp only
  congr 1
  split
  · next l' h =>
    obtain rfl : l' = l := Option.some.inj (h.symm.trans hl)
    rfl
  · next h => rw [h] at hl; cases hl

/-- A reduction of the level by one (R89, R90). -/
theorem Bay.reduce_blanks (x : Bay) (toff : Nat) : x.reduce toff = { x with
    level := x.level - 1, blanking := if x.level = 0 then x.blanking else 2, holdOff := some toff, openCount := 0 } := by
  by_cases h : x.level = 0
  · have hl : x.level - 1 = x.level := by omega
    rw [Bay.reduce, Bay.setLevel, if_pos hl, if_pos h, hl]
  · rw [Bay.reduce, Bay.setLevel, if_neg (by omega), if_neg h]

/-- The end of a rest, by the rebounded voltage (R96 to R98). -/
theorem State.endRest_eq (hk : (s.bay b).copies = some k) : s.endRest b =
    (let u := s.setBay b { s.bay b with restElapsed := (s.classCfg k.cls).restSec * 100 }
     let v := min 9000 (s.bay b).latest.v
     if v * 100 / k.cells ≤ (s.classCfg k.cls).safeV then u.askUnbind b .resting .discharged (some (v, (s.bay b).rebounds)) false
     else if (s.bay b).rebounds < s.settings.timing.rebound then
       (u.modBay b (fun y => { y.enterActive with rebounds := (s.bay b).rebounds + 1 })).askStage b .resting .discharging
         (some (v, (s.bay b).rebounds + 1))
     else u.askUnbind b .resting .waiting (some (v, (s.bay b).rebounds)) true).raiseBay b .stage := by
  unfold State.endRest
  dsimp only
  split
  · next h => rw [h] at hk; cases hk
  · next k' h =>
    obtain rfl : k' = k := Option.some.inj (h.symm.trans hk)
    rfl

/-- Settles O45: each time by the state and the timer it ends. -/
theorem bayTimesEnd : Obligations.BayTimesEnd := by
  intro s b hr
  have hlatest : ∀ w, (s.bay b).sample = some w → (s.bay b).latest = w := fun w hw => by rw [Bay.latest, hw]; rfl
  have hne : ∀ g : RunState, (s.bay b).mode = g.mode ∨ ((s.bay b).mode = .held ∧ (s.bay b).heldFrom = some g) →
      (s.bay b).mode ≠ .unconfigured ∧ (s.bay b).mode ≠ .faulted := by
    rintro g (h | ⟨h, -⟩) <;> rw [h]
    · cases g <;> decide
    · decide
  have hlost : ∀ (e : Entry) (c : Copies) (k : ClassCfg) (g : RunState),
      (s.bay b).mode = g.mode ∨ ((s.bay b).mode = .held ∧ (s.bay b).heldFrom = some g) → (s.bay b).binding = some e →
      (s.bay b).copies = some c → s.settings.classes.get c.cls = some k → (s.lostLink b).takeFault b .linkLost =
        if (s.bay b).faultCount = 4 ∧ (s.bay b).releasePending = false
          then ((s.lostLink b).setBay b (((s.bay b).linkLost s.settings.timing.link).latchedFrom g .linkLost k.shutT)).askUnbind b
            (s.bay b).lastStage .waiting none false
          else (s.lostLink b).setBay b (((s.bay b).linkLost s.settings.timing.link).latchedFrom g .linkLost k.shutT) := by
    intro e c k g hg hb hc hk
    rw [State.takeFault_linkLost (e := e) (k := c) (g := g) (by rw [State.lostLink_bay]; exact hb)
      (by rw [State.lostLink_bay]; exact hc) (by rw [State.lostLink_bay]; exact Bay.enteredFrom_eq hg), State.lostLink_bay,
      State.lostLink_classCfg, s.classCfg_eq _ k hk,
      Bay.latched_eq (g := g) (by exact Bay.enteredFrom_eq hg)]
    rfl
  refine ⟨fun hl => ⟨fun hm => ?_, fun hm hb => ?_, fun e c k g hg hb hc hk => ⟨fun hf => ?_, fun h4 hp => ?_⟩⟩,
    fun n limit w hm hh hlim hw => ⟨fun hi => ?_, fun hi => ?_⟩,
    fun e c k w hm hp hb hc hk hw => ⟨fun hv => ?_, fun hv hn => ?_, fun hv hn => ?_⟩, fun hm hk hp => ?_⟩
  · rw [exec_linkTimeout hr (by rw [hm]; decide) hl, State.loseLink_eq, if_pos hm]
    rfl
  · have hne : (s.bay b).mode ≠ .unconfigured ∧ (s.bay b).mode ≠ .faulted := by rcases hm with hm | hm <;> rw [hm] <;> decide
    rw [exec_linkTimeout hr hne.1 hl, State.loseLink_eq, if_neg hne.2, State.takeFault_unbound (by rw [State.lostLink_bay]; exact hb),
      State.raiseFault, if_pos rfl, State.lostLink_bay, Bay.enterFaulted_unbound (by exact hm)]
    rfl
  · rw [exec_linkTimeout hr (hne g hg).1 hl, State.loseLink_eq, if_neg (hne g hg).2, hlost e c k g hg hb hc hk, if_neg fun h =>
      hf.elim (fun n => n h.1) (fun n => by rw [h.2] at n; cases n)]
    rfl
  · rw [exec_linkTimeout hr (hne g hg).1 hl, State.loseLink_eq, if_neg (hne g hg).2, hlost e c k g hg hb hc hk, if_pos ⟨h4, hp⟩,
      State.setBay_askUnbind (e := e) (by exact hb)]
    rfl
  · rw [exec_holdOffExpiry hr hm hh, State.expireHoldOff_eq hlim, hlatest w hw, if_pos hi, Bay.reduce_blanks]
    rfl
  · rw [exec_holdOffExpiry hr hm hh, State.expireHoldOff_eq hlim, hlatest w hw, if_neg (by omega)]
  · rw [exec_restEnd hr hm hp, State.endRest_eq hc, s.classCfg_eq _ k hk, hlatest w hw]
    dsimp only
    rw [if_pos hv, State.setBay_askUnbind (e := e) (by exact hb)]
  · rw [exec_restEnd hr hm hp, State.endRest_eq hc, s.classCfg_eq _ k hk, hlatest w hw]
    dsimp only
    rw [if_neg (Nat.not_le.mpr hv), if_pos hn, State.modBay, State.bay_setBay_same, State.setBay_setBay,
      State.setBay_askStage (e := e) (by exact hb)]
    rfl
  · rw [exec_restEnd hr hm hp, State.endRest_eq hc, s.classCfg_eq _ k hk, hlatest w hw]
    dsimp only
    rw [if_neg (Nat.not_le.mpr hv), if_neg (Nat.not_lt.mpr hn), State.setBay_askUnbind (e := e) (by exact hb)]
  · rw [exec_retryWaitElapsed hr hm hk hp]
    rfl

/-! ### Frames without a sample -/

/-- Nothing follows a sync byte where there is none (log entry 14). -/
theorem fromSync_eq_nil {bytes : List Byte} : fromSync bytes = [] ↔ (0xC3 : Byte) ∉ bytes := by
  unfold fromSync
  induction bytes with
  | nil => simp
  | cons a l ih =>
    rw [List.dropWhile_cons]
    by_cases h : a = 0xC3
    · simp [h]
    · rw [if_pos (by simpa using h), ih]
      simp only [List.mem_cons, not_or]
      exact (and_iff_right (Ne.symm h)).symm

/-- Bytes on a bay link that hold a sync byte, in a running part (R192). -/
theorem exec_sampleFrame {bytes : List Byte} (hr : s.running = true) (hs : (0xC3 : Byte) ∈ bytes) :
    exec (.sampleFrame b bytes) s = .next (s.bayFrame b (fromSync bytes)) := by
  have he : exec (.sampleFrame b bytes) s = .next (s.onBayLink b bytes) := rfl
  have hp : s.phase = .running := by simpa [State.running] using hr
  have hne : fromSync bytes ≠ [] := by
    exact fun h => fromSync_eq_nil.mp h hs
  rw [he, State.onBayLink]
  split
  · next h => exact absurd h hne
  · rw [hp]

/-- A sample frame holds its sync byte (R58, R192). -/
theorem readSample_sync {bytes : List Byte} {f : SampleFrame} (h : readSample b (fromSync bytes) = some f) : (0xC3 : Byte) ∈ bytes := by
  refine Classical.byContradiction fun hn => ?_
  rw [fromSync_eq_nil.mpr hn] at h
  cases h

/-- The level in the command of a channel (R58, R63). -/
theorem Bay.heldLevel_eq (x : Bay) : x.heldLevel = if x.mode = .active ∨ x.mode = .retrying then x.level else 0 := by
  unfold Bay.heldLevel
  cases x.mode <;> rfl

/-- The probe step in the command of a channel (Table 10-2). -/
theorem Bay.heldStep_eq (x : Bay) : x.heldStep = if x.mode = .probing then x.probe.step else 0 := by
  unfold Bay.heldStep
  cases x.mode <;> rfl

/-- The answer kind of a bay state (Table 3-2). -/
theorem BayState.answerKind_eq (m : BayState) :
    m.answerKind = if m = .unconfigured ∨ m = .stopped ∨ m = .held ∨ m = .faulted then .stall else .ack := by
  cases m <;> rfl

/-- The answer to an accepted frame (R63). -/
theorem Bay.accepted_eq (x : Bay) : x.accepted = {
    kind := if x.mode = .unconfigured ∨ x.mode = .stopped ∨ x.mode = .held ∨ x.mode = .faulted then .stall else .ack
    level := if x.mode = .active ∨ x.mode = .retrying then x.level else 0
    step := if x.mode = .probing then x.probe.step else 0 } := by
  rw [Bay.accepted, x.heldLevel_eq, x.heldStep_eq, BayState.answerKind_eq]

/-- Settles O40: each frame by its checks, the state of the bay and its toggle. -/
theorem framesWithoutASampleAreAnswered : Obligations.FramesWithoutASampleAreAnswered := by
  intro s b bytes hr hs
  refine ⟨fun h => ?_, fun f h => ⟨fun hm => ?_, fun hm ht => ?_⟩⟩
  · have hd : (s.bay b).discarded = {
        kind := .nak, level := if (s.bay b).mode = .active ∨ (s.bay b).mode = .retrying then (s.bay b).level else 0
        step := if (s.bay b).mode = .probing then (s.bay b).probe.step else 0 } := by
      rw [Bay.discarded, Bay.heldLevel_eq, Bay.heldStep_eq]
    rw [exec_sampleFrame hr hs, State.bayFrame, h]
    dsimp only
    rw [State.discardFrame, State.modBay, hd]
    rfl
  · have ha : (s.bay b).accepted = { kind := .stall, level := 0, step := 0 } := by rw [Bay.accepted_eq, hm]; rfl
    rw [exec_sampleFrame hr hs, State.bayFrame, h]
    dsimp only
    rw [if_pos hm, State.answerFrame, State.modBay, ha]
  · rw [exec_sampleFrame hr hs, State.bayFrame, h]
    dsimp only
    rw [if_neg hm, if_pos ht, State.repeatFrame, State.answerFrame, State.modBay, State.modBay, State.bay_setBay_same,
      State.setBay_setBay, Bay.accepted_eq]
    rfl

end Sys2Proof.Machine
end

section
/-!
PROOFS. What the work of a bay frame leaves alone: details once pending stay pending until they are read (R188), and the work
on one channel leaves records, tallies, settings and lines.
-/

namespace Sys2Proof.Machine

variable {s t u : State} {b : BayId} {z : ZoneId} {x y : Bay} {e : Entry} {n : Nat}

/-! ### Pending details -/

/-- A detail of BAY(b) is pending on both ports. -/
def State.noted (b : BayId) (n : Nat) (t : State) : Prop := ∀ p, ((t.port p).attn.bays.get b).getLsbD n = true

/-- No pending detail of a bay goes (R188). -/
def State.Notes (s t : State) : Prop :=
  ∀ p b n, ((s.port p).attn.bays.get b).getLsbD n = true → ((t.port p).attn.bays.get b).getLsbD n = true

theorem State.Notes.refl (s : State) : s.Notes s := fun _ _ _ h => h

theorem State.Notes.trans (h : s.Notes t) (k : t.Notes u) : s.Notes u := fun p b n q => k p b n (h p b n q)

theorem State.Notes.of_ports (hl : t.line = s.line) (hp : t.plant = s.plant) : s.Notes t := fun p b n h => by
  cases p
  · rw [State.port, hl]; exact h
  · rw [State.port, hp]; exact h

theorem State.Notes.noted (h : s.Notes t) (k : s.noted b n) : t.noted b n := fun p => h p b n (k p)

theorem State.Notes.ite {p : Prop} [Decidable p] {v w : State} (h : s.Notes v) (k : s.Notes w) :
    s.Notes (if p then v else w) := by
  split
  · exact h
  · exact k

/-- A condition raised in a running part reaches both ports (R188). -/
theorem State.raise_attn (h : s.running = true) (f : Attn → Attn) (p : Port) : ((s.raise f).port p).attn = f (s.port p).attn := by
  rw [s.raise_eq h]
  cases p <;> rfl

theorem State.raise_notes (s : State) (f : Attn → Attn)
    (hf : ∀ a b n, (a.bays.get b).getLsbD n = true → ((f a).bays.get b).getLsbD n = true) : s.Notes (s.raise f) := by
  by_cases h : s.running = true
  · intro p b n hn
    rw [State.raise_attn h]
    exact hf _ _ _ hn
  · have hr : s.running = false := by simpa using h
    have he : s.raise f = s := by simp [State.raise, State.raisePort, hr]
    rw [he]
    exact .refl s

theorem State.raiseZone_notes (s : State) (z : ZoneId) (m : BitVec 32) : s.Notes (s.raiseZone z m) :=
  s.raise_notes _ fun _ _ _ h => h

theorem State.raiseFeed_notes (s : State) : s.Notes s.raiseFeed := s.raise_notes _ fun _ _ _ h => h

theorem State.raiseChamber_notes (s : State) : s.Notes s.raiseChamber := s.raise_notes _ fun _ _ _ h => h

theorem State.raiseBay_notes (s : State) (b : BayId) (d : BayDetail) : s.Notes (s.raiseBay b d) :=
  s.raise_notes _ fun a b' n h => by
    rw [Attn.addBay, Bank.get_set]
    split
    · next hb => rw [hb] at h; rw [BitVec.getLsbD_or, h, Bool.true_or]
    · exact h

/-- The place of a detail among those of a bay (R188). -/
def BayDetail.place : BayDetail → Nat
  | .hold => 0
  | .link => 1
  | .release => 2
  | .probe => 3
  | .stage => 4
  | .temp => 5
  | .fault => 6
  | .retry => 7
  | .energyLost => 8

theorem State.raiseBay_noted (h : s.running = true) (b : BayId) (d : BayDetail) : (s.raiseBay b d).noted b d.place := fun p => by
  have hd : d.bit.getLsbD d.place = true := by cases d <;> decide
  rw [State.raiseBay, State.raise_attn h, Attn.addBay, Bank.get_set_same, BitVec.getLsbD_or, hd, Bool.or_true]

theorem State.addHold_notes (s : State) (b : BayId) (c : HoldCause) : s.Notes (s.addHold b c) := by
  unfold State.addHold
  dsimp only
  split
  · exact .refl s
  · split
    · exact (State.Notes.of_ports (by rfl) (by rfl)).trans (State.raiseBay_notes _ _ _)
    · exact .of_ports (by rfl) (by rfl)

theorem State.evalAdmission_notes (s : State) : s.Notes s.evalAdmission := .of_ports (by simp) (by simp)

theorem State.feedChamberReport_notes (s : State) (g h : ChamberState) : s.Notes (s.feedChamberReport g h) := by
  have hret : s.Notes s.startReturn := by
    unfold State.startReturn
    split
    · exact .refl s
    · exact (State.Notes.of_ports (by simp) (by simp)).trans (State.raiseFeed_notes _)
  unfold State.feedChamberReport
  refine State.Notes.trans ?_ (State.evalAdmission_notes _)
  refine .ite ?_ (.refl s)
  split
  iterate 3 exact hret
  all_goals exact .of_ports (by rfl) (by rfl)

theorem State.enterChamber_notes (s : State) (g : ChamberState) : s.Notes (s.enterChamber g) := by
  unfold State.enterChamber
  exact .ite (.refl s) (((State.Notes.of_ports (by rfl) (by rfl)).trans (State.raiseChamber_notes _)).trans (State.feedChamberReport_notes _ _ _))

theorem State.chamberFire_notes (s : State) : s.Notes s.chamberFire := by
  unfold State.chamberFire
  exact .ite (.refl s) ((State.Notes.of_ports (by rfl) (by rfl)).trans (State.enterChamber_notes _ _))

theorem State.enterAlarm_notes (s : State) (z : ZoneId) : s.Notes (s.enterAlarm z) := by
  have hfold : ∀ (l : List BayId) (s : State), s.Notes (l.foldl (fun t b => t.addHold b .zoneAlarm) s) := by
    intro l
    induction l with
    | nil => exact fun s => .refl s
    | cons b l ih => exact fun s => (s.addHold_notes b .zoneAlarm).trans (ih _)
  unfold State.enterAlarm
  dsimp only
  refine State.Notes.trans ?_ (State.raiseZone_notes _ _ _)
  have hfire : ∀ v : State, v.Notes (if z = 6 then v.chamberFire else v) := fun v => .ite v.chamberFire_notes (.refl v)
  have hfeed : ∀ v : State, v.Notes (if z = 4 ∨ z = 5 ∨ z = 6 then v.feedZoneAlarm z else v) := fun v =>
    .ite (.of_ports (by rfl) (by rfl)) (.refl v)
  have hsweep : s.Notes (if (s.zone z).sweepWaiting then s
      else (s.setZone z { s.zone z with sweepWaiting := true }).askSweep z) := .ite (.refl s) (.of_ports (by simp) (by simp))
  exact ((hsweep.trans (hfold _ _)).trans (hfeed _)).trans (hfire _)

theorem State.vote_notes (s : State) (z : ZoneId) : s.Notes (s.vote z) := by
  have hzone : ∀ y : Zone, s.Notes (s.setZone z y) := fun y => .of_ports (by rfl) (by rfl)
  unfold State.vote
  dsimp only
  have hraise : ∀ (y : Zone) (p : Prop) [Decidable p], s.Notes (if p then s.setZone z y else (s.setZone z y).raiseZone z 0) :=
    fun y p _ => .ite (hzone y) ((hzone y).trans (State.raiseZone_notes _ _ _))
  exact .ite ((hraise _ _).trans (State.enterAlarm_notes _ _)) (hraise _ _)

theorem State.channelMoved_notes (s : State) (z : ZoneId) (m : BitVec 32) (g h : ChanState) : s.Notes (s.channelMoved z m g h) := by
  unfold State.channelMoved
  exact .ite (.refl s) ((State.raiseZone_notes _ _ _).trans (State.vote_notes _ _))

theorem State.packReading_notes (s : State) (b : BayId) (v : Int) : s.Notes (s.packReading b v) := by
  have hmove : ∀ c d, s.Notes (s.movePack b c d) := fun c d =>
    (State.Notes.of_ports (by rfl) (by rfl)).trans (State.channelMoved_notes _ _ _ _ _)
  unfold State.packReading
  split
  · exact .ite (hmove _ _) (hmove _ _)
  · exact .refl s

/-! ### The work on one channel -/

/-- What the work on a channel leaves, but for that channel, the arbiter and attention. -/
structure State.Works (s t : State) : Prop where
  settings : t.settings = s.settings
  lines : t.lines = s.lines
  slots : t.slots = s.slots
  tallies : t.tallies = s.tallies
  running : t.running = s.running
  notes : s.Notes t

theorem State.Works.refl (s : State) : s.Works s := ⟨rfl, rfl, rfl, rfl, rfl, .refl s⟩

theorem State.Works.trans (h : s.Works t) (k : t.Works u) : s.Works u :=
  ⟨k.settings.trans h.settings, k.lines.trans h.lines, k.slots.trans h.slots, k.tallies.trans h.tallies,
    k.running.trans h.running, h.notes.trans k.notes⟩

theorem State.setBay_works (s : State) (b : BayId) (y : Bay) : s.Works (s.setBay b y) :=
  ⟨rfl, rfl, rfl, rfl, rfl, .of_ports (by rfl) (by rfl)⟩

theorem State.modBay_works (s : State) (b : BayId) (f : Bay → Bay) : s.Works (s.modBay b f) := s.setBay_works b _

theorem State.raiseBay_works (s : State) (b : BayId) (d : BayDetail) : s.Works (s.raiseBay b d) :=
  ⟨by simp, by simp, by simp, by simp, by simp, s.raiseBay_notes b d⟩

theorem State.askBay_works (s : State) (b : BayId) (w : BayWrite) : s.Works (s.askBay b w) :=
  ⟨by simp, by simp, by simp, by simp, by simp, .of_ports (by simp) (by simp)⟩

theorem State.Works.ite {p : Prop} [Decidable p] {v w : State} (h : s.Works v) (k : s.Works w) :
    s.Works (if p then v else w) := by
  split
  · exact h
  · exact k

theorem State.askFlag_works (s : State) (b : BayId) (f : HazardFlag) : s.Works (s.askFlag b f) := by
  unfold State.askFlag
  split
  · exact s.askBay_works b _
  · exact .refl s

theorem State.askStage_works (s : State) (b : BayId) (g h : Stage) (r : Option (Nat × Nat)) : s.Works (s.askStage b g h r) := by
  unfold State.askStage
  split
  · exact (s.modBay_works b _).trans (State.askBay_works _ _ _)
  · exact .refl s

theorem State.askUnbind_works (s : State) (b : BayId) (g h : Stage) (r : Option (Nat × Nat)) (l : Bool) :
    s.Works (s.askUnbind b g h r l) := by
  unfold State.askUnbind
  split
  · exact (s.modBay_works b _).trans (State.askBay_works _ _ _)
  · exact .refl s

theorem State.computeLimit_works (s : State) (b : BayId) : s.Works (s.computeLimit b) := by
  obtain ⟨o, h⟩ := s.computeLimit_eq b
  rw [h]
  exact s.modBay_works b _

theorem State.raiseFault_works (s : State) (b : BayId) (c : FaultCause) : s.Works (s.raiseFault b c) :=
  .ite (.refl s) (s.raiseBay_works b .fault)

theorem State.takeFault_works (s : State) (b : BayId) (c : FaultCause) : s.Works (s.takeFault b c) := by
  unfold State.takeFault
  dsimp only
  split
  · split
    · exact (s.setBay_works b _).trans (State.raiseFault_works _ _ _)
    · exact (State.Works.ite ((s.setBay_works b _).trans (State.askUnbind_works _ _ _ _ _ _)) (s.setBay_works b _)).trans
        (State.raiseFault_works _ _ _)
  · exact (s.setBay_works b _).trans (State.raiseFault_works _ _ _)

theorem State.endRetry_works (s : State) (b : BayId) : s.Works (s.endRetry b) :=
  (s.modBay_works b _).trans (State.raiseBay_works _ _ _)

theorem State.askCarries_works (s : State) (b : BayId) (e : Entry) (n : Nat) : s.Works (s.askCarries b e n) := by
  have hw : ∀ (v : State) (g : Engine), v.Works (v.wake g) := fun v g =>
    ⟨by simp, by simp, by simp, by simp, by simp, .of_ports (by simp) (by simp)⟩
  have h1 : s.Works (if min n (countMax - (s.bay b).waitingCarries) = 0 then s else
      (s.modBay b (fun x => { x with writes := x.writes ++ List.replicate (min n (countMax - (s.bay b).waitingCarries)) (.carry e) })).wake
        (.bay b)) := .ite (.refl s) ((s.modBay_works b _).trans (hw _ _))
  unfold State.askCarries
  exact .ite (h1.trans (State.raiseBay_works _ _ _)) h1

theorem State.integrate_works (s : State) (b : BayId) (p : Sample) (g : Nat) : s.Works (s.integrate b p g) := by
  unfold State.integrate
  split
  · exact .refl s
  · exact (s.modBay_works b _).trans (State.askCarries_works _ _ _ _)

theorem State.trackTemp_works (s : State) (b : BayId) (v : Int) : s.Works (s.trackTemp b v) := by
  unfold State.trackTemp
  split
  · exact .refl s
  · dsimp only
    have h1 : ∀ (p : Prop) [Decidable p] (w : Bool), s.Works (if p then s
        else ((s.modBay b (fun y => { y with warning := w })).computeLimit b).raiseBay b .temp) := fun p _ w =>
      .ite (.refl s) (((s.modBay_works b _).trans (State.computeLimit_works _ _)).trans (State.raiseBay_works _ _ _))
    exact .ite (((h1 _ _).trans (State.modBay_works _ _ _)).trans (State.askFlag_works _ _ _))
      ((h1 _ _).trans (State.modBay_works _ _ _))

theorem State.testBound_works (s : State) (b : BayId) (p : Sample) : s.Works (s.testBound b p) := by
  unfold State.testBound
  dsimp only
  split
  · exact .refl s
  · split
    · exact s.takeFault_works b _
    · exact .ite (((s.modBay_works b _).trans (State.askFlag_works _ _ _)).trans (State.takeFault_works _ _ _)) (s.modBay_works b _)

theorem State.testUnbound_works (s : State) (b : BayId) (p : Sample) : s.Works (s.testUnbound b p) := by
  unfold State.testUnbound
  split
  iterate 2 exact .ite (s.takeFault_works b _) (.ite (s.takeFault_works b _) (.refl s))
  all_goals exact .refl s

theorem State.failProbe_works (s : State) (b : BayId) (o : ProbeOutcome) : s.Works (s.failProbe b o) := by
  unfold State.failProbe
  dsimp only
  have h2 := (s.setBay_works b { s.bay b with probe := (s.bay b).probe.restart }).trans
    (State.modBay_works _ b (fun y => y.probeFaulted o.cause))
  exact .ite (s.setBay_works b _) (.ite h2 (h2.trans (State.askUnbind_works _ _ _ _ _ _)))

theorem State.endProbe_works (s : State) (b : BayId) (o : ProbeOutcome) : s.Works (s.endProbe b o) := by
  have h1 := (s.modBay_works b (fun x => { x with probe := { x.probe with last := some o } })).trans
    (State.raiseBay_works _ b .probe)
  have hleak := (((h1.trans (State.modBay_works _ b (fun x => { x with isoDerate := true }))).trans
    (State.computeLimit_works _ b)).trans (State.askFlag_works _ b .isolationFault)).trans (State.modBay_works _ b Bay.enterActive)
  unfold State.endProbe
  cases o
  case normal => exact (h1.trans (State.modBay_works _ _ _)).trans (State.askStage_works _ _ _ _ _)
  case leakNeg | leakPos => exact hleak.trans (State.askStage_works _ _ _ _ _)
  case opened | inconsistent => exact h1.trans (State.failProbe_works _ _ _)

theorem State.workFrame_works (s : State) (b : BayId) (p : Sample) : s.Works (s.workFrame b p) := by
  have hprobe : s.Works (s.probeFrame b p.comparator) :=
    .ite (s.modBay_works b _) (.ite (s.modBay_works b _) ((s.modBay_works b _).trans (State.endProbe_works _ _ _)))
  have hactive : s.Works (s.activeFrame b p) := by
    unfold State.activeFrame
    dsimp only
    split
    · exact .refl s
    · exact .ite (((s.modBay_works b _).trans (State.askStage_works _ _ _ _ _)).trans (State.raiseBay_works _ _ _))
        ((s.modBay_works b _).trans (State.modBay_works _ _ _))
  have hretry : s.Works (s.retryFrame b p) := by
    unfold State.retryFrame
    dsimp only
    split
    · exact .ite (s.endRetry_works b) (.refl s)
    · exact .ite (s.endRetry_works b) (s.modBay_works b _)
    · exact .refl s
  unfold State.workFrame
  refine .ite (.refl s) ?_
  split
  · exact hprobe
  · exact hactive
  · exact hretry
  all_goals exact .refl s

end Sys2Proof.Machine
end

section
/-!
PROOFS. A fresh frame: its sample, its energy and the link it restores (R59, R60, R62, R77 to R80, R109).
-/

namespace Sys2Proof.Machine

variable {s t u : State} {b : BayId} {z : ZoneId} {x y : Bay} {e : Entry} {n : Nat} {f : SampleFrame} {p : Sample}

/-! ### The sample taken -/

/-- The channel with a fresh sample on a restored link (R59, R60, R62, R77). -/
def Bay.sampled (x : Bay) (f : SampleFrame) : Bay :=
  { x with link := .receiving, toggle := some f.toggle, periods := 0, sample := some f.sample }

/-- The state with a fresh sample taken (R62, R77). -/
def State.sampled (s : State) (b : BayId) (f : SampleFrame) : State := (s.restoreLink b).takeSample b f

theorem State.endLinkLoss_works (s : State) (b : BayId) : s.Works (s.endLinkLoss b) :=
  .ite (s.setBay_works b _) (.refl s)

theorem State.sampled_works (s : State) (b : BayId) (f : SampleFrame) : s.Works (s.sampled b f) := by
  have h1 : s.Works (s.restoreLink b) := by
    unfold State.restoreLink
    exact .ite (((s.endLinkLoss_works b).trans (State.modBay_works _ _ _)).trans (State.raiseBay_works _ _ _)) (s.endLinkLoss_works b)
  unfold State.sampled State.takeSample
  exact h1.trans (State.modBay_works _ _ _)

theorem State.endLinkLoss_link (s : State) (b : BayId) : ((s.endLinkLoss b).bay b).link = (s.bay b).link := by
  unfold State.endLinkLoss
  dsimp only
  split
  · rw [State.bay_setBay_same]
  · rfl

theorem State.sampled_bay (s : State) (b : BayId) (f : SampleFrame) :
    (s.sampled b f).bay b = ((s.endLinkLoss b).bay b).sampled f := by
  unfold State.sampled State.takeSample State.restoreLink
  dsimp only
  by_cases h : (s.bay b).link = .lost
  · rw [if_pos h, State.modBay, State.bay_setBay_same, State.raiseBay_bay, State.modBay, State.bay_setBay_same]
    rfl
  · have hl : ((s.endLinkLoss b).bay b).link = .receiving := by
      rw [State.endLinkLoss_link]
      cases hk : (s.bay b).link
      · rfl
      · exact absurd hk h
    rw [if_neg h, State.modBay, State.bay_setBay_same, Bay.sampled, ← hl]

theorem State.sampled_noted (hr : s.running = true) (hl : (s.bay b).link = .lost) : (s.sampled b f).noted b 1 := by
  have h : (s.restoreLink b).noted b 1 := by
    unfold State.restoreLink
    dsimp only
    rw [if_pos hl]
    exact State.raiseBay_noted (by rw [State.modBay, State.setBay_running, (s.endLinkLoss_works b).running]; exact hr) b .link
  unfold State.sampled State.takeSample
  exact (State.modBay_works _ _ _).notes.noted h

/-! ### The energy -/

/-- The channel with the energy of a sample (R79, R80). -/
def Bay.metered (x : Bay) (e : Entry) (p : Sample) (g : Nat) : Bay :=
  { x with
    frac := (x.frac + energyStep p g) % wattHour
    writes := x.writes ++ List.replicate (min ((x.frac + energyStep p g) / wattHour) (countMax - x.waitingCarries)) (.carry e) }

theorem State.askCarries_bay (s : State) (b : BayId) (e : Entry) (n : Nat) : (s.askCarries b e n).bay b =
    { s.bay b with writes := (s.bay b).writes ++ List.replicate (min n (countMax - (s.bay b).waitingCarries)) (.carry e) } := by
  unfold State.askCarries
  dsimp only
  have h1 : (if min n (countMax - (s.bay b).waitingCarries) = 0 then s else
      (s.modBay b (fun x => { x with writes := x.writes ++ List.replicate (min n (countMax - (s.bay b).waitingCarries)) (.carry e) })).wake
        (.bay b)).bay b =
      { s.bay b with writes := (s.bay b).writes ++ List.replicate (min n (countMax - (s.bay b).waitingCarries)) (.carry e) } := by
    split
    · next h => rw [h, List.replicate_zero, List.append_nil]
    · rw [State.wake_bay, State.modBay, State.bay_setBay_same]
  split
  · rw [State.raiseBay_bay, h1]
  · exact h1

theorem State.integrate_bay (h : (s.bay b).binding = some e) (p : Sample) (g : Nat) :
    (s.integrate b p g).bay b = (s.bay b).metered e p g := by
  unfold State.integrate
  split
  · next hn => rw [hn] at h; cases h
  · next e' he =>
    obtain rfl : e' = e := Option.some.inj (he.symm.trans h)
    dsimp only
    rw [State.askCarries_bay, State.modBay, State.bay_setBay_same]
    rfl

theorem State.integrate_unbound (h : (s.bay b).binding = none) (p : Sample) (g : Nat) : s.integrate b p g = s := by
  unfold State.integrate
  rw [h]

/-! ### The work after the energy -/

/-- What the protections and the work of a bay's state leave of the channel, and the writes they ask for: no carries,
and none on an unbound channel (R78). -/
structure State.Serves (b : BayId) (s t : State) : Prop where
  sample : (t.bay b).sample = (s.bay b).sample
  toggle : (t.bay b).toggle = (s.bay b).toggle
  periods : (t.bay b).periods = (s.bay b).periods
  link : (t.bay b).link = (s.bay b).link
  frac : (t.bay b).frac = (s.bay b).frac
  binding : (t.bay b).binding = (s.bay b).binding
  writes : ∃ more, (t.bay b).writes = (s.bay b).writes ++ more ∧ (∀ w ∈ more, w.isCarry = false)
    ∧ ((s.bay b).binding = none → more = [])

theorem State.Serves.refl (s : State) : s.Serves b s :=
  ⟨rfl, rfl, rfl, rfl, rfl, rfl, [], (List.append_nil _).symm, fun _ h => absurd h List.not_mem_nil, fun _ => rfl⟩

theorem State.Serves.trans (h : s.Serves b t) (k : t.Serves b u) : s.Serves b u := by
  obtain ⟨m, hm, hc, hu⟩ := h.writes
  obtain ⟨m', hm', hc', hu'⟩ := k.writes
  exact ⟨k.sample.trans h.sample, k.toggle.trans h.toggle, k.periods.trans h.periods, k.link.trans h.link, k.frac.trans h.frac,
    k.binding.trans h.binding, m ++ m', by rw [hm', hm, List.append_assoc], fun w hw => (List.mem_append.mp hw).elim (hc w) (hc' w),
    fun hb => by rw [hu hb, hu' (h.binding.trans hb), List.append_nil]⟩

theorem State.Serves.of_bay (h : t.bay b = s.bay b) : s.Serves b t :=
  ⟨by rw [h], by rw [h], by rw [h], by rw [h], by rw [h], by rw [h], [], by rw [h, List.append_nil],
    fun _ h => absurd h List.not_mem_nil, fun _ => rfl⟩

theorem State.Serves.ite {q : Prop} [Decidable q] {v w : State} (h : s.Serves b v) (k : s.Serves b w) :
    s.Serves b (if q then v else w) := by
  split
  · exact h
  · exact k

/-- A channel replaced by one with the same sample, link, accumulator and writes. -/
theorem State.setBay_serves (h1 : y.sample = (s.bay b).sample) (h2 : y.toggle = (s.bay b).toggle)
    (h3 : y.periods = (s.bay b).periods) (h4 : y.link = (s.bay b).link) (h5 : y.frac = (s.bay b).frac)
    (h6 : y.writes = (s.bay b).writes) (h7 : y.binding = (s.bay b).binding) : s.Serves b (s.setBay b y) := by
  have hb : (s.setBay b y).bay b = y := State.bay_setBay_same ..
  exact ⟨by rw [hb, h1], by rw [hb, h2], by rw [hb, h3], by rw [hb, h4], by rw [hb, h5], by rw [hb, h7],
    [], by rw [hb, h6, List.append_nil], fun _ h => absurd h List.not_mem_nil, fun _ => rfl⟩

theorem State.raiseBay_serves (s : State) (d : BayDetail) : s.Serves b (s.raiseBay b d) := .of_bay (by simp)

theorem State.askBay_serves {w : BayWrite} (hb : (s.bay b).binding = some e) (h : w.isCarry = false) : s.Serves b (s.askBay b w) := by
  refine ⟨?_, ?_, ?_, ?_, ?_, ?_, [w], ?_, fun v hv => (List.mem_singleton.mp hv) ▸ h, fun hn => by rw [hb] at hn; cases hn⟩ <;>
    rw [State.askBay_bay_same]

theorem State.askFlag_serves (s : State) (g : HazardFlag) : s.Serves b (s.askFlag b g) := by
  unfold State.askFlag
  split
  · next hb => exact State.askBay_serves hb rfl
  · exact .refl s

theorem State.computeLimit_serves (s : State) : s.Serves b (s.computeLimit b) := by
  obtain ⟨o, h⟩ := s.computeLimit_eq b
  rw [h]
  exact State.setBay_serves (by rfl) (by rfl) (by rfl) (by rfl) (by rfl) (by rfl) (by rfl)

theorem State.raiseFault_serves (s : State) (c : FaultCause) : s.Serves b (s.raiseFault b c) := .ite (.refl s) (s.raiseBay_serves .fault)

/-- Two channels with the same sample, link, accumulator and writes. -/
def Bay.alike (x y : Bay) : Prop :=
  y.sample = x.sample ∧ y.toggle = x.toggle ∧ y.periods = x.periods ∧ y.link = x.link ∧ y.frac = x.frac ∧ y.writes = x.writes
    ∧ y.binding = x.binding

theorem Bay.alike.refl (x : Bay) : x.alike x := ⟨rfl, rfl, rfl, rfl, rfl, rfl, rfl⟩

theorem State.modBay_serves {g : Bay → Bay} (h : (s.bay b).alike (g (s.bay b))) : s.Serves b (s.modBay b g) :=
  by
  obtain ⟨h1, h2, h3, h4, h5, h6, h7⟩ := h
  exact State.setBay_serves h1 h2 h3 h4 h5 h6 h7

theorem State.modBay_serves_rfl {g : Bay → Bay} (h : ∀ x : Bay, x.alike (g x) := by exact fun x => ⟨rfl, rfl, rfl, rfl, rfl, rfl, rfl⟩) :
    s.Serves b (s.modBay b g) := State.modBay_serves (h _)

theorem State.askStage_serves (s : State) (g h : Stage) (r : Option (Nat × Nat)) : s.Serves b (s.askStage b g h r) := by
  unfold State.askStage
  split
  · next e he =>
    refine State.Serves.trans State.modBay_serves_rfl (State.askBay_serves (e := e) ?_ rfl)
    rw [State.modBay, State.bay_setBay_same]
    exact he
  · exact .refl s

theorem State.askUnbind_serves (s : State) (g h : Stage) (r : Option (Nat × Nat)) (l : Bool) :
    s.Serves b (s.askUnbind b g h r l) := by
  unfold State.askUnbind
  split
  · next e he =>
    refine State.Serves.trans State.modBay_serves_rfl (State.askBay_serves (e := e) ?_ rfl)
    rw [State.modBay, State.bay_setBay_same]
    exact he
  · exact .refl s

theorem State.takeFault_serves (s : State) (c : FaultCause) : s.Serves b (s.takeFault b c) := by
  have hset : ∀ (c : FaultCause) (o : Option Int) (n : Nat),
      s.Serves b (s.setBay b { (s.bay b).enterFaulted c o with faultCount := n }) := fun _ _ _ =>
    State.setBay_serves (by rfl) (by rfl) (by rfl) (by rfl) (by rfl) (by rfl) (by rfl)
  unfold State.takeFault
  dsimp only
  split
  · split
    · exact (State.setBay_serves (by rfl) (by rfl) (by rfl) (by rfl) (by rfl) (by rfl) (by rfl)).trans (State.raiseFault_serves _ _)
    · exact (State.Serves.ite ((hset _ _ _).trans (State.askUnbind_serves _ _ _ _ _)) (hset _ _ _)).trans (State.raiseFault_serves _ _)
  · exact (State.setBay_serves (by rfl) (by rfl) (by rfl) (by rfl) (by rfl) (by rfl) (by rfl)).trans (State.raiseFault_serves _ _)

theorem Bay.setLevel_alike (x : Bay) (l : Nat) : x.alike (x.setLevel l) := by
  unfold Bay.setLevel
  split
  · exact .refl x
  · exact ⟨rfl, rfl, rfl, rfl, rfl, rfl, rfl⟩

theorem Bay.regulate_alike (x : Bay) (limit cap toff v endV i : Nat) : x.alike (x.regulate limit cap toff v endV i) := by
  unfold Bay.regulate
  split
  · exact x.setLevel_alike _
  · split
    · exact x.setLevel_alike _
    · exact .refl x

theorem State.regulator_serves (s : State) (p : Sample) (cells endV : Nat) : s.Serves b (s.regulator b p cells endV) := by
  unfold State.regulator
  refine State.modBay_serves ?_
  split
  · exact ⟨rfl, rfl, rfl, rfl, rfl, rfl, rfl⟩
  · split
    · exact Bay.regulate_alike _ _ _ _ _ _ _
    · exact .refl _

theorem State.endRetry_serves (s : State) : s.Serves b (s.endRetry b) :=
  (State.modBay_serves_rfl).trans (State.raiseBay_serves _ _)

theorem State.trackTemp_serves (s : State) (v : Int) : s.Serves b (s.trackTemp b v) := by
  unfold State.trackTemp
  split
  · exact .refl s
  · dsimp only
    have h1 : ∀ (q : Prop) [Decidable q] (w : Bool), s.Serves b (if q then s
        else ((s.modBay b (fun y => { y with warning := w })).computeLimit b).raiseBay b .temp) := fun q _ w =>
      .ite (.refl s) (((State.modBay_serves_rfl).trans (State.computeLimit_serves _)).trans (State.raiseBay_serves _ _))
    exact .ite (((h1 _ _).trans State.modBay_serves_rfl).trans (State.askFlag_serves _ _)) ((h1 _ _).trans State.modBay_serves_rfl)

theorem State.testBound_serves (s : State) (p : Sample) : s.Serves b (s.testBound b p) := by
  unfold State.testBound
  dsimp only
  split
  · exact .refl s
  · split
    · exact s.takeFault_serves _
    · exact .ite (((State.modBay_serves_rfl).trans (State.askFlag_serves _ _)).trans (State.takeFault_serves _ _)) State.modBay_serves_rfl

theorem State.testUnbound_serves (s : State) (p : Sample) : s.Serves b (s.testUnbound b p) := by
  unfold State.testUnbound
  split
  iterate 2 exact .ite (s.takeFault_serves _) (.ite (s.takeFault_serves _) (.refl s))
  all_goals exact .refl s

theorem State.protect_serves (s : State) (p : Sample) : s.Serves b (s.protect b p) :=
  .ite ((s.trackTemp_serves p.t).trans (State.testBound_serves _ p)) (s.testUnbound_serves p)

theorem State.failProbe_serves (s : State) (o : ProbeOutcome) : s.Serves b (s.failProbe b o) := by
  have h2 : s.Serves b ((s.setBay b { s.bay b with probe := (s.bay b).probe.restart }).modBay b (fun y => y.probeFaulted o.cause)) :=
    State.Serves.trans (State.setBay_serves (by rfl) (by rfl) (by rfl) (by rfl) (by rfl) (by rfl) (by rfl)) State.modBay_serves_rfl
  unfold State.failProbe
  dsimp only
  exact .ite (State.setBay_serves rfl rfl rfl rfl rfl rfl rfl) (.ite h2 (h2.trans (State.askUnbind_serves _ _ _ _ _)))

theorem State.endProbe_serves (s : State) (o : ProbeOutcome) : s.Serves b (s.endProbe b o) := by
  have h1 : s.Serves b ((s.modBay b (fun x => { x with probe := { x.probe with last := some o } })).raiseBay b .probe) :=
    (State.modBay_serves_rfl).trans (State.raiseBay_serves _ _)
  unfold State.endProbe
  dsimp only
  revert h1
  generalize (s.modBay b (fun x => { x with probe := { x.probe with last := some o } })).raiseBay b .probe = v
  intro h1
  have hleak : s.Serves b ((((v.modBay b (fun x => { x with isoDerate := true })).computeLimit b).askFlag b .isolationFault).modBay b
      Bay.enterActive) :=
    (((h1.trans State.modBay_serves_rfl).trans (State.computeLimit_serves _)).trans (State.askFlag_serves _ _)).trans
      State.modBay_serves_rfl
  cases o
  case normal => exact (h1.trans State.modBay_serves_rfl).trans (State.askStage_serves _ _ _ _)
  case leakNeg | leakPos => exact hleak.trans (State.askStage_serves _ _ _ _)
  case opened | inconsistent => exact h1.trans (State.failProbe_serves _ _)

theorem State.workFrame_serves (s : State) (p : Sample) : s.Serves b (s.workFrame b p) := by
  have hprobe : s.Serves b (s.probeFrame b p.comparator) := by
    unfold State.probeFrame
    dsimp only
    exact .ite State.modBay_serves_rfl (.ite State.modBay_serves_rfl ((State.modBay_serves_rfl).trans (State.endProbe_serves _ _)))
  have hactive : s.Serves b (s.activeFrame b p) := by
    unfold State.activeFrame
    dsimp only
    split
    · exact .refl s
    · exact .ite (((State.modBay_serves_rfl).trans (State.askStage_serves _ _ _ _)).trans (State.raiseBay_serves _ _))
        ((State.modBay_serves_rfl).trans (State.regulator_serves _ _ _ _))
  have hretry : s.Serves b (s.retryFrame b p) := by
    unfold State.retryFrame
    dsimp only
    split
    · exact .ite s.endRetry_serves (.refl s)
    · exact .ite s.endRetry_serves State.modBay_serves_rfl
    · exact .refl s
  unfold State.workFrame
  refine .ite (.refl s) ?_
  split
  · exact hprobe
  · exact hactive
  · exact hretry
  all_goals exact .refl s

/-! ### The pack-temperature channel after the answer -/

/-- The channel without what a hold and the pack-temperature channel change. -/
def Bay.steady (x : Bay) : Bay :=
  { x with mode := .unconfigured, holds := {}, heldFrom := none, level := 0, holdOff := none, blanking := 0, fault := none, pack := none }

theorem State.addHold_steady (s : State) (a b : BayId) (c : HoldCause) : ((s.addHold a c).bay b).steady = (s.bay b).steady := by
  by_cases h : b = a
  · subst h
    unfold State.addHold
    dsimp only
    split
    · rfl
    · split
      · rw [State.raiseBay_bay, State.bay_setBay_same]; rfl
      · rw [State.bay_setBay_same]; rfl
  · rw [State.addHold_bay_other _ _ _ _ h]

theorem State.enterAlarm_steady (s : State) (z : ZoneId) (b : BayId) : ((s.enterAlarm z).bay b).steady = (s.bay b).steady := by
  have hfold := foldl_frame (fun t => (t.bay b).steady) (fun (t : State) (a : BayId) => t.addHold a .zoneAlarm)
    (fun t a => t.addHold_steady a b .zoneAlarm) (zoneBays z)
  unfold State.enterAlarm
  dsimp only
  repeat' split
  all_goals simp [hfold]

theorem State.vote_steady (s : State) (z : ZoneId) (b : BayId) : ((s.vote z).bay b).steady = (s.bay b).steady := by
  unfold State.vote
  dsimp only
  repeat' split
  all_goals simp [State.enterAlarm_steady]

theorem State.movePack_steady (s : State) (b : BayId) (c d : Chan) : ((s.movePack b c d).bay b).steady = (s.bay b).steady := by
  unfold State.movePack State.channelMoved
  split
  · rw [State.modBay, State.bay_setBay_same]; rfl
  · rw [State.vote_steady, State.raiseZone_bay, State.modBay, State.bay_setBay_same]; rfl

theorem State.packReading_steady (s : State) (b : BayId) (v : Int) : ((s.packReading b v).bay b).steady = (s.bay b).steady := by
  unfold State.packReading
  split
  · split
    · exact State.movePack_steady _ _ _ _
    · exact State.movePack_steady _ _ _ _
  · rfl

theorem State.packReading_serves (s : State) (b : BayId) (v : Int) : s.Serves b (s.packReading b v) := by
  have h := s.packReading_steady b v
  exact ⟨(congrArg Bay.sample h :), (congrArg Bay.toggle h :), (congrArg Bay.periods h :), (congrArg Bay.link h :),
    (congrArg Bay.frac h :), (congrArg Bay.binding h :), [], ((congrArg Bay.writes h :).trans (List.append_nil _).symm),
    fun _ h => absurd h List.not_mem_nil, fun _ => rfl⟩

/-- The vote of a zone leaves an unbound bay (R164). -/
theorem State.vote_unbound (s : State) (z : ZoneId) (h : (s.bay b).binding = none) : (s.vote z).bay b = s.bay b := by
  have hhold : ∀ (l : List BayId) (t : State), t.bay b = s.bay b → (l.foldl (fun t a => t.addHold a .zoneAlarm) t).bay b = s.bay b := by
    intro l
    induction l with
    | nil => exact fun t ht => ht
    | cons a l ih =>
      intro t ht
      refine ih _ ?_
      change (t.addHold a .zoneAlarm).bay b = s.bay b
      by_cases hab : b = a
      · subst hab
        rw [State.addHold_unbound (by rw [ht]; exact h), ht]
      · rw [State.addHold_bay_other _ _ _ _ hab, ht]
  have halarm : ∀ t : State, t.bay b = s.bay b → (t.enterAlarm z).bay b = s.bay b := by
    intro t ht
    have hsweep : (if (t.zone z).sweepWaiting then t
        else (t.setZone z { t.zone z with sweepWaiting := true }).askSweep z).bay b = s.bay b := by
      split <;> simp [ht]
    have hfeed : ∀ v : State, (if z = 4 ∨ z = 5 ∨ z = 6 then v.feedZoneAlarm z else v).bay b = v.bay b := fun v => by
      split
      · exact v.feedZoneAlarm_bay z b
      · rfl
    have hfire : ∀ v : State, (if z = 6 then v.chamberFire else v).bay b = v.bay b := fun v => by
      split
      · exact v.chamberFire_bay b
      · rfl
    unfold State.enterAlarm
    dsimp only
    rw [State.raiseZone_bay, hfire, hfeed]
    exact hhold (zoneBays z) _ hsweep
  unfold State.vote
  dsimp only
  split
  · refine halarm _ ?_
    split
    · rfl
    · rw [State.raiseZone_bay, State.setZone_bay]
  · split
    · rfl
    · rw [State.raiseZone_bay, State.setZone_bay]

/-- The temperature of a sample moves of an unbound bay its pack-temperature channel alone. -/
theorem State.packReading_unbound (s : State) (v : Int) (h : (s.bay b).binding = none) :
    ∃ q, (s.packReading b v).bay b = { s.bay b with pack := q } := by
  have hmove : ∀ c d : Chan, (s.movePack b c d).bay b = { s.bay b with pack := some d } := by
    intro c d
    unfold State.movePack State.channelMoved
    split
    · rw [State.modBay, State.bay_setBay_same]
    · have hu : ((s.modBay b (fun x => { x with pack := some d })).raiseZone (bayZone b) (baySource b)).bay b
          = { s.bay b with pack := some d } := by rw [State.raiseZone_bay, State.modBay, State.bay_setBay_same]
      rw [State.vote_unbound _ _ (by rw [hu]; exact h), hu]
  unfold State.packReading
  split
  · split
    · exact ⟨_, hmove _ _⟩
    · exact ⟨_, hmove _ _⟩
  · exact ⟨_, rfl⟩

/-! ### The fresh frame -/

theorem State.protect_works (s : State) (b : BayId) (p : Sample) : s.Works (s.protect b p) :=
  .ite ((s.trackTemp_works b p.t).trans (State.testBound_works _ b p)) (s.testUnbound_works b p)

/-- The state in which a fresh frame is answered (R63, R78). -/
def State.worked (s : State) (b : BayId) (f : SampleFrame) : State :=
  (((s.sampled b f).integrate b f.sample (s.bay b).gap).protect b f.sample).workFrame b f.sample

theorem exec_freshFrame {bytes : List Byte} (hr : s.running = true) (hx : readSample b (fromSync bytes) = some f)
    (hm : (s.bay b).mode ≠ .unconfigured) (ht : (s.bay b).toggle ≠ some f.toggle) :
    exec (.sampleFrame b bytes) s = .next (((s.worked b f).answerFrame b).packReading b f.t) := by
  rw [exec_sampleFrame hr (readSample_sync hx), State.bayFrame, hx]
  dsimp only
  rw [if_neg hm, if_neg ht]
  rfl

theorem State.answerFrame_serves (s : State) (b : BayId) : s.Serves b (s.answerFrame b) := State.modBay_serves_rfl

/-- What a fresh frame leaves, but for its bay, the zones and the chamber. -/
theorem State.fresh_works (s : State) (b : BayId) (f : SampleFrame) : s.Works ((s.worked b f).answerFrame b) :=
  ((((s.sampled_works b f).trans (State.integrate_works _ _ _ _)).trans (State.protect_works _ _ _)).trans
    (State.workFrame_works _ _ _)).trans (State.modBay_works _ _ _)

/-- What follows the energy of a fresh frame keeps the sample and the writes of the channel (R78). -/
theorem State.fresh_serves (s : State) (b : BayId) (f : SampleFrame) :
    ((s.sampled b f).integrate b f.sample (s.bay b).gap).Serves b (((s.worked b f).answerFrame b).packReading b f.t) :=
  (((State.protect_serves _ _).trans (State.workFrame_serves _ _)).trans (State.answerFrame_serves _ _)).trans
    (State.packReading_serves _ _ _)

end Sys2Proof.Machine
end

section
/-!
PROOFS. What a fresh frame takes: the sample, the energy and the link (R59, R60, R62, R77 to R80, R109).
-/

namespace Sys2Proof.Machine

variable {s t u : State} {b : BayId} {x y : Bay} {e : Entry} {n : Nat} {f : SampleFrame} {p : Sample} {bytes : List Byte}

theorem State.endLinkLoss_serves (s : State) (b : BayId) : s.Serves b (s.endLinkLoss b) :=
  .ite (State.setBay_serves rfl rfl rfl rfl rfl rfl rfl) (.refl s)

/-- The overcurrent level of a configured bay (R102). -/
theorem State.overcurrentLevel_eq {r : Nat} (h : (s.bayCfg b).rating = some r) : s.overcurrentLevel b = r + r / 4 := by
  rw [State.overcurrentLevel, State.rating, h]
  rfl

theorem overcurrentBy_false {l i : Nat} (h1 : i ≤ 2500) (h2 : i < l) : overcurrentBy l i = false := by
  simp [overcurrentBy, h1, h2]

/-- A sample that no test of IDLE and STOPPED meets changes nothing (R101). -/
theorem State.testUnbound_passed (h1 : p.loadFault = false) (h2 : overcurrentBy (s.overcurrentLevel b) p.i = false) :
    s.testUnbound b p = s := by
  unfold State.testUnbound
  rw [h1, h2]
  split <;> rfl

theorem State.workFrame_resting (hm : (s.bay b).mode = .idle ∨ (s.bay b).mode = .stopped) (p : Sample) : s.workFrame b p = s := by
  unfold State.workFrame
  split
  · rfl
  · rcases hm with h | h <;> rw [h]

/-- The channel and its bay at the energy of a fresh frame (R79, R80). -/
theorem State.integrate_sampled (s : State) (b : BayId) (f : SampleFrame) (g : Nat) :
    let y := ((s.sampled b f).integrate b f.sample g).bay b
    y.sample = some f.sample ∧ y.toggle = some f.toggle ∧ y.periods = 0 ∧ y.link = .receiving := by
  cases h : ((s.sampled b f).bay b).binding with
  | none => rw [State.integrate_unbound h, State.sampled_bay]; exact ⟨rfl, rfl, rfl, rfl⟩
  | some e => rw [State.integrate_bay h, State.sampled_bay]; exact ⟨rfl, rfl, rfl, rfl⟩

/-- What every fresh frame takes (R59, R60, R62, R77). -/
theorem exec_freshFrame_takes (hr : s.running = true) (hx : readSample b (fromSync bytes) = some f)
    (hm : (s.bay b).mode ≠ .unconfigured) (ht : (s.bay b).toggle ≠ some f.toggle) :
    let u := ((s.worked b f).answerFrame b).packReading b f.t
    exec (.sampleFrame b bytes) s = .next u ∧ (u.bay b).sample = some f.sample ∧ (u.bay b).toggle = some f.toggle
      ∧ (u.bay b).periods = 0 ∧ (u.bay b).link = .receiving ∧ u.slots = s.slots ∧ u.tallies = s.tallies
      ∧ ((s.bay b).link = .lost → ∀ p, ((u.port p).attn.bays.get b).getLsbD 1 = true) := by
  intro u
  have hserves := s.fresh_serves b f
  obtain ⟨hsample, htoggle, hperiods, hlink⟩ := s.integrate_sampled b f (s.bay b).gap
  have hworks := s.fresh_works b f
  refine ⟨exec_freshFrame hr hx hm ht, hserves.sample.trans hsample, hserves.toggle.trans htoggle, hserves.periods.trans hperiods,
    hserves.link.trans hlink, (State.packReading_slots _ _ _).trans hworks.slots, (State.packReading_tallies _ _ _).trans hworks.tallies,
    fun hl => ?_⟩
  have hafter : (s.sampled b f).Works ((s.worked b f).answerFrame b) :=
    (((State.integrate_works _ _ _ _).trans (State.protect_works _ _ _)).trans (State.workFrame_works _ _ _)).trans
      (State.modBay_works _ _ _)
  exact (hafter.notes.trans (State.packReading_notes _ _ _)).noted (State.sampled_noted hr hl)

/-- An unbound bay FAULTED with LINK_LOST at a fresh frame that meets no test (R62, R109). -/
theorem State.fresh_linkLoss {d : FaultRec} (hm : (s.bay b).mode = .faulted) (hu : (s.bay b).binding = none)
    (hf : (s.bay b).fault = some d) (hc : d.cause = .linkLost) (h1 : f.loadFault = false)
    (h2 : overcurrentBy (s.overcurrentLevel b) f.i = false) :
    let t := ((s.worked b f).answerFrame b).packReading b f.t
    (t.bay b).mode = s.restState b ∧ (t.bay b).fault = none
      ∧ (t.bay b).sent = some { kind := if s.restState b = .stopped then .stall else .ack, level := 0, step := 0 } := by
  have hbay : (s.sampled b f).bay b = { s.bay b with mode := s.restState b, fault := none }.sampled f := by
    rw [State.sampled_bay, State.endLinkLoss_unbound _ hm hu hf hc, State.bay_setBay_same]
  have hnone : ((s.sampled b f).bay b).binding = none := by rw [hbay]; exact hu
  have hmode : ((s.sampled b f).bay b).mode = s.restState b := by rw [hbay]; rfl
  have hover : (s.sampled b f).overcurrentLevel b = s.overcurrentLevel b := by
    rw [State.overcurrentLevel, State.rating, State.bayCfg, (s.sampled_works b f).settings]
    rfl
  have hworked : s.worked b f = s.sampled b f := by
    rw [State.worked, State.integrate_unbound hnone, State.protect, hnone]
    rw [if_neg (by decide), State.testUnbound_passed (by exact h1) (by rw [hover]; exact h2)]
    exact State.workFrame_resting (by rw [hmode]; exact (s.restState_cases b).symm) _
  intro t
  have hans : ((s.worked b f).answerFrame b).bay b
      = { (s.sampled b f).bay b with sent := some ((s.sampled b f).bay b).accepted } := by
    rw [hworked, State.answerFrame, State.modBay, State.bay_setBay_same]
  obtain ⟨q, hq⟩ := ((s.worked b f).answerFrame b).packReading_unbound f.t (by rw [hans]; exact hnone)
  rw [show t.bay b = _ from hq, hans]
  refine ⟨hmode, by rw [hbay]; rfl, ?_⟩
  rw [show ∀ z : Bay, (({ z with sent := some ((s.sampled b f).bay b).accepted, pack := q } : Bay)).sent
    = some ((s.sampled b f).bay b).accepted from fun _ => rfl, Bay.accepted_eq, hmode]
  rcases s.restState_cases b with h | h <;> rw [h] <;> rfl

/-- Settles O41: the sample taken, the energy of a bound bay, and an unbound bay by its fault. -/
theorem freshFramesCountEnergy : Obligations.FreshFramesCountEnergy := by
  intro s b bytes f hr hx x hm ht v g taken
  have htaken := exec_freshFrame_takes hr hx hm ht
  have hserves := s.fresh_serves b f
  have hloss := s.endLinkLoss_serves b
  refine ⟨fun e he => ?_, fun hu => ?_⟩
  · have hbay : (s.sampled b f).bay b = (s.bay b).sampled f := by rw [State.sampled_bay, State.endLinkLoss_bound _ he]
    have hint : ((s.sampled b f).integrate b f.sample (s.bay b).gap).bay b = ((s.bay b).sampled f).metered e f.sample (s.bay b).gap := by
      rw [State.integrate_bay (e := e) (by rw [hbay]; exact he), hbay]
    obtain ⟨more, hw, hc, -⟩ := hserves.writes
    exact ⟨_, more, htaken, hserves.frac.trans (by rw [hint]; rfl), by rw [hw, hint]; rfl, hc⟩
  · have hbay := s.sampled_bay b f
    have hnone : ((s.sampled b f).bay b).binding = none := by rw [hbay]; exact hloss.binding.trans hu
    rw [State.integrate_unbound hnone] at hserves
    obtain ⟨more, hw, -, hmore⟩ := hserves.writes
    obtain ⟨more', hw', -, hmore'⟩ := hloss.writes
    refine ⟨_, htaken, ?_, ?_, hserves.binding.trans hnone, fun d rating hf hd hc hk h1 h2 h3 => ?_⟩
    · exact hserves.frac.trans (by rw [hbay]; exact hloss.frac)
    · rw [hw, hmore hnone, List.append_nil, hbay]
      exact hw'.trans (by rw [hmore' hu, List.append_nil])
    · obtain ⟨hmode, hfault, hsent⟩ := State.fresh_linkLoss hf hu hd hc h1
        (by rw [State.overcurrentLevel_eq hk]; exact overcurrentBy_false h2 h3)
      have hstop : s.effectiveStop b = (match (s.bayCfg b).combine with
        | .or => s.lines.stop.get b || x.softStop
        | .and => s.lines.stop.get b && x.softStop) := rfl
      rw [State.restState, hstop] at hmode hsent
      refine ⟨hmode, hfault, ?_⟩
      rw [hsent]
      have hkind : ∀ q : Bool, (if (if q = true then BayState.stopped else .idle) = .stopped then AnswerKind.stall else .ack)
          = if q = true then .stall else .ack := by decide
      exact congrArg (fun q => some ({ kind := q, level := 0, step := 0 } : BayAnswer)) (hkind _)

end Sys2Proof.Machine
end

section
/-!
PROOFS. The stages of a fresh frame of a bound bay: the sample and its energy, the temperature conditions, the tests, and the
work of a bay that no test stops (R78, R86, R101 to R106).
-/

namespace Sys2Proof.Machine

variable {s t u : State} {b : BayId} {x y : Bay} {e : Entry} {n r : Nat} {f : SampleFrame} {p : Sample} {bytes : List Byte}
  {k : Copies} {c : ClassCfg} {l : Option Nat}

/-! ### The temperature conditions -/

/-- The channel with the temperature conditions of a sample: the limit computed anew at a change of the warning, the flag asked
for at a start of the shutdown condition (R86, R103, R104). -/
def Bay.tracked (x : Bay) (e : Entry) (k : Copies) (c : ClassCfg) (r : Nat) (v : Int) : Bay :=
  { x with
    warning := warningAfter x.warning c.warnT v
    shutdown := shutdownAfter x.shutdown c.shutT v
    limit := if warningAfter x.warning c.warnT v = x.warning then x.limit
      else some (currentLimit r c.cRate k.capacity k.damaged x.isoDerate (warningAfter x.warning c.warnT v))
    writes := x.writes ++ if shutdownAfter x.shutdown c.shutT v = true ∧ x.shutdown = false then [.flag e .overtemp] else [] }

/-- The state after the temperature conditions of a sample, without the flag write of a start of the shutdown condition. -/
def State.warned (s : State) (b : BayId) (w d : Bool) : State :=
  (if w = (s.bay b).warning then s
    else ((s.modBay b (fun y => { y with warning := w })).computeLimit b).raiseBay b .temp).modBay b (fun y => { y with shutdown := d })

theorem State.trackTemp_eq (hk : (s.bay b).copies = some k) (v : Int) : s.trackTemp b v =
    (let w := warningAfter (s.bay b).warning (s.classCfg k.cls).warnT v
     let d := shutdownAfter (s.bay b).shutdown (s.classCfg k.cls).shutT v
     if d = true ∧ (s.bay b).shutdown = false then (s.warned b w d).askFlag b .overtemp else s.warned b w d) := by
  unfold State.trackTemp
  split
  · next h => rw [h] at hk; cases hk
  · next k' h =>
    obtain rfl : k' = k := Option.some.inj (h.symm.trans hk)
    rfl

theorem State.askFlag_bay (g : HazardFlag) (hb : (s.bay b).binding = some e) :
    (s.askFlag b g).bay b = { s.bay b with writes := (s.bay b).writes ++ [.flag e g] } := by
  unfold State.askFlag
  split
  · next e' h =>
    obtain rfl : e' = e := Option.some.inj (h.symm.trans hb)
    exact State.askBay_bay_same ..
  · next h => rw [h] at hb; cases hb

theorem State.computeLimit_bay (hk : (s.bay b).copies = some k) : (s.computeLimit b).bay b = { s.bay b with
    limit := some (currentLimit (s.rating b) (s.classCfg k.cls).cRate k.capacity k.damaged (s.bay b).isoDerate (s.bay b).warning) } := by
  unfold State.computeLimit
  split
  · next k' h =>
    obtain rfl : k' = k := Option.some.inj (h.symm.trans hk)
    rw [State.modBay, State.bay_setBay_same]
  · next h => rw [h] at hk; cases hk

theorem State.warned_bay (hk : (s.bay b).copies = some k) (w d : Bool) : (s.warned b w d).bay b = { s.bay b with
    warning := w, shutdown := d
    limit := if w = (s.bay b).warning then (s.bay b).limit
      else some (currentLimit (s.rating b) (s.classCfg k.cls).cRate k.capacity k.damaged (s.bay b).isoDerate w) } := by
  have hmod : (s.modBay b (fun y => { y with warning := w })).bay b = { s.bay b with warning := w } := by
    rw [State.modBay, State.bay_setBay_same]
  unfold State.warned
  rw [State.modBay, State.bay_setBay_same]
  by_cases h : w = (s.bay b).warning
  · subst h
    rw [if_pos rfl, if_pos rfl]
  · rw [if_neg h, if_neg h, State.raiseBay_bay, State.computeLimit_bay (k := k) (by rw [hmod]; exact hk), hmod]
    rfl

theorem State.trackTemp_bay (hb : (s.bay b).binding = some e) (hk : (s.bay b).copies = some k) (v : Int) :
    (s.trackTemp b v).bay b = (s.bay b).tracked e k (s.classCfg k.cls) (s.rating b) v := by
  rw [State.trackTemp_eq hk]
  dsimp only
  unfold Bay.tracked
  split
  · rw [State.askFlag_bay (e := e) _ (by rw [State.warned_bay hk]; exact hb), State.warned_bay hk]
  · rw [State.warned_bay hk, List.append_nil]

theorem State.trackTemp_noted (hr : s.running = true) (hk : (s.bay b).copies = some k) (v : Int)
    (hw : warningAfter (s.bay b).warning (s.classCfg k.cls).warnT v ≠ (s.bay b).warning) : (s.trackTemp b v).noted b 5 := by
  have hwarned : ∀ d, (s.warned b (warningAfter (s.bay b).warning (s.classCfg k.cls).warnT v) d).noted b 5 := fun d => by
    unfold State.warned
    rw [if_neg hw]
    exact (State.modBay_works _ _ _).notes.noted (State.raiseBay_noted (by
      rw [((s.modBay_works b _).trans (State.computeLimit_works _ b)).running]; exact hr) b .temp)
  rw [State.trackTemp_eq hk]
  dsimp only
  split
  · exact (State.askFlag_works _ _ _).notes.noted (hwarned _)
  · exact hwarned _

/-! ### The state that the tests find -/

/-- A fresh frame of a bound bay. -/
structure State.Fresh (s : State) (b : BayId) (bytes : List Byte) (f : SampleFrame) (e : Entry) (k : Copies) (c : ClassCfg)
    (r : Nat) : Prop where
  running : s.running = true
  reads : readSample b (fromSync bytes) = some f
  configured : (s.bay b).mode ≠ .unconfigured
  new : (s.bay b).toggle ≠ some f.toggle
  bound : (s.bay b).binding = some e
  copies : (s.bay b).copies = some k
  cls : s.settings.classes.get k.cls = some c
  rating : (s.bayCfg b).rating = some r

/-- The channel with the sample, the energy and the temperature conditions of a fresh frame. -/
def Bay.readied (x : Bay) (f : SampleFrame) (e : Entry) (k : Copies) (c : ClassCfg) (r : Nat) : Bay :=
  ((x.sampled f).metered e f.sample x.gap).tracked e k c r f.t

/-- The state with the sample, the energy and the temperature conditions of a fresh frame. -/
def State.readied (s : State) (b : BayId) (f : SampleFrame) : State :=
  ((s.sampled b f).integrate b f.sample (s.bay b).gap).trackTemp b f.t

theorem State.readied_works (s : State) (b : BayId) (f : SampleFrame) : s.Works (s.readied b f) :=
  ((s.sampled_works b f).trans (State.integrate_works _ _ _ _)).trans (State.trackTemp_works _ _ _)

section Bound

variable (h : s.Fresh b bytes f e k c r)

include h

theorem State.Fresh.metered : ((s.sampled b f).integrate b f.sample (s.bay b).gap).bay b
    = ((s.bay b).sampled f).metered e f.sample (s.bay b).gap := by
  have hbay : (s.sampled b f).bay b = (s.bay b).sampled f := by rw [State.sampled_bay, State.endLinkLoss_bound _ h.bound]
  rw [State.integrate_bay (e := e) (by rw [hbay]; exact h.bound), hbay]

theorem State.Works.classCfg_eq (w : s.Works t) : t.classCfg k.cls = c := by
  rw [State.classCfg, w.settings, h.cls]
  rfl

theorem State.Works.rating_eq (w : s.Works t) : t.rating b = r := by
  rw [State.rating, State.bayCfg, w.settings, show s.settings.bays.get b = s.bayCfg b from rfl, h.rating]
  rfl

theorem State.Fresh.readied_bay : (s.readied b f).bay b = (s.bay b).readied f e k c r := by
  have hw := (s.sampled_works b f).trans (State.integrate_works _ b f.sample (s.bay b).gap)
  rw [State.readied, State.trackTemp_bay (e := e) (k := k) (by rw [h.metered]; exact h.bound) (by rw [h.metered]; exact h.copies),
    h.metered, hw.classCfg_eq h, hw.rating_eq h]
  rfl

theorem State.Fresh.worked_eq : s.worked b f = ((s.readied b f).testBound b f.sample).workFrame b f.sample := by
  have hb : (((s.sampled b f).integrate b f.sample (s.bay b).gap).bay b).binding.isSome = true := by
    rw [h.metered]
    exact Option.isSome_iff_exists.mpr ⟨e, h.bound⟩
  rw [State.worked, State.protect, if_pos hb]
  rfl

theorem State.Fresh.readied_noted (hw : ((s.bay b).readied f e k c r).warning ≠ (s.bay b).warning) : (s.readied b f).noted b 5 := by
  have hworks := (s.sampled_works b f).trans (State.integrate_works _ b f.sample (s.bay b).gap)
  refine State.trackTemp_noted (by rw [hworks.running]; exact h.running) (k := k) (by rw [h.metered]; exact h.copies) _ ?_
  rw [h.metered, hworks.classCfg_eq h]
  exact hw

end Bound

/-! ### The tests -/

/-- The count of low samples reaches N (R105). -/
def State.opens (s : State) (b : BayId) (i : Nat) : Prop :=
  (s.bay b).mode = .active ∧ (s.bay b).openAfter i ≠ (s.bay b).openCount ∧ (s.bayCfg b).nOpen ≤ (s.bay b).openAfter i

section Tests

variable (hk : (s.bay b).copies = some k)

include hk

theorem State.testBound_fault {q : FaultCause}
    (hf : boundFault (s.bay b) p (s.overcurrentLevel b) (s.classCfg k.cls).shutT = some q) : s.testBound b p = s.takeFault b q := by
  unfold State.testBound
  dsimp only
  split
  · next hn => rw [hn] at hk; cases hk
  · next k' hk' =>
    obtain rfl : k' = k := Option.some.inj (hk'.symm.trans hk)
    split
    · next q' hq => rw [hf] at hq; cases hq; rfl
    · next hn => rw [hf] at hn; cases hn

theorem State.testBound_opens (hf : boundFault (s.bay b) p (s.overcurrentLevel b) (s.classCfg k.cls).shutT = none)
    (ho : s.opens b p.i) : s.testBound b p =
      ((s.setBay b { s.bay b with openCount := 0 }).askFlag b .openConnection).takeFault b .openConnection := by
  unfold State.testBound
  dsimp only
  split
  · next hn => rw [hn] at hk; cases hk
  · next k' hk' =>
    obtain rfl : k' = k := Option.some.inj (hk'.symm.trans hk)
    split
    · next q hq => rw [hf] at hq; cases hq
    · exact if_pos ho

theorem State.testBound_passes (hf : boundFault (s.bay b) p (s.overcurrentLevel b) (s.classCfg k.cls).shutT = none)
    (ho : ¬ s.opens b p.i) : s.testBound b p = s.setBay b { s.bay b with openCount := (s.bay b).openAfter p.i } := by
  unfold State.testBound
  dsimp only
  split
  · next hn => rw [hn] at hk; cases hk
  · next k' hk' =>
    obtain rfl : k' = k := Option.some.inj (hk'.symm.trans hk)
    split
    · next q hq => rw [hf] at hq; cases hq
    · exact if_neg ho

end Tests

/-- No test finds a fault in a valid sample below the overcurrent level and the shutdown temperature (R101). -/
theorem boundFault_none {oc shutT : Nat} (h1 : tempValid p.t = true) (h2 : p.loadFault = false) (h3 : overcurrentBy oc p.i = false)
    (h4 : p.t < shutT ∨ (x.mode = .retrying ∧ x.retry = some .overtemp)) : boundFault x p oc shutT = none := by
  have hhot : ¬ ((shutT : Int) ≤ p.t ∧ ¬ (x.mode = .retrying ∧ x.retry = some .overtemp)) := fun h => by
    rcases h4 with h4 | h4
    · omega
    · exact h.2 h4
  unfold boundFault
  rw [h1, h2, h3, if_neg (by decide : ¬ (!true) = true), if_neg Bool.false_ne_true, if_neg Bool.false_ne_true, if_neg hhot, ite_self]

theorem tempValid_iff (v : Int) : tempValid v = true ↔ -40 ≤ v ∧ v ≤ 150 := by simp [tempValid]

/-! ### A bay that no test stops -/

/-- The channel after a sample that no test stops (R105). -/
def Bay.passed (x : Bay) (f : SampleFrame) (e : Entry) (k : Copies) (c : ClassCfg) (r : Nat) : Bay :=
  { x.readied f e k c r with openCount := (x.readied f e k c r).openAfter f.i }

/-- The sample of the frame is valid and below the overcurrent level (R101, R102). -/
structure SampleFrame.Sound (f : SampleFrame) (r : Nat) : Prop where
  cold : -40 ≤ f.t
  hot : f.t ≤ 150
  load : f.loadFault = false
  range : f.i ≤ 2500
  below : f.i < r + r / 4

theorem State.Works.overcurrentLevel_eq (h : s.Fresh b bytes f e k c r) (w : s.Works t) : t.overcurrentLevel b = r + r / 4 := by
  rw [State.overcurrentLevel, w.rating_eq h]

theorem State.Works.bayCfg_eq (w : s.Works t) : t.bayCfg b = s.bayCfg b := by rw [State.bayCfg, State.bayCfg, w.settings]

/-- The worked state of a bay whose sample meets no test: the work of its state alone (R78, R101). -/
theorem State.Fresh.worked_passed (h : s.Fresh b bytes f e k c r) (hs : f.Sound r)
    (ht : f.t < c.shutT ∨ ((s.bay b).mode = .retrying ∧ (s.bay b).retry = some .overtemp))
    (ho : (s.bay b).mode = .active → (s.bay b).openAfter f.i ≠ (s.bay b).openCount → (s.bay b).openAfter f.i < (s.bayCfg b).nOpen) :
    s.worked b f = ((s.readied b f).setBay b ((s.bay b).passed f e k c r)).workFrame b f.sample := by
  have hw := s.readied_works b f
  have hnone : boundFault ((s.readied b f).bay b) f.sample ((s.readied b f).overcurrentLevel b)
      ((s.readied b f).classCfg k.cls).shutT = none := by
    rw [h.readied_bay, hw.overcurrentLevel_eq h, hw.classCfg_eq h]
    exact boundFault_none ((tempValid_iff _).mpr ⟨hs.cold, hs.hot⟩) hs.load (overcurrentBy_false hs.range hs.below) ht
  have hopen : ¬ (s.readied b f).opens b f.sample.i := by
    rw [State.opens, h.readied_bay, hw.bayCfg_eq]
    rintro ⟨h1, h2, h3⟩
    exact absurd (ho h1 h2) (Nat.not_lt.mpr h3)
  rw [h.worked_eq, State.testBound_passes (k := k) (by rw [h.readied_bay]; exact h.copies) hnone hopen, h.readied_bay]
  rfl

/-! ### The answer -/

theorem State.answerFrame_bay (s : State) (b : BayId) : (s.answerFrame b).bay b = { s.bay b with sent := some (s.bay b).accepted } := by
  rw [State.answerFrame, State.modBay, State.bay_setBay_same]

/-! ### The work in ACTIVE -/

/-- The channel after the regulator's part of a fresh sample in ACTIVE (R89 to R91, R93). -/
def Bay.regulated (x : Bay) (g : BayCfg) (cell endV i : Nat) : Bay :=
  let y := { x with endCount := if cell ≤ endV then x.endCount + 1 else 0 }
  if 0 < x.blanking then { y with blanking := x.blanking - 1 }
  else match x.holdOff, x.limit with
    | none, some l => y.regulate l g.cap g.toff cell endV i
    | _, _ => y

/-- The channel at the end of its discharge (R94). -/
def Bay.discharged (x : Bay) (e : Entry) : Bay := { x with
  mode := .resting, level := 0, holdOff := none, blanking := 0, restElapsed := 0, endCount := 0, lastStage := .resting
  writes := x.writes ++ [.stage { entry := e, expected := .discharging, new := .resting }] }

section Work

variable (hk : y.copies = some k)

include hk

theorem State.activeFrame_goesOn (hn : (if perCellOf p.v k.cells ≤ (s.classCfg k.cls).endV then y.endCount + 1 else 0) < 64) :
    (s.setBay b y).activeFrame b p = s.setBay b (y.regulated (s.bayCfg b) (perCellOf p.v k.cells) (s.classCfg k.cls).endV p.i) := by
  unfold State.activeFrame
  dsimp only
  rw [State.bay_setBay_same, hk]
  dsimp only
  rw [show (s.setBay b y).classCfg k.cls = s.classCfg k.cls from rfl, if_neg (Nat.not_le.mpr hn), State.regulator, State.modBay,
    State.modBay, State.bay_setBay_same, State.bay_setBay_same, State.setBay_setBay, State.setBay_setBay]
  rfl

theorem State.activeFrame_ends (hb : y.binding = some e)
    (hn : 64 ≤ if perCellOf p.v k.cells ≤ (s.classCfg k.cls).endV then y.endCount + 1 else 0) :
    ((s.setBay b y).activeFrame b p).bay b = y.discharged e := by
  unfold State.activeFrame
  dsimp only
  rw [State.bay_setBay_same, hk]
  dsimp only
  rw [show (s.setBay b y).classCfg k.cls = s.classCfg k.cls from rfl, if_pos hn, State.endDischarge, State.raiseBay_bay, State.modBay,
    State.bay_setBay_same, State.setBay_setBay, State.setBay_askStage (e := e) (by exact hb), State.askBay_bay_same,
    State.bay_setBay_same]
  rfl

end Work

theorem State.activeFrame_noted (hr : s.running = true) (hk : (s.bay b).copies = some k)
    (hn : 64 ≤ if perCellOf p.v k.cells ≤ (s.classCfg k.cls).endV then (s.bay b).endCount + 1 else 0) :
    (s.activeFrame b p).noted b 4 := by
  unfold State.activeFrame
  dsimp only
  split
  · next h => rw [h] at hk; cases hk
  · next k' h =>
    obtain rfl : k' = k := Option.some.inj (h.symm.trans hk)
    rw [if_pos hn, State.endDischarge]
    refine State.raiseBay_noted ?_ b .stage
    rw [((s.modBay_works b _).trans (State.askStage_works _ b _ _ _)).running]
    exact hr

/-! ### The work of a state (R78) -/

theorem State.workFrame_active (hp : y.releasePending = false) (hm : y.mode = .active) :
    (s.setBay b y).workFrame b p = (s.setBay b y).activeFrame b p := by
  unfold State.workFrame
  rw [State.bay_setBay_same, hp, hm]
  rfl

theorem State.workFrame_probing (hp : y.releasePending = false) (hm : y.mode = .probing) :
    (s.setBay b y).workFrame b p = (s.setBay b y).probeFrame b p.comparator := by
  unfold State.workFrame
  rw [State.bay_setBay_same, hp, hm]
  rfl

theorem State.workFrame_retrying (hp : y.releasePending = false) (hm : y.mode = .retrying) :
    (s.setBay b y).workFrame b p = (s.setBay b y).retryFrame b p := by
  unfold State.workFrame
  rw [State.bay_setBay_same, hp, hm]
  rfl

/-! ### The work in PROBING -/

theorem State.probeFrame_settles (bit : Bool) (h : y.probe.count < 2) :
    (s.setBay b y).probeFrame b bit = s.setBay b { y with probe := { y.probe with count := y.probe.count + 1 } } := by
  unfold State.probeFrame
  dsimp only
  rw [State.bay_setBay_same, if_pos h, State.modBay, State.bay_setBay_same, State.setBay_setBay]

theorem State.probeFrame_steps (bit : Bool) (h : y.probe.count = 2) (hs : y.probe.step < 3) :
    (s.setBay b y).probeFrame b bit = s.setBay b { y with
      probe := { y.probe with step := y.probe.step + 1, count := 0, results := y.probe.results ++ [bit] } } := by
  unfold State.probeFrame
  dsimp only
  rw [State.bay_setBay_same, if_neg (by omega), if_pos hs, State.modBay, State.bay_setBay_same, State.setBay_setBay]

theorem State.probeFrame_ends (bit : Bool) (h : y.probe.count = 2) (hs : y.probe.step = 3) :
    (s.setBay b y).probeFrame b bit = (s.setBay b { y with
      probe := { y.probe with count := 0, results := y.probe.results ++ [bit] } }).endProbe b (classify (y.probe.results ++ [bit])) := by
  unfold State.probeFrame
  dsimp only
  rw [State.bay_setBay_same, if_neg (by omega), if_neg (by omega), State.modBay, State.bay_setBay_same, State.setBay_setBay]

/-- The channel with an outcome of its probe (R72). -/
def Bay.judged (x : Bay) (o : ProbeOutcome) : Bay := { x with probe := { x.probe with last := some o } }

/-- The channel in ACTIVE after its probe (R72, R89). -/
def Bay.begun (x : Bay) (e : Entry) : Bay := { x.enterActive with
  lastStage := .discharging, writes := x.writes ++ [.stage { entry := e, expected := .probing, new := .discharging }] }

/-- The channel with a leak found (R72, R86). -/
def Bay.leaking (x : Bay) (e : Entry) (k : Copies) (c : ClassCfg) (r : Nat) : Bay := { x with
  isoDerate := true, limit := some (currentLimit r c.cRate k.capacity k.damaged true x.warning)
  writes := x.writes ++ [.flag e .isolationFault] }

/-- The channel in FAULTED after its third failed attempt (R73). -/
def Bay.failed (x : Bay) (o : ProbeOutcome) : Bay := { x with probe := x.probe.restart }.probeFaulted o.cause

/-- The state with the outcome of a probe, before it acts. -/
def State.judged (s : State) (b : BayId) (o : ProbeOutcome) : State :=
  (s.modBay b (fun x => { x with probe := { x.probe with last := some o } })).raiseBay b .probe

theorem State.judged_bay (s : State) (b : BayId) (o : ProbeOutcome) : (s.judged b o).bay b = (s.bay b).judged o := by
  rw [State.judged, State.raiseBay_bay, State.modBay, State.bay_setBay_same]
  rfl

theorem State.judged_works (s : State) (b : BayId) (o : ProbeOutcome) : s.Works (s.judged b o) :=
  (s.modBay_works b _).trans (State.raiseBay_works _ _ _)

/-- What follows an outcome keeps its attention (R72, R188). -/
theorem State.endProbe_noted (hr : s.running = true) (o : ProbeOutcome) : (s.endProbe b o).noted b 3 := by
  have h1 : (s.judged b o).noted b 3 := State.raiseBay_noted (by rw [(s.modBay_works b _).running]; exact hr) b .probe
  have hafter : (s.judged b o).Works (s.endProbe b o) := by
    have hleak := (((State.modBay_works (s.judged b o) b (fun x => { x with isoDerate := true })).trans
      (State.computeLimit_works _ b)).trans (State.askFlag_works _ b .isolationFault)).trans (State.modBay_works _ b Bay.enterActive)
    unfold State.endProbe
    cases o
    case normal => exact (State.modBay_works _ _ _).trans (State.askStage_works _ _ _ _ _)
    case leakNeg | leakPos => exact hleak.trans (State.askStage_works _ _ _ _ _)
    case opened | inconsistent => exact State.failProbe_works _ _ _
  exact hafter.notes.noted h1

theorem State.endProbe_normal (hb : (s.bay b).binding = some e) : (s.endProbe b .normal).bay b = ((s.bay b).judged .normal).begun e := by
  have hj : s.endProbe b .normal = ((s.judged b .normal).modBay b Bay.enterActive).askStage b .probing .discharging none := rfl
  rw [hj, State.modBay, State.judged_bay, State.setBay_askStage (e := e) (by exact hb), State.askBay_bay_same, State.bay_setBay_same]
  rfl

theorem State.endProbe_leak {o : ProbeOutcome} (ho : o = .leakNeg ∨ o = .leakPos) (hb : (s.bay b).binding = some e)
    (hk : (s.bay b).copies = some k) : (s.endProbe b o).bay b =
      (((s.bay b).judged o).leaking e k (s.classCfg k.cls) (s.rating b)).begun e := by
  have hj : s.endProbe b o = (((((s.judged b o).modBay b (fun x => { x with isoDerate := true })).computeLimit b).askFlag b
      .isolationFault).modBay b Bay.enterActive).askStage b .probing .discharging none := by
    rcases ho with rfl | rfl <;> rfl
  have hflag : ((((s.judged b o).modBay b (fun x => { x with isoDerate := true })).computeLimit b).askFlag b .isolationFault).bay b
      = ((s.bay b).judged o).leaking e k (s.classCfg k.cls) (s.rating b) := by
    have hw := (s.judged_works b o).trans (State.modBay_works _ b (fun x => { x with isoDerate := true }))
    have hmod : ((s.judged b o).modBay b (fun x => { x with isoDerate := true })).bay b
        = { (s.bay b).judged o with isoDerate := true } := by rw [State.modBay, State.bay_setBay_same, State.judged_bay]
    have hlim := State.computeLimit_bay (s := (s.judged b o).modBay b (fun x => { x with isoDerate := true })) (k := k)
      (by rw [hmod]; exact hk)
    rw [State.askFlag_bay (e := e) _ (by rw [hlim, hmod]; exact hb), hlim, State.rating, State.classCfg, State.bayCfg,
      hw.settings, hmod]
    rfl
  rw [hj, State.modBay, hflag, State.setBay_askStage (e := e) (by exact hb), State.askBay_bay_same, State.bay_setBay_same]
  rfl

section Failed

variable {o : ProbeOutcome} (ho : o = .opened ∨ o = .inconsistent)

include ho

theorem State.endProbe_failed : s.endProbe b o = (s.judged b o).failProbe b o := by rcases ho with rfl | rfl <;> rfl

theorem State.endProbe_again (ha : (s.bay b).probe.attempt < 3) : (s.endProbe b o).bay b = { s.bay b with
    probe := { (s.bay b).probe with step := 1, count := 0, results := [], attempt := (s.bay b).probe.attempt + 1, last := some o } } := by
  rw [State.endProbe_failed ho, State.failProbe]
  dsimp only
  rw [State.judged_bay, if_pos (c := ((s.bay b).judged o).probe.attempt < 3) ha, State.bay_setBay_same]
  rfl

theorem State.endProbe_faulted (ha : 3 ≤ (s.bay b).probe.attempt) (hn : (s.bay b).probe.round = 1) :
    (s.endProbe b o).bay b = ((s.bay b).judged o).failed o := by
  rw [State.endProbe_failed ho, State.failProbe]
  dsimp only
  rw [State.judged_bay, if_neg (c := ((s.bay b).judged o).probe.attempt < 3) (Nat.not_lt.mpr ha),
    if_pos (c := ((s.bay b).judged o).probe.round = 1) hn, State.modBay, State.bay_setBay_same, State.bay_setBay_same]
  rfl

theorem State.endProbe_gives_up (ha : 3 ≤ (s.bay b).probe.attempt) (hn : (s.bay b).probe.round ≠ 1)
    (hb : (s.bay b).binding = some e) : (s.endProbe b o).bay b = { ((s.bay b).judged o).failed o with
      releasePending := true, holdOff := none, lastStage := .waiting
      writes := (s.bay b).writes ++ [.unbind { entry := e, expected := .probing, new := .waiting }] } := by
  rw [State.endProbe_failed ho, State.failProbe]
  dsimp only
  rw [State.judged_bay, if_neg (c := ((s.bay b).judged o).probe.attempt < 3) (Nat.not_lt.mpr ha),
    if_neg (c := ((s.bay b).judged o).probe.round = 1) hn, State.modBay, State.bay_setBay_same, State.setBay_setBay,
    State.setBay_askUnbind (e := e) (by exact hb), State.askBay_bay_same, State.bay_setBay_same]
  rfl

end Failed

end Sys2Proof.Machine
end

section
/-!
PROOFS. A fresh frame that no protection acts on: the regulator, the end of discharge and the probe (R71 to R73, R88 to R94).
-/

namespace Sys2Proof.Machine

variable {s t u : State} {b : BayId} {x y : Bay} {e : Entry} {n r : Nat} {f : SampleFrame} {p : Sample} {bytes : List Byte}
  {k : Copies} {c : ClassCfg}

/-! ### The regulator -/

/-- The level after a step of the regulator (R90). -/
def Bay.stepped (x : Bay) (limit cap cell endV i : Nat) : Nat :=
  if limit < i then x.level - 1 else if i < limit * 7 / 8 ∧ endV < cell ∧ x.level < cap then x.level + 1 else x.level

/-- A step of the regulator outside blanking and hold-off (R89 to R91). -/
theorem Bay.regulate_eq (hb : x.blanking = 0) (hh : x.holdOff = none) (limit cap toff cell endV i : Nat) :
    x.regulate limit cap toff cell endV i = { x with
      level := x.stepped limit cap cell endV i
      blanking := if x.stepped limit cap cell endV i = x.level then 0 else 2
      holdOff := if limit < i then some toff else none
      openCount := if limit < i then 0 else x.openCount } := by
  unfold Bay.regulate Bay.stepped
  by_cases h : limit < i
  · simp only [if_pos h]
    rw [Bay.reduce_blanks, hb]
    congr 1
    exact ite_of_iff (by omega) _ _
  · simp only [if_neg h]
    rw [raiseThreshold]
    by_cases hr : i < limit * 7 / 8 ∧ endV < cell ∧ x.level < cap
    · simp only [if_pos hr]
      rw [Bay.setLevel, if_neg (by omega), if_neg (by omega), ← hh]
    · simp only [if_neg hr]
      rw [if_pos trivial, ← hb, ← hh]

theorem Bay.regulated_blanked (h : 0 < x.blanking) (g : BayCfg) (cell endV i : Nat) : x.regulated g cell endV i =
    { x with endCount := if cell ≤ endV then x.endCount + 1 else 0, blanking := x.blanking - 1 } := if_pos h

theorem Bay.regulated_holdOff (hb : x.blanking = 0) (hh : x.holdOff = some n) (g : BayCfg) (cell endV i : Nat) :
    x.regulated g cell endV i = { x with endCount := if cell ≤ endV then x.endCount + 1 else 0 } := by
  unfold Bay.regulated
  dsimp only
  rw [if_neg (by omega)]
  split
  · next h _ => rw [hh] at h; cases h
  · rfl

theorem Bay.regulated_stepped {limit : Nat} (hb : x.blanking = 0) (hh : x.holdOff = none) (hl : x.limit = some limit) (g : BayCfg)
    (cell endV i : Nat) : x.regulated g cell endV i = { x with
      endCount := if cell ≤ endV then x.endCount + 1 else 0
      level := x.stepped limit g.cap cell endV i
      blanking := if x.stepped limit g.cap cell endV i = x.level then 0 else 2
      holdOff := if limit < i then some g.toff else none
      openCount := if limit < i then 0 else x.openCount } := by
  unfold Bay.regulated
  dsimp only
  rw [if_neg (by omega)]
  split
  · next l _ h =>
    obtain rfl : l = limit := Option.some.inj (h.symm.trans hl)
    exact Bay.regulate_eq (by exact hb) (by exact hh) ..
  · next h => exact absurd hl (h limit hh)

/-! ### A calm sample -/

/-- The conditions under which a sample moves no protection but the shutdown condition (R101, R103, R104). -/
structure State.Mild (s : State) (b : BayId) (bytes : List Byte) (f : SampleFrame) (e : Entry) (k : Copies) (c : ClassCfg)
    (r : Nat) : Prop extends s.Fresh b bytes f e k c r, f.Sound r where
  unwarned : (s.bay b).warning = false
  mild : f.t < c.warnT
  cool : f.t < c.shutT
  kept : (s.bay b).releasePending = false

theorem warningAfter_mild {w : Nat} {v : Int} (h1 : tempValid v = true) (h2 : v < w) : warningAfter false w v = false := by
  unfold warningAfter
  rw [h1, if_neg (by decide), if_neg (by omega), ite_self]

theorem shutdownAfter_cool {q : Bool} {w : Nat} {v : Int} (h1 : tempValid v = true) (h2 : v < w) : ¬ (shutdownAfter q w v = true ∧ q = false) := by
  unfold shutdownAfter
  rw [h1, if_neg (by decide), if_neg (by omega)]
  rintro ⟨h, rfl⟩
  rw [ite_self] at h
  cases h

/-- The channel after a calm sample (R105). -/
def Bay.calmed (x : Bay) (f : SampleFrame) (e : Entry) (c : ClassCfg) : Bay :=
  { (x.sampled f).metered e f.sample x.gap with
    shutdown := shutdownAfter x.shutdown c.shutT f.t, openCount := x.openAfter f.i }

section Mild

variable (h : s.Mild b bytes f e k c r)

include h

theorem State.Mild.passed : (s.bay b).passed f e k c r = (s.bay b).calmed f e c := by
  have hv : tempValid f.t = true := (tempValid_iff _).mpr ⟨h.cold, h.hot⟩
  have hw : warningAfter ((s.bay b).sampled f |>.metered e f.sample (s.bay b).gap).warning c.warnT f.t
      = ((s.bay b).sampled f |>.metered e f.sample (s.bay b).gap).warning :=
    h.unwarned.symm ▸ warningAfter_mild hv h.mild
  unfold Bay.passed Bay.readied Bay.tracked
  rw [hw, if_pos rfl, if_neg (by exact shutdownAfter_cool hv h.cool), List.append_nil]
  rfl

theorem State.Mild.worked_eq (ho : 1 ≤ (s.bayCfg b).nOpen ∨ (s.bay b).mode ≠ .active)
    (hc : 0 < (s.bay b).blanking ∨ (s.bay b).level = 0 ∨ 5 ≤ f.i ∨ (s.bay b).mode ≠ .active) :
    s.worked b f = ((s.readied b f).setBay b ((s.bay b).calmed f e c)).workFrame b f.sample := by
  rw [h.toFresh.worked_passed h.toSound (.inl h.cool) fun hm hn => ?_, h.passed]
  unfold Bay.openAfter at hn ⊢
  split at hn <;> split <;> grind

theorem State.Mild.active_goesOn (hm : (s.bay b).mode = .active) (ho : 1 ≤ (s.bayCfg b).nOpen)
    (hc : 0 < (s.bay b).blanking ∨ (s.bay b).level = 0 ∨ 5 ≤ f.i)
    (hn : (if min 9000 f.v * 100 / k.cells ≤ c.endV then (s.bay b).endCount + 1 else 0) < 64) : (s.worked b f).bay b =
      ((s.bay b).calmed f e c).regulated (s.bayCfg b) (min 9000 f.v * 100 / k.cells) c.endV f.i := by
  have hw := s.readied_works b f
  rw [h.worked_eq (.inl ho) (hc.imp_right (Or.imp_right .inl)), State.workFrame_active (by exact h.kept) (by exact hm),
    State.activeFrame_goesOn (k := k) (by exact h.copies) (by rw [hw.classCfg_eq h.toFresh]; exact hn), State.bay_setBay_same,
    hw.classCfg_eq h.toFresh, hw.bayCfg_eq]
  rfl

theorem State.Mild.active_ends (hm : (s.bay b).mode = .active) (ho : 1 ≤ (s.bayCfg b).nOpen)
    (hc : 0 < (s.bay b).blanking ∨ (s.bay b).level = 0 ∨ 5 ≤ f.i)
    (hn : 64 ≤ if min 9000 f.v * 100 / k.cells ≤ c.endV then (s.bay b).endCount + 1 else 0) :
    (s.worked b f).bay b = ((s.bay b).calmed f e c).discharged e ∧ (s.worked b f).noted b 4 := by
  have hw := s.readied_works b f
  rw [h.worked_eq (.inl ho) (hc.imp_right (Or.imp_right .inl)), State.workFrame_active (by exact h.kept) (by exact hm)]
  refine ⟨State.activeFrame_ends (k := k) (by exact h.copies) (by exact h.bound) (by rw [hw.classCfg_eq h.toFresh]; exact hn),
    State.activeFrame_noted (k := k) (by rw [State.setBay_running, hw.running]; exact h.running)
      (by rw [State.bay_setBay_same]; exact h.copies) ?_⟩
  rw [State.bay_setBay_same, show ((s.readied b f).setBay b ((s.bay b).calmed f e c)).classCfg k.cls = (s.readied b f).classCfg k.cls
    from rfl, hw.classCfg_eq h.toFresh]
  exact hn

theorem State.Mild.probing (hm : (s.bay b).mode = .probing) :
    s.worked b f = ((s.readied b f).setBay b ((s.bay b).calmed f e c)).probeFrame b f.comparator := by
  have hne : (s.bay b).mode ≠ .active := by rw [hm]; decide
  rw [h.worked_eq (.inr hne) (.inr (.inr (.inr hne))), State.workFrame_probing (by exact h.kept) (by exact hm)]
  rfl

end Mild

/-! ### The answer -/

/-- A fresh frame is answered from the channel that its work leaves (R63, R78). -/
theorem State.Fresh.answers {a : BayAnswer} (h : s.Fresh b bytes f e k c r) (hy : (s.worked b f).bay b = y) (ha : y.accepted = a) :
    exec (.sampleFrame b bytes) s = .next (((s.worked b f).answerFrame b).packReading b f.t)
      ∧ ((s.worked b f).answerFrame b).bay b = { y with sent := some a } :=
  ⟨exec_freshFrame h.running h.reads h.configured h.new, by rw [State.answerFrame_bay, hy, ha]⟩

theorem State.answerFrame_noted (h : s.noted b n) : (s.answerFrame b).noted b n := (s.modBay_works b _).notes.noted h

/-- The writes of a calm sample are carries (R80). -/
theorem Bay.calmed_filter (x : Bay) (f : SampleFrame) (e : Entry) (c : ClassCfg) (l : List BayWrite) (hl : ∀ w ∈ l, w.isCarry = false) :
    ((x.calmed f e c).writes ++ l).filter (fun w => !w.isCarry) = x.writes.filter (fun w => !w.isCarry) ++ l := by
  have hm : ∀ n, (List.replicate n (BayWrite.carry e)).filter (fun w => !w.isCarry) = [] := fun n => by
    rw [List.filter_replicate]
    rfl
  have hl' : l.filter (fun w => !w.isCarry) = l := List.filter_eq_self.mpr fun w hw => by rw [hl w hw]; rfl
  rw [List.filter_append, hl']
  unfold Bay.calmed Bay.metered
  dsimp only
  rw [List.filter_append, hm, List.append_nil]
  rfl

theorem Bay.accepted_active (h : y.mode = .active) : y.accepted = { kind := .ack, level := y.level, step := 0 } := by
  rw [Bay.accepted_eq, h]
  rfl

theorem Bay.accepted_probing (h : y.mode = .probing) : y.accepted = { kind := .ack, level := 0, step := y.probe.step } := by
  rw [Bay.accepted_eq, h]
  rfl

theorem Bay.accepted_faulted (h : y.mode = .faulted) : y.accepted = { kind := .stall, level := 0, step := 0 } := by
  rw [Bay.accepted_eq, h]
  rfl

theorem Bay.calmed_openCount (hm : x.mode = .active) (hb : x.blanking = 0) (hi : 5 ≤ f.i) :
    (x.calmed f e c).openCount = if 1 ≤ x.level then 0 else x.openCount := by
  rw [show (x.calmed f e c).openCount = x.openAfter f.i from rfl, Bay.openAfter]
  by_cases h : 1 ≤ x.level
  · rw [if_pos ⟨hm, hb, h⟩, if_pos h, if_neg (by omega)]
  · rw [if_neg (fun q => h q.2.2), if_neg h]

/-- What a fresh frame gives: its answer, a fact on the state that answers it, and attention. -/
def State.Gives (s : State) (b : BayId) (bytes : List Byte) (f : SampleFrame) (detail : Nat) (kind : AnswerKind) (level step : Nat)
    (holds : State → Prop) : Prop :=
  ∃ u, exec (.sampleFrame b bytes) s = .next (u.packReading b f.t) ∧ holds u
    ∧ (u.bay b).sent = some { kind := kind, level := level, step := step }
    ∧ (detail < 9 → ∀ p, ((u.port p).attn.bays.get b).getLsbD detail = true)

theorem State.Fresh.gives {kind : AnswerKind} {level step detail : Nat} {holds : State → Prop} (h : s.Fresh b bytes f e k c r)
    (hy : (s.worked b f).bay b = y) (ha : y.accepted = { kind := kind, level := level, step := step })
    (hn : detail < 9 → (s.worked b f).noted b detail)
    (hu : ((s.worked b f).answerFrame b).bay b = { y with sent := some { kind := kind, level := level, step := step } } →
      holds ((s.worked b f).answerFrame b)) : s.Gives b bytes f detail kind level step holds := by
  obtain ⟨hexec, hbay⟩ := h.answers hy ha
  exact ⟨_, hexec, hu hbay, by rw [hbay], fun hd => State.answerFrame_noted (hn hd)⟩

/-- What the pack-temperature channel leaves of the channel answered. -/
theorem State.packReading_kept (s : State) (b : BayId) (v : Int) : ((s.packReading b v).bay b).sent = (s.bay b).sent
    ∧ ((s.packReading b v).bay b).endCount = (s.bay b).endCount ∧ ((s.packReading b v).bay b).probe = (s.bay b).probe :=
  ⟨(congrArg Bay.sent (s.packReading_steady b v) :), (congrArg Bay.endCount (s.packReading_steady b v) :),
    (congrArg Bay.probe (s.packReading_steady b v) :)⟩

/-- The channel after a step of the regulator on a calm sample (R89 to R91, R93, R105). -/
theorem State.Mild.active_steps {limit : Nat} (h : s.Mild b bytes f e k c r) (hm : (s.bay b).mode = .active) (ho : 1 ≤ (s.bayCfg b).nOpen)
    (hl : (s.bay b).limit = some limit) (hb : (s.bay b).blanking = 0) (hh : (s.bay b).holdOff = none) (hi : 5 ≤ f.i)
    (hn : (if min 9000 f.v * 100 / k.cells ≤ c.endV then (s.bay b).endCount + 1 else 0) < 64) : (s.worked b f).bay b =
      { (s.bay b).calmed f e c with
        endCount := if min 9000 f.v * 100 / k.cells ≤ c.endV then (s.bay b).endCount + 1 else 0
        level := (s.bay b).stepped limit (s.bayCfg b).cap (min 9000 f.v * 100 / k.cells) c.endV f.i
        blanking := if (s.bay b).stepped limit (s.bayCfg b).cap (min 9000 f.v * 100 / k.cells) c.endV f.i = (s.bay b).level then 0 else 2
        holdOff := if limit < f.i then some (s.bayCfg b).toff else none
        openCount := if limit < f.i ∨ 1 ≤ (s.bay b).level then 0 else (s.bay b).openCount } := by
  have hopen : (if limit < f.i then 0 else ((s.bay b).calmed f e c).openCount)
      = if limit < f.i ∨ 1 ≤ (s.bay b).level then 0 else (s.bay b).openCount := by
    rw [Bay.calmed_openCount hm hb hi]
    split <;> split <;> grind
  rw [h.active_goesOn hm ho (.inr (.inr hi)) hn, Bay.regulated_stepped (by exact hb) (by exact hh) (by exact hl), hopen]
  rfl

/-- The classification of three results (Table 3-5). -/
theorem classify_eq (r1 r2 r3 : Bool) : classify ([r1, r2] ++ [r3]) = match r1, r2, r3 with
    | false, true, true => .normal
    | true, true, true => .opened
    | false, false, _ => .leakNeg
    | false, true, false => .leakPos
    | true, false, _ | true, true, false => .inconsistent := by
  cases r1 <;> cases r2 <;> cases r3 <;> rfl

/-- The state with the three results of a probe (R71). -/
def State.probed (s : State) (b : BayId) (f : SampleFrame) (e : Entry) (c : ClassCfg) : State :=
  (s.readied b f).setBay b { (s.bay b).calmed f e c with
    probe := { (s.bay b).probe with count := 0, results := (s.bay b).probe.results ++ [f.comparator] } }

/-- The last frame of a probe gives its outcome (R71, R72). -/
theorem State.Mild.third (h : s.Mild b bytes f e k c r) (hm : (s.bay b).mode = .probing) (hc : (s.bay b).probe.count = 2)
    (hs : (s.bay b).probe.step = 3) :
    s.worked b f = (s.probed b f e c).endProbe b (classify ((s.bay b).probe.results ++ [f.comparator]))
    ∧ (s.probed b f e c).bay b = { (s.bay b).calmed f e c with
        probe := { (s.bay b).probe with count := 0, results := (s.bay b).probe.results ++ [f.comparator] } }
    ∧ s.Works (s.probed b f e c) := by
  refine ⟨?_, State.bay_setBay_same .., (s.readied_works b f).trans (State.setBay_works _ _ _)⟩
  rw [h.probing hm, State.probeFrame_ends _ (by exact hc) (by exact hs)]
  rfl

/-- The state asks for writes beside the carries of a channel. -/
def State.Asked (u : State) (b : BayId) (x : Bay) (l : List BayWrite) : Prop :=
  (u.bay b).writes.filter (fun w => !w.isCarry) = x.writes.filter (fun w => !w.isCarry) ++ l

theorem Bay.calmed_asked {a : Option BayAnswer} {l : List BayWrite} (hu : u.bay b = { y with sent := a })
    (hy : y.writes = (x.calmed f e c).writes ++ l) (hl : ∀ w ∈ l, w.isCarry = false) : u.Asked b x l := by
  rw [State.Asked, hu]
  exact (congrArg (List.filter _) hy).trans (Bay.calmed_filter x f e c l hl)

section Third

variable {o : ProbeOutcome} (h : s.Mild b bytes f e k c r) (hm : (s.bay b).mode = .probing) (hc : (s.bay b).probe.count = 2)
  (hs : (s.bay b).probe.step = 3) (ho : classify ((s.bay b).probe.results ++ [f.comparator]) = o)

include h hm hc hs ho

/-- The outcome of a probe acts (R72). -/
theorem State.Mild.decides : s.worked b f = (s.probed b f e c).endProbe b o ∧ (s.worked b f).noted b 3 := by
  obtain ⟨hworked, -, hworks⟩ := h.third hm hc hs
  rw [ho] at hworked
  refine ⟨hworked, ?_⟩
  rw [hworked]
  exact State.endProbe_noted (by rw [hworks.running]; exact h.running) _

/-- A probe that finds nothing (R72). -/
theorem State.Mild.probe_normal (hn : o = .normal) : s.Gives b bytes f 3 .ack 1 0 fun u => (u.bay b = { (u.bay b) with
      mode := .active, level := 1, blanking := 2, endCount := 0, openCount := 0, holdOff := none, lastStage := .discharging }
      ∧ (u.bay b).probe.last = some o)
    ∧ u.Asked b (s.bay b) [.stage { entry := e, expected := .probing, new := .discharging }] := by
  obtain ⟨hworked, hnoted⟩ := h.decides hm hc hs ho
  obtain ⟨-, hbay, -⟩ := h.third hm hc hs
  subst hn
  have hy := State.endProbe_normal (s := s.probed b f e c) (b := b) (e := e) (by rw [hbay]; exact h.bound)
  rw [← hworked, hbay] at hy
  refine h.toFresh.gives hy (Bay.accepted_active (by rfl)) (fun _ => hnoted) fun hu => ⟨⟨?_, ?_⟩, ?_⟩
  · rw [hu]; rfl
  · rw [hu]; rfl
  · exact Bay.calmed_asked (e := e) (f := f) (c := c) hu rfl (by simp [BayWrite.isCarry])

/-- A probe that finds a leak (R72, R86). -/
theorem State.Mild.probe_leaks (hn : o = .leakNeg ∨ o = .leakPos) : s.Gives b bytes f 3 .ack 1 0 fun u => (u.bay b = { (u.bay b) with
      mode := .active, level := 1, blanking := 2, endCount := 0, openCount := 0, holdOff := none, lastStage := .discharging }
      ∧ (u.bay b).probe.last = some o)
    ∧ (u.bay b).isoDerate = true ∧ (u.bay b).limit = some (currentLimit r c.cRate k.capacity k.damaged true false)
    ∧ u.Asked b (s.bay b) [.flag e .isolationFault, .stage { entry := e, expected := .probing, new := .discharging }] := by
  obtain ⟨hworked, hnoted⟩ := h.decides hm hc hs ho
  obtain ⟨-, hbay, hworks⟩ := h.third hm hc hs
  have hy := State.endProbe_leak hn (s := s.probed b f e c) (b := b) (e := e) (k := k) (by rw [hbay]; exact h.bound)
    (by rw [hbay]; exact h.copies)
  rw [← hworked, hbay, hworks.classCfg_eq h.toFresh, hworks.rating_eq h.toFresh] at hy
  refine h.toFresh.gives hy (Bay.accepted_active (by rfl)) (fun _ => hnoted) fun hu => ⟨⟨?_, ?_⟩, ?_, ?_, ?_⟩
  · rw [hu]; rfl
  · rw [hu]; rfl
  · rw [hu]; rfl
  · rw [hu]
    change some (currentLimit r c.cRate k.capacity k.damaged true (s.bay b).warning) = _
    rw [h.unwarned]
  · exact Bay.calmed_asked (e := e) (f := f) (c := c) hu (List.append_assoc _ _ _) (by simp [BayWrite.isCarry])

section Fails

variable (hn : o = .opened ∨ o = .inconsistent)

include hn

/-- A failed attempt with another to follow (R73). -/
theorem State.Mild.probe_again (ha : (s.bay b).probe.attempt < 3) : s.Gives b bytes f 3 .ack 0 1 fun u =>
    (u.bay b).mode = .probing ∧ u.Asked b (s.bay b) [] ∧ (u.bay b).probe = { (s.bay b).probe with
      step := 1, count := 0, results := [], attempt := (s.bay b).probe.attempt + 1, last := some o } := by
  obtain ⟨hworked, hnoted⟩ := h.decides hm hc hs ho
  obtain ⟨-, hbay, -⟩ := h.third hm hc hs
  have hy := State.endProbe_again hn (s := s.probed b f e c) (b := b) (by rw [hbay]; exact ha)
  rw [← hworked, hbay] at hy
  refine h.toFresh.gives hy (Bay.accepted_probing (by exact hm)) (fun _ => hnoted) fun hu => ⟨?_, ?_, ?_⟩
  · rw [hu]; exact hm
  · exact Bay.calmed_asked (e := e) (f := f) (c := c) hu (List.append_nil _).symm (by simp)
  · rw [hu]

/-- The third failed attempt of round 1 (R73). -/
theorem State.Mild.probe_faults (ha : 3 ≤ (s.bay b).probe.attempt) (hr : (s.bay b).probe.round = 1) :
    s.Gives b bytes f 3 .stall 0 0 fun u => u.bay b = { (u.bay b) with
      mode := .faulted, level := 0, binding := some e, releasePending := decide ((s.bay b).probe.round ≠ 1)
      probe := { (s.bay b).probe with step := 1, count := 0, results := [], last := some o }
      fault := some { cause := if o = .opened then .probeOpen else .probeInconsistent, entered := .probing, shutdown := none } }
      ∧ u.Asked b (s.bay b) [] := by
  obtain ⟨hworked, hnoted⟩ := h.decides hm hc hs ho
  obtain ⟨-, hbay, -⟩ := h.third hm hc hs
  have hy := State.endProbe_faulted hn (s := s.probed b f e c) (b := b) (by rw [hbay]; exact ha) (by rw [hbay]; exact hr)
  rw [← hworked, hbay] at hy
  refine h.toFresh.gives hy (Bay.accepted_faulted (by rfl)) (fun _ => hnoted) fun hu => ⟨?_, ?_⟩
  · have hround : decide ((s.bay b).probe.round ≠ 1) = (s.bay b).releasePending := by
      rw [h.kept]
      exact decide_eq_false (fun h => h hr)
    rw [hu, hround, ← h.bound]
    rcases hn with rfl | rfl <;> rfl
  · exact Bay.calmed_asked (e := e) (f := f) (c := c) hu (List.append_nil _).symm (by simp)

/-- The third failed attempt of round 2 (R73). -/
theorem State.Mild.probe_gives_up (ha : 3 ≤ (s.bay b).probe.attempt) (hr : (s.bay b).probe.round ≠ 1) :
    s.Gives b bytes f 3 .stall 0 0 fun u => u.bay b = { (u.bay b) with
      mode := .faulted, level := 0, binding := some e, releasePending := decide ((s.bay b).probe.round ≠ 1)
      probe := { (s.bay b).probe with step := 1, count := 0, results := [], last := some o }
      fault := some { cause := if o = .opened then .probeOpen else .probeInconsistent, entered := .probing, shutdown := none } }
      ∧ u.Asked b (s.bay b) [.unbind { entry := e, expected := .probing, new := .waiting }] := by
  obtain ⟨hworked, hnoted⟩ := h.decides hm hc hs ho
  obtain ⟨-, hbay, -⟩ := h.third hm hc hs
  have hy := State.endProbe_gives_up hn (s := s.probed b f e c) (b := b) (e := e) (by rw [hbay]; exact ha) (by rw [hbay]; exact hr)
    (by rw [hbay]; exact h.bound)
  rw [← hworked, hbay] at hy
  refine h.toFresh.gives hy (Bay.accepted_faulted (by rfl)) (fun _ => hnoted) fun hu => ⟨?_, ?_⟩
  · rw [hu, decide_eq_true hr, ← h.bound]
    rcases hn with rfl | rfl <;> rfl
  · exact Bay.calmed_asked (e := e) (f := f) (c := c) hu rfl (by simp [BayWrite.isCarry])

end Fails

end Third

/-- Settles O42: the work of ACTIVE by blanking, hold-off and the count of low samples, that of PROBING by the step and the
outcome. -/
theorem freshFramesRegulateAndProbe : Obligations.FreshFramesRegulateAndProbe := by
  intro s b bytes f e k c rating hr hx x ht hb hc hk hrate hp hw hcold hmild hcool hhot hload hrange hbelow cell stepped
  have hMild : ∀ {q : BayState}, x.mode = q → q ≠ .unconfigured → s.Mild b bytes f e k c rating := fun hq hn =>
    ⟨⟨hr, hx, by rw [show (s.bay b).mode = _ from hq]; exact hn, ht, hb, hc, hk, hrate⟩, ⟨hcold, hhot, hload, hrange, hbelow⟩,
      hw, hmild, hcool, hp⟩
  refine ⟨?_, fun hm hcount => ?_, fun hm hcount hstep => ?_, ?_⟩
  · intro limit hm hl hbl hh hi ho hn level
    have h := hMild hm (by decide)
    have hn' : (if cell ≤ c.endV then x.endCount + 1 else 0) < 64 := by
      split
      · next hle => exact hn hle
      · decide
    obtain ⟨hexec, hbay⟩ := h.toFresh.answers (h.active_steps hm ho hl hbl hh hi hn') (Bay.accepted_active (by exact hm))
    obtain ⟨hsent, hend, -⟩ := State.packReading_kept ((s.worked b f).answerFrame b) b f.t
    exact ⟨_, hexec, by rw [hsent, hbay]; rfl, by rw [hend, hbay]⟩
  · have h := hMild hm (by decide)
    obtain ⟨hexec, hbay⟩ := h.toFresh.answers (y := { x.calmed f e c with probe := { x.probe with count := x.probe.count + 1 } })
      (by rw [h.probing hm, State.probeFrame_settles _ (by exact hcount), State.bay_setBay_same]; rfl) (Bay.accepted_probing (by exact hm))
    obtain ⟨hsent, -, hprobe⟩ := State.packReading_kept ((s.worked b f).answerFrame b) b f.t
    exact ⟨_, hexec, by rw [hprobe, hbay], by rw [hsent, hbay]⟩
  · have h := hMild hm (by decide)
    obtain ⟨hexec, hbay⟩ := h.toFresh.answers (y := { x.calmed f e c with
        probe := { x.probe with step := x.probe.step + 1, count := 0, results := x.probe.results ++ [f.comparator] } })
      (by rw [h.probing hm, State.probeFrame_steps _ (by exact hcount) (by exact hstep), State.bay_setBay_same]; rfl)
      (Bay.accepted_probing (by exact hm))
    obtain ⟨hsent, -, hprobe⟩ := State.packReading_kept ((s.worked b f).answerFrame b) b f.t
    exact ⟨_, hexec, by rw [hprobe, hbay], by rw [hsent, hbay]⟩
  intro asks gives count stage
  have hgives : ∀ {kind level step detail holds}, s.Gives b bytes f detail kind level step holds → gives detail kind level step holds :=
    fun h => h
  refine ⟨fun hm ho => ⟨fun hn => ⟨fun hbl => ?_, fun n hbl hh hi => ?_, ?_⟩, fun hn hc' => ?_⟩,
    fun r1 r2 hm hcount hstep hres => ?_⟩
  · have h := hMild hm (by decide)
    refine hgives (h.toFresh.gives ((h.active_goesOn hm ho (.inl hbl) hn).trans (Bay.regulated_blanked (by exact hbl) ..))
      (Bay.accepted_active (by exact hm)) (fun h9 => absurd h9 (by decide)) fun hu => ?_)
    rw [hu, ← show x.mode = .active from hm]
    rfl
  · have h := hMild hm (by decide)
    refine hgives (h.toFresh.gives ((h.active_goesOn hm ho (.inr (.inr hi)) hn).trans
      (Bay.regulated_holdOff (n := n) (by exact hbl) (by exact hh) ..))
      (Bay.accepted_active (by exact hm)) (fun h9 => absurd h9 (by decide)) fun hu => ?_)
    rw [hu]
    congr 1
  · intro limit hl hbl hh hi level
    have h := hMild hm (by decide)
    refine hgives (h.toFresh.gives (h.active_steps hm ho hl hbl hh hi hn)
      (Bay.accepted_active (by exact hm)) (fun h9 => absurd h9 (by decide)) fun hu => ?_)
    rw [hu, ← show x.mode = .active from hm]
    rfl
  · have h := hMild hm (by decide)
    obtain ⟨hy, hnoted⟩ := h.active_ends hm ho hc' hn
    refine hgives (h.toFresh.gives hy (y := (x.calmed f e c).discharged e) (by rfl) (fun _ => hnoted) fun hu => ⟨?_, ?_⟩)
    · rw [hu]
      rfl
    · exact Bay.calmed_asked (e := e) (f := f) (c := c) hu rfl (by simp [BayWrite.isCarry])
  · have h := hMild hm (by decide)
    intro outcome
    have hout : classify (x.probe.results ++ [f.comparator]) = outcome := by
      rw [hres]
      exact classify_eq r1 r2 f.comparator
    clear_value outcome
    intro enters base faults
    refine ⟨fun ho => ?_, fun ho => ?_, fun ho => ⟨fun ha => ?_, fun ha hn => ?_, fun ha hn => ?_⟩⟩
    · subst ho
      exact h.probe_normal hm hcount hstep hout rfl
    · exact h.probe_leaks hm hcount hstep hout ho
    · exact h.probe_again hm hcount hstep hout ho ha
    · exact h.probe_faults hm hcount hstep hout ho ha hn
    · exact h.probe_gives_up hm hcount hstep hout ho ha hn

end Sys2Proof.Machine
end

section
/-!
PROOFS. What a fresh sample of a bound bay moves beside its faults: the temperature conditions, the open-connection count, the
retries it completes and its pack-temperature channel (R86, R103 to R105, R110, R111, R156 to R159).
-/

namespace Sys2Proof.Machine

variable {s t u : State} {b : BayId} {x y : Bay} {e e' : Entry} {n r : Nat} {f : SampleFrame} {p : Sample} {bytes : List Byte}
  {k : Copies} {c : ClassCfg}

/-! ### What only the temperature conditions and the probe move -/

/-- The conditions of a channel, its current limit, and the OVERTEMP writes that it asks for. -/
def Bay.traits (x : Bay) (e : Entry) : Bool × Bool × Bool × Option Nat × Option Copies × Nat :=
  (x.warning, x.shutdown, x.isoDerate, x.limit, x.copies, x.writes.count (.flag e .overtemp))

/-- A step keeps the conditions of a channel. -/
def State.Keeps (b : BayId) (e : Entry) (s t : State) : Prop := (t.bay b).traits e = (s.bay b).traits e

theorem State.Keeps.refl (s : State) : s.Keeps b e s := rfl

theorem State.Keeps.trans (h : s.Keeps b e t) (k : t.Keeps b e u) : s.Keeps b e u := Eq.trans k h

theorem State.Keeps.ite {q : Prop} [Decidable q] {v w : State} (h : s.Keeps b e v) (k : s.Keeps b e w) :
    s.Keeps b e (if q then v else w) := by
  split
  · exact h
  · exact k

theorem State.setBay_keeps (h : y.traits e = (s.bay b).traits e) : s.Keeps b e (s.setBay b y) := by
  rw [State.Keeps, State.bay_setBay_same, h]

theorem State.modBay_keeps {g : Bay → Bay} (h : (g (s.bay b)).traits e = (s.bay b).traits e) : s.Keeps b e (s.modBay b g) :=
  State.setBay_keeps h

theorem State.raiseBay_keeps (s : State) (d : BayDetail) : s.Keeps b e (s.raiseBay b d) := by rw [State.Keeps, State.raiseBay_bay]

theorem State.askBay_keeps (s : State) {w : BayWrite} (h : w ≠ .flag e .overtemp) : s.Keeps b e (s.askBay b w) := by
  rw [State.Keeps, State.askBay_bay_same, Bay.traits, List.count_append, List.count_singleton]
  rw [if_neg (by simpa using h)]
  rfl

theorem State.askFlag_keeps (s : State) {g : HazardFlag} (h : g ≠ .overtemp) : s.Keeps b e (s.askFlag b g) := by
  unfold State.askFlag
  split
  · exact s.askBay_keeps fun hw => h (by cases hw; rfl)
  · exact .refl s

theorem State.askStage_keeps (s : State) (g h : Stage) (q : Option (Nat × Nat)) : s.Keeps b e (s.askStage b g h q) := by
  unfold State.askStage
  split
  · exact State.Keeps.trans (State.modBay_keeps (by rfl)) (State.askBay_keeps _ nofun)
  · exact .refl s

theorem State.askUnbind_keeps (s : State) (g h : Stage) (q : Option (Nat × Nat)) (l : Bool) :
    s.Keeps b e (s.askUnbind b g h q l) := by
  unfold State.askUnbind
  split
  · exact State.Keeps.trans (State.modBay_keeps (by rfl)) (State.askBay_keeps _ nofun)
  · exact .refl s

theorem State.raiseFault_keeps (s : State) (q : FaultCause) : s.Keeps b e (s.raiseFault b q) := .ite (.refl s) (s.raiseBay_keeps .fault)

theorem State.takeFault_keeps (s : State) (q : FaultCause) : s.Keeps b e (s.takeFault b q) := by
  unfold State.takeFault
  dsimp only
  split
  · split
    · exact State.Keeps.trans (State.setBay_keeps (by rfl)) (State.raiseFault_keeps _ _)
    · exact State.Keeps.trans (State.Keeps.ite (State.Keeps.trans (State.setBay_keeps (by rfl)) (State.askUnbind_keeps _ _ _ _ _))
        (State.setBay_keeps (by rfl))) (State.raiseFault_keeps _ _)
  · exact State.Keeps.trans (State.setBay_keeps (by rfl)) (State.raiseFault_keeps _ _)

theorem State.testBound_keeps (s : State) (p : Sample) : s.Keeps b e (s.testBound b p) := by
  unfold State.testBound
  dsimp only
  split
  · exact .refl s
  · split
    · exact s.takeFault_keeps _
    · exact .ite (State.Keeps.trans (State.Keeps.trans (State.modBay_keeps (by rfl)) (State.askFlag_keeps _ (by decide)))
        (State.takeFault_keeps _ _)) (State.modBay_keeps (by rfl))

/-- A fault takes no bay into PROBING (R107). -/
theorem State.takeFault_mode (s : State) (q : FaultCause) :
    ((s.takeFault b q).bay b).mode = .retrying ∨ ((s.takeFault b q).bay b).mode = .faulted := by
  have hraise : ∀ v : State, ((v.raiseFault b q).bay b).mode = (v.bay b).mode := fun v => by
    unfold State.raiseFault
    split
    · rfl
    · rw [State.raiseBay_bay]
  have hask : ∀ (v : State) g h o l, ((v.askUnbind b g h o l).bay b).mode = (v.bay b).mode := fun v g h o l => by
    unfold State.askUnbind
    split
    · rw [State.askBay_bay_same, State.modBay, State.bay_setBay_same]
    · rfl
  unfold State.takeFault
  dsimp only
  split
  · split
    · rw [hraise, State.bay_setBay_same]
      exact .inl rfl
    · rw [hraise]
      split
      · rw [hask, State.bay_setBay_same]
        exact .inr rfl
      · rw [State.bay_setBay_same]
        exact .inr rfl
  · rw [hraise, State.bay_setBay_same]
    exact .inr rfl

/-- The tests take no bay into PROBING (R101). -/
theorem State.testBound_probing (s : State) (p : Sample) (h : ((s.testBound b p).bay b).mode = .probing) :
    (s.bay b).mode = .probing := by
  have hfault : ∀ (v : State) q, ((v.takeFault b q).bay b).mode ≠ .probing := fun v q hq => by
    rcases v.takeFault_mode (b := b) q with hm | hm <;> rw [hq] at hm <;> cases hm
  unfold State.testBound at h
  dsimp only at h
  split at h
  · exact h
  · split at h
    · exact absurd h (hfault _ _)
    · split at h
      · exact absurd h (hfault _ _)
      · rw [State.modBay, State.bay_setBay_same] at h
        exact h

theorem Bay.setLevel_traits (x : Bay) (l : Nat) (e : Entry) : (x.setLevel l).traits e = x.traits e := by
  unfold Bay.setLevel
  split <;> rfl

theorem Bay.regulate_traits (x : Bay) (limit cap toff v endV i : Nat) (e : Entry) :
    (x.regulate limit cap toff v endV i).traits e = x.traits e := by
  unfold Bay.regulate
  split
  · exact x.setLevel_traits _ e
  · split
    · exact x.setLevel_traits _ e
    · rfl

theorem State.regulator_keeps (s : State) (p : Sample) (cells endV : Nat) : s.Keeps b e (s.regulator b p cells endV) := by
  unfold State.regulator
  refine State.modBay_keeps ?_
  split
  · rfl
  · split
    · exact Bay.regulate_traits _ _ _ _ _ _ _ _
    · rfl

theorem State.activeFrame_keeps (s : State) (p : Sample) : s.Keeps b e (s.activeFrame b p) := by
  unfold State.activeFrame
  dsimp only
  split
  · exact .refl s
  · exact .ite (State.Keeps.trans (State.Keeps.trans (State.modBay_keeps (by rfl)) (State.askStage_keeps _ _ _ _)) (State.raiseBay_keeps _ _))
      (State.Keeps.trans (State.modBay_keeps (by rfl)) (State.regulator_keeps _ _ _ _))

theorem State.endRetry_keeps (s : State) : s.Keeps b e (s.endRetry b) := State.Keeps.trans (State.modBay_keeps (by rfl)) (State.raiseBay_keeps _ _)

theorem State.retryFrame_keeps (s : State) (p : Sample) : s.Keeps b e (s.retryFrame b p) := by
  unfold State.retryFrame
  dsimp only
  split
  · exact .ite s.endRetry_keeps (.refl s)
  · exact .ite s.endRetry_keeps (State.modBay_keeps (by rfl))
  · exact .refl s

theorem State.failProbe_keeps (s : State) (o : ProbeOutcome) : s.Keeps b e (s.failProbe b o) := by
  unfold State.failProbe
  dsimp only
  have h2 : s.Keeps b e ((s.setBay b { s.bay b with probe := (s.bay b).probe.restart }).modBay b (fun y => y.probeFaulted o.cause)) :=
    State.Keeps.trans (State.setBay_keeps (by rfl)) (State.modBay_keeps (by rfl))
  exact .ite (State.setBay_keeps (by rfl)) (.ite h2 (h2.trans (State.askUnbind_keeps _ _ _ _ _)))

/-- The channel with the limit that a leak leaves (R86). -/
def Bay.leaky (x : Bay) (k : Copies) (c : ClassCfg) (r : Nat) : Bay :=
  { x with isoDerate := true, limit := some (currentLimit r c.cRate k.capacity k.damaged true x.warning) }

/-- A frame keeps the conditions of a channel, or finds a leak in PROBING (R72). -/
def State.Leaks (b : BayId) (e : Entry) (k : Copies) (s t : State) : Prop :=
  s.Keeps b e t ∨ ((s.bay b).mode = .probing ∧ (t.bay b).traits e = ((s.bay b).leaky k (s.classCfg k.cls) (s.rating b)).traits e)

theorem State.endProbe_leaks (hm : (s.bay b).mode = .probing) (hb : (s.bay b).binding = some e') (hk : (s.bay b).copies = some k)
    (o : ProbeOutcome) : s.Leaks b e k (s.endProbe b o) := by
  have hj : s.Keeps b e (s.judged b o) := State.Keeps.trans (State.modBay_keeps (by rfl)) (State.raiseBay_keeps _ _)
  have hleak : ∀ q, q = ProbeOutcome.leakNeg ∨ q = .leakPos → s.Leaks b e k (s.endProbe b q) := fun q hq => by
    refine .inr ⟨hm, ?_⟩
    rw [State.endProbe_leak hq hb hk]
    have hnone : [BayWrite.flag e' .isolationFault, .stage { entry := e', expected := .probing, new := .discharging }].count
        (BayWrite.flag e .overtemp) = 0 := List.count_eq_zero.mpr (by simp)
    have hcount : ((s.bay b).writes ++ [BayWrite.flag e' .isolationFault] ++ [BayWrite.stage { entry := e', expected := .probing, new := .discharging }]).count
        (BayWrite.flag e .overtemp) = (s.bay b).writes.count (BayWrite.flag e .overtemp) := by
      rw [List.append_assoc, List.count_append]
      exact congrArg ((s.bay b).writes.count _ + ·) hnone
    exact congrArg (fun n => (_, _, _, _, _, n)) hcount
  cases o
  case normal => exact .inl (hj.trans (State.Keeps.trans (State.modBay_keeps (by rfl)) (State.askStage_keeps _ _ _ _)))
  case leakNeg => exact hleak _ (.inl rfl)
  case leakPos => exact hleak _ (.inr rfl)
  case opened | inconsistent => exact .inl (hj.trans (State.failProbe_keeps _ _))

theorem State.workFrame_leaks (hb : (s.bay b).binding = some e') (hk : (s.bay b).copies = some k) (p : Sample) :
    s.Leaks b e k (s.workFrame b p) := by
  unfold State.workFrame
  split
  · exact .inl (.refl s)
  split
  · next hm =>
    unfold State.probeFrame
    dsimp only
    split
    · exact .inl (State.modBay_keeps (by rfl))
    · split
      · exact .inl (State.modBay_keeps (by rfl))
      · rcases State.endProbe_leaks (s := s.modBay b (fun x => { x with
            probe := { (s.bay b).probe with count := 0, results := (s.bay b).probe.results ++ [p.comparator] } }))
          (b := b) (e := e) (e' := e') (k := k) (by rw [State.modBay, State.bay_setBay_same]; exact hm)
          (by rw [State.modBay, State.bay_setBay_same]; exact hb) (by rw [State.modBay, State.bay_setBay_same]; exact hk) _ with h | ⟨-, h⟩
        · exact .inl (State.Keeps.trans (State.modBay_keeps (by rfl)) h)
        · rw [State.modBay, State.bay_setBay_same] at h
          exact .inr ⟨hm, h⟩
  · exact .inl (s.activeFrame_keeps p)
  · exact .inl (s.retryFrame_keeps p)
  all_goals exact .inl (.refl s)

/-! ### The conditions after the frame -/

theorem warningAfter_eq (on : Bool) (w : Nat) (v : Int) : warningAfter on w v =
    if (-40 ≤ v ∧ v ≤ 150) ∧ (w : Int) ≤ v then true else if (-40 ≤ v ∧ v ≤ 150) ∧ v < (w : Int) - 5 then false else on := by
  unfold warningAfter
  by_cases h : -40 ≤ v ∧ v ≤ 150
  · rw [(tempValid_iff v).mpr h, if_neg (by decide)]
    exact ite_congr (propext (and_iff_right h).symm) (fun _ => rfl) (fun _ => ite_of_iff (and_iff_right h).symm _ _)
  · have hv : tempValid v = false := by
      rw [← Bool.not_eq_true, tempValid_iff]
      exact h
    rw [hv, if_pos (by decide), if_neg (fun q => h q.1), if_neg (fun q => h q.1)]

theorem shutdownAfter_eq (on : Bool) (w : Nat) (v : Int) : shutdownAfter on w v =
    if (-40 ≤ v ∧ v ≤ 150) ∧ (w : Int) ≤ v then true else if (-40 ≤ v ∧ v ≤ 150) ∧ v < (w : Int) - 5 then false else on :=
  warningAfter_eq on w v

/-- The writes for OVERTEMP of a readied channel (R104). -/
theorem Bay.readied_count (x : Bay) : (x.readied f e k c r).writes.count (.flag e .overtemp) =
    x.writes.count (.flag e .overtemp) + if (x.readied f e k c r).shutdown = true ∧ x.shutdown = false then 1 else 0 := by
  have hcarries : ∀ n, (List.replicate n (BayWrite.carry e)).count (.flag e .overtemp) = 0 := fun n =>
    List.count_eq_zero.mpr fun h => by cases List.eq_of_mem_replicate h
  have hwrites : ((x.sampled f).metered e f.sample x.gap).writes.count (.flag e .overtemp) = x.writes.count (.flag e .overtemp) :=
    List.count_append.trans (by rw [hcarries]; rfl)
  unfold Bay.readied Bay.tracked
  dsimp only
  rw [List.count_append, hwrites]
  congr 1
  by_cases h : shutdownAfter x.shutdown c.shutT f.t = true ∧ x.shutdown = false
  · rw [if_pos (by exact h), if_pos (by exact h), List.count_singleton_self]
  · rw [if_neg (by exact h), if_neg (by exact h), List.count_nil]

theorem Bay.traits_eq (h : y.traits e = x.traits e) : y.warning = x.warning ∧ y.shutdown = x.shutdown ∧ y.isoDerate = x.isoDerate
    ∧ y.limit = x.limit ∧ y.copies = x.copies ∧ y.writes.count (.flag e .overtemp) = x.writes.count (.flag e .overtemp) := by
  simpa only [Bay.traits, Prod.mk.injEq] using h

/-- The conditions of a channel after a frame that may find a leak, with its channel before it. -/
theorem State.Leaks.conditions (h : s.Leaks b e k t) (hx : (s.bay b).traits e = x.traits e) (hm : (s.bay b).mode = .probing → x.mode = .probing)
    (hc : s.classCfg k.cls = c) (hr : s.rating b = r) :
    (t.bay b).warning = x.warning ∧ (t.bay b).shutdown = x.shutdown
      ∧ (t.bay b).writes.count (.flag e .overtemp) = x.writes.count (.flag e .overtemp)
      ∧ (((t.bay b).isoDerate = x.isoDerate ∧ (t.bay b).limit = x.limit)
        ∨ (x.mode = .probing ∧ (t.bay b).isoDerate = true
          ∧ (t.bay b).limit = some (currentLimit r c.cRate k.capacity k.damaged true x.warning))) := by
  obtain ⟨hwarn, hshut, hiso, hlimit, -, hcount⟩ := Bay.traits_eq hx
  rcases h with h | ⟨hp, h⟩ <;> obtain ⟨hwarn', hshut', hiso', hlimit', -, hcount'⟩ := Bay.traits_eq h
  · exact ⟨hwarn'.trans hwarn, hshut'.trans hshut, hcount'.trans hcount, .inl ⟨hiso'.trans hiso, hlimit'.trans hlimit⟩⟩
  · refine ⟨hwarn'.trans hwarn, hshut'.trans hshut, hcount'.trans hcount, .inr ⟨hm hp, hiso', hlimit'.trans ?_⟩⟩
    rw [Bay.leaky, hwarn, hc, hr]

/-- What the tests and the work of a bay leave of the conditions (R86, R103, R104). -/
theorem State.Fresh.conditions (h : s.Fresh b bytes f e k c r) :
    ((s.worked b f).bay b).warning = ((s.bay b).readied f e k c r).warning
      ∧ ((s.worked b f).bay b).shutdown = ((s.bay b).readied f e k c r).shutdown
      ∧ ((s.worked b f).bay b).writes.count (.flag e .overtemp) = ((s.bay b).readied f e k c r).writes.count (.flag e .overtemp)
      ∧ ((((s.worked b f).bay b).isoDerate = (s.bay b).isoDerate
            ∧ ((s.worked b f).bay b).limit = ((s.bay b).readied f e k c r).limit)
        ∨ ((s.bay b).mode = .probing ∧ ((s.worked b f).bay b).isoDerate = true ∧ ((s.worked b f).bay b).limit
            = some (currentLimit r c.cRate k.capacity k.damaged true ((s.bay b).readied f e k c r).warning))) := by
  have hw := (s.readied_works b f).trans (State.testBound_works _ b f.sample)
  have hkeeps : (s.readied b f).Keeps b e ((s.readied b f).testBound b f.sample) := State.testBound_keeps _ _
  have hserves : (s.readied b f).Serves b ((s.readied b f).testBound b f.sample) := State.testBound_serves _ _
  have hprobing := State.testBound_probing (b := b) (s.readied b f) f.sample
  rw [h.worked_eq]
  rw [State.Keeps, h.readied_bay] at hkeeps
  rw [h.readied_bay] at hprobing
  have hbound := hserves.binding
  rw [h.readied_bay] at hbound
  have hcopies := (Bay.traits_eq hkeeps).2.2.2.2.1
  exact (State.workFrame_leaks (e := e) (hbound.trans h.bound) (hcopies.trans h.copies) f.sample).conditions hkeeps hprobing
    (hw.classCfg_eq h) (hw.rating_eq h)

/-! ### The open-connection count -/

/-- A step of the regulator resets the open-connection count at a reduction alone (R90, R105). -/
theorem Bay.regulate_openCount (x : Bay) (limit cap toff cell endV i : Nat) :
    (x.regulate limit cap toff cell endV i).openCount = x.openCount
      ∨ ((x.regulate limit cap toff cell endV i).openCount = 0 ∧ limit < i) := by
  have hset : ∀ l, (x.setLevel l).openCount = x.openCount := fun l => by
    unfold Bay.setLevel
    split <;> rfl
  unfold Bay.regulate
  split
  · next h => exact .inr ⟨rfl, h⟩
  · split
    · exact .inl (hset _)
    · exact .inl rfl

theorem Bay.regulated_openCount (x : Bay) (g : BayCfg) (cell endV i : Nat) :
    (x.regulated g cell endV i).openCount = x.openCount
      ∨ (x.blanking = 0 ∧ (x.regulated g cell endV i).openCount = 0 ∧ ∃ l, x.limit = some l ∧ l < i) := by
  unfold Bay.regulated
  dsimp only
  split
  · exact .inl rfl
  · next hb =>
    split
    · next l _ hl =>
      rcases Bay.regulate_openCount { x with endCount := if cell ≤ endV then x.endCount + 1 else 0 } l g.cap g.toff cell endV i with h | ⟨h, hi⟩
      · exact .inl h
      · exact .inr ⟨by omega, h, l, hl, hi⟩
    · exact .inl rfl

theorem State.activeFrame_openCount (hk : y.copies = some k) (hb : y.binding = some e) (p : Sample) :
    (((s.setBay b y).activeFrame b p).bay b).openCount = y.openCount
      ∨ (y.blanking = 0 ∧ (((s.setBay b y).activeFrame b p).bay b).openCount = 0 ∧ ∃ l, y.limit = some l ∧ l < p.i) := by
  by_cases hn : (if perCellOf p.v k.cells ≤ (s.classCfg k.cls).endV then y.endCount + 1 else 0) < 64
  · rw [State.activeFrame_goesOn hk hn, State.bay_setBay_same]
    exact Bay.regulated_openCount ..
  · rw [State.activeFrame_ends hk hb (Nat.not_lt.mp hn)]
    exact .inl rfl

theorem Bay.passed_frame : (x.passed f e k c r).copies = x.copies ∧ (x.passed f e k c r).binding = x.binding
    ∧ (x.passed f e k c r).mode = x.mode ∧ (x.passed f e k c r).retry = x.retry ∧ (x.passed f e k c r).fault = x.fault
    ∧ (x.passed f e k c r).level = x.level ∧ (x.passed f e k c r).recovery = x.recovery := ⟨rfl, rfl, rfl, rfl, rfl, rfl, rfl⟩

theorem Bay.passed_openCount : (x.passed f e k c r).openCount = x.openAfter f.i := by
  unfold Bay.passed Bay.openAfter
  rfl

theorem State.Fresh.worked_openCount (h : s.Fresh b bytes f e k c r) (hs : f.Sound r) (hm : (s.bay b).mode = .active) (ht : f.t < c.shutT)
    (ho : (s.bay b).openAfter f.i ≠ (s.bay b).openCount → (s.bay b).openAfter f.i < (s.bayCfg b).nOpen) :
    ((s.worked b f).bay b).openCount = (s.bay b).openAfter f.i
      ∨ ((s.bay b).blanking = 0 ∧ ((s.worked b f).bay b).openCount = 0
        ∧ ∃ l, ((s.bay b).readied f e k c r).limit = some l ∧ l < f.i) := by
  rw [h.worked_passed hs (.inl ht) fun _ => ho]
  cases hp : (s.bay b).releasePending with
  | true =>
    rw [State.workFrame, State.bay_setBay_same, if_pos (by exact hp), State.bay_setBay_same]
    exact .inl rfl
  | false =>
    rw [State.workFrame_active (by exact hp) (by exact hm)]
    have hcopies := (Bay.passed_frame (x := s.bay b) (f := f) (e := e) (k := k) (c := c) (r := r)).1.trans h.copies
    have hbound := (Bay.passed_frame (x := s.bay b) (f := f) (e := e) (k := k) (c := c) (r := r)).2.1.trans h.bound
    have hopen := Bay.passed_openCount (x := s.bay b) (f := f) (e := e) (k := k) (c := c) (r := r)
    rcases State.activeFrame_openCount (s := s.readied b f) (b := b) hcopies hbound f.sample with h1 | ⟨h1, h2, h3⟩
    · exact .inl (h1.trans hopen)
    · exact .inr ⟨h1, h2, h3⟩

/-- The current limit after the temperature conditions is at least 5 where it was (R85). -/
theorem Bay.readied_limit (hl : ∀ l, x.limit = some l → 5 ≤ l) {l : Nat} (h : (x.readied f e k c r).limit = some l) : 5 ≤ l := by
  change (if warningAfter x.warning c.warnT f.t = x.warning then x.limit
    else some (currentLimit r c.cRate k.capacity k.damaged x.isoDerate (warningAfter x.warning c.warnT f.t))) = some l at h
  split at h
  · exact hl l h
  · obtain rfl := Option.some.inj h
    exact Nat.le_trans (by decide) (Nat.le_max_left 10 _)

/-! ### Retries -/

/-- The channel back in ACTIVE from a retry (R110). -/
def Bay.recovered (x : Bay) : Bay := { x.enterActive with fault := none, retry := none, retryWait := 0, recovery := 0 }

theorem Bay.recovered_answered (x : Bay) :
    let y := { x.recovered with sent := some x.recovered.accepted }
    y = { y with mode := .active, level := 1, blanking := 2, endCount := 0, openCount := 0, holdOff := none, fault := none
                 retry := none, retryWait := 0, recovery := 0 }
      ∧ y.sent = some { kind := .ack, level := 1, step := 0 } := by
  rw [Bay.accepted_eq]
  exact ⟨rfl, rfl⟩

theorem State.endRetry_bay (s : State) (b : BayId) : (s.endRetry b).bay b = (s.bay b).recovered := by
  rw [State.endRetry, State.raiseBay_bay, State.modBay, State.bay_setBay_same]
  rfl

theorem State.endRetry_noted (hr : s.running = true) : (s.endRetry b).noted b 7 :=
  State.raiseBay_noted (by rw [(s.modBay_works b _).running]; exact hr) b .retry

section Retry

variable (hk : y.copies = some k)

include hk

theorem State.retryFrame_overtemp (hr : y.retry = some .overtemp) (hv : tempValid p.t = true) : (s.setBay b y).retryFrame b p =
    if p.t < ((s.classCfg k.cls).shutT : Int) - 5 then (s.setBay b y).endRetry b else s.setBay b y := by
  unfold State.retryFrame
  dsimp only
  rw [State.bay_setBay_same, hr, hk]
  exact ite_of_iff (and_iff_right hv) _ _

theorem State.retryFrame_openConnection (hr : y.retry = some .openConnection) : (s.setBay b y).retryFrame b p =
    if (s.bayCfg b).nOpen ≤ (if 5 ≤ p.i then y.recovery + 1 else 0) then (s.setBay b y).endRetry b
    else s.setBay b { y with recovery := if 5 ≤ p.i then y.recovery + 1 else 0 } := by
  unfold State.retryFrame
  dsimp only
  rw [State.bay_setBay_same]
  split
  · next h _ => rw [hr] at h; cases h
  · rw [State.modBay, State.bay_setBay_same, State.setBay_setBay]
    rfl
  · next h => exact absurd hk (h k hr)

omit hk in
theorem State.retryFrame_overcurrent (hr : y.retry = some .overcurrent) : (s.setBay b y).retryFrame b p = s.setBay b y := by
  unfold State.retryFrame
  dsimp only
  rw [State.bay_setBay_same]
  split
  · next h _ => rw [hr] at h; cases h
  · next h _ => rw [hr] at h; cases h
  · rfl

end Retry

theorem Bay.accepted_retrying (h : y.mode = .retrying) : y.accepted = { kind := .ack, level := y.level, step := 0 } := by
  rw [Bay.accepted_eq, h]
  rfl

/-- The work of a retry on a sample that meets no test (R78, R110). -/
theorem State.Fresh.worked_retrying (h : s.Fresh b bytes f e k c r) (hs : f.Sound r) (hm : (s.bay b).mode = .retrying)
    (hp : (s.bay b).releasePending = false) (ht : f.t < c.shutT ∨ (s.bay b).retry = some .overtemp) :
    s.worked b f = ((s.readied b f).setBay b ((s.bay b).passed f e k c r)).retryFrame b f.sample := by
  rw [h.worked_passed hs (ht.imp_right fun q => ⟨hm, q⟩) (fun q => absurd (hm.symm.trans q) (by decide)),
    State.workFrame_retrying (by exact hp) (by exact hm)]

/-- A retry that its sample completes (R110). -/
theorem State.Fresh.completes (h : s.Fresh b bytes f e k c r)
    (hw : s.worked b f = ((s.readied b f).setBay b ((s.bay b).passed f e k c r)).endRetry b) :
    let y := ((s.worked b f).answerFrame b).bay b
    y = { y with mode := .active, level := 1, blanking := 2, endCount := 0, openCount := 0, holdOff := none, fault := none
                 retry := none, retryWait := 0, recovery := 0 }
      ∧ y.sent = some { kind := .ack, level := 1, step := 0 }
      ∧ ∀ p, ((((s.worked b f).answerFrame b).port p).attn.bays.get b).getLsbD 7 = true := by
  intro y
  have hy : y = { ((s.bay b).passed f e k c r).recovered with sent := some ((s.bay b).passed f e k c r).recovered.accepted } := by
    simp only [y]
    rw [State.answerFrame_bay, hw, State.endRetry_bay, State.bay_setBay_same]
  obtain ⟨hfields, hsent⟩ := Bay.recovered_answered ((s.bay b).passed f e k c r)
  rw [← hy] at hfields hsent
  refine ⟨hfields, hsent, State.answerFrame_noted ?_⟩
  rw [hw]
  exact State.endRetry_noted (by rw [State.setBay_running, (s.readied_works b f).running]; exact h.running)

/-- The channel of a retry that goes on, with its count of good samples (R111). -/
def Bay.waiting (x : Bay) (n : Nat) : Bay := { x with recovery := n }

theorem Bay.waiting_answered (hm : y.mode = .retrying) :
    let z := { y.waiting n with sent := some (y.waiting n).accepted }
    z.mode = .retrying ∧ z.retry = y.retry ∧ z.recovery = n ∧ z.fault = y.fault
      ∧ z.sent = some { kind := .ack, level := y.level, step := 0 } := by
  rw [Bay.accepted_retrying (y := y.waiting n) hm]
  exact ⟨hm, rfl, rfl, rfl, rfl⟩

/-- A retry that goes on (R110). -/
theorem State.Fresh.goes_on (hm : (s.bay b).mode = .retrying)
    (hw : (s.worked b f).bay b = ((s.bay b).passed f e k c r).waiting n) :
    let y := ((s.worked b f).answerFrame b).bay b
    y.mode = .retrying ∧ y.retry = (s.bay b).retry ∧ y.recovery = n ∧ y.fault = (s.bay b).fault
      ∧ y.sent = some { kind := .ack, level := (s.bay b).level, step := 0 } := by
  intro y
  have hy : y = { ((s.bay b).passed f e k c r).waiting n with sent := some (((s.bay b).passed f e k c r).waiting n).accepted } := by
    simp only [y]
    rw [State.answerFrame_bay, hw]
  rw [hy]
  obtain ⟨-, -, hmode, hretry, hfault, hlevel, -⟩ := Bay.passed_frame (x := s.bay b) (f := f) (e := e) (k := k) (c := c) (r := r)
  rw [← hretry, ← hfault, ← hlevel]
  exact Bay.waiting_answered (hmode.trans hm)

/-! ### The pack-temperature channel -/

/-- A pack-temperature channel takes its new state, and its zone votes when the state changed (R156, R159, R162). -/
theorem State.movePack_gives (s : State) (b : BayId) (old new : Chan) :
    (new.state = old.state → s.movePack b old new = s.setBay b { s.bay b with pack := some new })
    ∧ (new.state ≠ old.state → ((s.movePack b old new).bay b).pack = some new ∧ (s.movePack b old new).Voted (bayZone b)
        ∧ (s.movePack b old new).slots = s.slots ∧ (s.movePack b old new).tallies = s.tallies
        ∧ ∀ z, z ≠ bayZone b → (s.movePack b old new).zone z = s.zone z) := by
  refine ⟨fun h => if_pos h.symm, fun h => ?_⟩
  have hm : s.movePack b old new =
      ((s.setBay b { s.bay b with pack := some new }).raiseZone (bayZone b) (baySource b)).vote (bayZone b) := if_neg (Ne.symm h)
  rw [hm]
  refine ⟨?_, State.vote_voted _ _, by simp, by simp, fun z hz => ?_⟩
  · rw [State.vote_pack, State.raiseZone_bay, State.bay_setBay_same]
  · rw [State.vote_zone, if_neg hz]
    simp

/-- The temperature of a sample by its range (R106, R159). -/
theorem State.packReading_eq {old : Chan} (hp : (s.bay b).pack = some old) (hk : (s.bay b).copies = some k)
    (hc : s.settings.classes.get k.cls = some c) (v : Int) : s.packReading b v =
      if tempValid v then s.movePack b old
        (old.take ⟨c.shutT, (s.settings.zones.get (bayZone b)).heatAlarm, (c.shutT : Int) - 5⟩ (s.settings.zones.get (bayZone b)).w v)
      else s.movePack b old old.fail := by
  unfold State.packReading
  rw [hp, hk]
  dsimp only
  rw [s.classCfg_eq _ c hc]
  rfl

theorem State.packReading_none (hp : (s.bay b).pack = none) (v : Int) : s.packReading b v = s := by
  unfold State.packReading
  rw [hp]

theorem Bay.readied_conditions : (x.readied f e k c r).warning = warningAfter x.warning c.warnT f.t
    ∧ (x.readied f e k c r).shutdown = shutdownAfter x.shutdown c.shutT f.t
    ∧ (x.readied f e k c r).limit = if warningAfter x.warning c.warnT f.t = x.warning then x.limit
      else some (currentLimit r c.cRate k.capacity k.damaged x.isoDerate (warningAfter x.warning c.warnT f.t)) := ⟨rfl, rfl, rfl⟩

theorem State.Fresh.worked_noted (h : s.Fresh b bytes f e k c r) (hw : ((s.bay b).readied f e k c r).warning ≠ (s.bay b).warning) :
    (s.worked b f).noted b 5 := by
  rw [h.worked_eq]
  exact ((State.testBound_works _ b f.sample).trans (State.workFrame_works _ _ _)).notes.noted (h.readied_noted hw)

/-- The open-connection count after a sample of ACTIVE that meets no test (R105). -/
theorem State.Fresh.openCount_moves (h : s.Fresh b bytes f e k c r) (hs : f.Sound r) (hm : (s.bay b).mode = .active) (ht : f.t < c.shutT)
    (hl : ∀ l, (s.bay b).limit = some l → 5 ≤ l) :
    (0 < (s.bay b).blanking → ((s.worked b f).bay b).openCount = (s.bay b).openCount)
    ∧ ((s.bay b).blanking = 0 → 1 ≤ (s.bay b).level → 5 ≤ f.i → 1 ≤ (s.bayCfg b).nOpen → ((s.worked b f).bay b).openCount = 0)
    ∧ ((s.bay b).blanking = 0 → 1 ≤ (s.bay b).level → f.i < 5 → (s.bay b).openCount + 1 < (s.bayCfg b).nOpen →
        ((s.worked b f).bay b).openCount = (s.bay b).openCount + 1) := by
  refine ⟨fun hb => ?_, fun hb hv hi hn => ?_, fun hb hv hi hn => ?_⟩
  · have ha : (s.bay b).openAfter f.i = (s.bay b).openCount := if_neg fun q => absurd q.2.1 (by omega)
    rcases h.worked_openCount hs hm ht (fun q => absurd ha q) with h1 | ⟨h1, -⟩
    · exact h1.trans ha
    · omega
  · have ha : (s.bay b).openAfter f.i = 0 := (if_pos ⟨hm, hb, hv⟩).trans (if_neg (by omega))
    rcases h.worked_openCount hs hm ht (fun _ => by omega) with h1 | ⟨-, h1, -⟩
    · exact h1.trans ha
    · exact h1
  · have ha : (s.bay b).openAfter f.i = (s.bay b).openCount + 1 := (if_pos ⟨hm, hb, hv⟩).trans (if_pos hi)
    rcases h.worked_openCount hs hm ht (fun _ => by omega) with h1 | ⟨-, -, l, hlim, hlt⟩
    · exact h1.trans ha
    · have := Bay.readied_limit hl hlim
      omega

/-- An overtemperature retry on a sample that meets no test (R110). -/
theorem State.Fresh.retry_overtemp (h : s.Fresh b bytes f e k c r) (hs : f.Sound r) (hm : (s.bay b).mode = .retrying)
    (hp : (s.bay b).releasePending = false) (hr : (s.bay b).retry = some .overtemp) : s.worked b f =
      if f.t < (c.shutT : Int) - 5 then ((s.readied b f).setBay b ((s.bay b).passed f e k c r)).endRetry b
      else (s.readied b f).setBay b ((s.bay b).passed f e k c r) := by
  obtain ⟨hcopies, -, -, hretry, -⟩ := Bay.passed_frame (x := s.bay b) (f := f) (e := e) (k := k) (c := c) (r := r)
  rw [h.worked_retrying hs hm hp (.inr hr), State.retryFrame_overtemp (hcopies.trans h.copies) (hretry.trans hr)
    ((tempValid_iff _).mpr ⟨hs.cold, hs.hot⟩), (s.readied_works b f).classCfg_eq h]
  rfl

/-- An overcurrent retry on a sample that meets no test (R110). -/
theorem State.Fresh.retry_overcurrent (h : s.Fresh b bytes f e k c r) (hs : f.Sound r) (hm : (s.bay b).mode = .retrying)
    (hp : (s.bay b).releasePending = false) (hr : (s.bay b).retry = some .overcurrent) (ht : f.t < c.shutT) :
    (s.worked b f).bay b = ((s.bay b).passed f e k c r).waiting (s.bay b).recovery := by
  obtain ⟨-, -, -, hretry, -, -, hrecovery⟩ := Bay.passed_frame (x := s.bay b) (f := f) (e := e) (k := k) (c := c) (r := r)
  rw [h.worked_retrying hs hm hp (.inl ht), State.retryFrame_overcurrent (hretry.trans hr), State.bay_setBay_same, ← hrecovery]
  rfl

/-- An open-connection retry on a sample that meets no test (R111). -/
theorem State.Fresh.retry_openConnection (h : s.Fresh b bytes f e k c r) (hs : f.Sound r) (hm : (s.bay b).mode = .retrying)
    (hp : (s.bay b).releasePending = false) (hr : (s.bay b).retry = some .openConnection) (ht : f.t < c.shutT) : s.worked b f =
      if (s.bayCfg b).nOpen ≤ (if 5 ≤ f.i then (s.bay b).recovery + 1 else 0)
      then ((s.readied b f).setBay b ((s.bay b).passed f e k c r)).endRetry b
      else (s.readied b f).setBay b (((s.bay b).passed f e k c r).waiting (if 5 ≤ f.i then (s.bay b).recovery + 1 else 0)) := by
  obtain ⟨hcopies, -, -, hretry, -, -, hrecovery⟩ := Bay.passed_frame (x := s.bay b) (f := f) (e := e) (k := k) (c := c) (r := r)
  rw [h.worked_retrying hs hm hp (.inl ht), State.retryFrame_openConnection (hcopies.trans h.copies) (hretry.trans hr),
    (s.readied_works b f).bayCfg_eq, hrecovery]
  rfl

/-- Settles O44: the conditions by `conditions`, the count and the retries by the work that a passed test leaves, and the channel by
`movePack_gives`. -/
theorem samplesAreTrackedAndRetriesEnd : Obligations.SamplesAreTrackedAndRetriesEnd := by
  refine ⟨fun s b bytes f e k c rating hr hx => ?_, fun s b v => ?_⟩
  · intro x hm ht hb hk hc hrate good after half
    have h : s.Fresh b bytes f e k c rating := ⟨hr, hx, hm, ht, hb, hk, hc, hrate⟩
    obtain ⟨hwarn, hshut, hcount, hlimit⟩ := h.conditions
    obtain ⟨hzw, hzs, hzl⟩ := Bay.readied_conditions (x := x) (f := f) (e := e) (k := k) (c := c) (r := rating)
    refine ⟨(s.worked b f).answerFrame b, exec_freshFrame hr hx hm ht, ?_⟩
    intro y
    have hy : y = { (s.worked b f).bay b with sent := some ((s.worked b f).bay b).accepted } := State.answerFrame_bay _ b
    have hyw : y.warning = warningAfter x.warning c.warnT f.t := by rw [hy]; exact hwarn.trans hzw
    have hys : y.shutdown = shutdownAfter x.shutdown c.shutT f.t := by rw [hy]; exact hshut.trans hzs
    refine ⟨hyw.trans (warningAfter_eq ..), hys.trans (shutdownAfter_eq ..), fun hn => ⟨?_, ?_⟩, fun hsame _ hnp => ?_, ?_,
      fun hgood hload hrange hbelow => ?_⟩
    · exact State.answerFrame_noted (h.worked_noted (by rw [hzw, ← hyw]; exact hn))
    · rw [hyw] at hn
      rw [if_neg hn] at hzl
      rw [hyw, hy]
      rcases hlimit with ⟨hiso, hlim⟩ | ⟨-, hiso, hlim⟩
      · exact (hlim.trans hzl).trans (by rw [← hiso]; rfl)
      · exact hlim.trans (by rw [hzw, hiso]; rfl)
    · rw [hyw] at hsame
      rw [if_pos hsame] at hzl
      rw [hy]
      rcases hlimit with ⟨-, hlim⟩ | ⟨hp, -⟩
      · exact hlim.trans hzl
      · exact absurd hp hnp
    · rw [hys, ← hzs, hy]
      exact hcount.trans (Bay.readied_count x)
    · have hs : f.Sound rating := ⟨hgood.1, hgood.2, hload, hrange, hbelow⟩
      refine ⟨fun hmode hcool hl => ?_, fun hmode hp => ?_⟩
      · rw [hy]
        exact h.openCount_moves hs hmode hcool hl
      · intro completes goesOn
        refine ⟨fun hret => ⟨fun hlow => ?_, fun hhigh => ?_⟩, fun hret hcool => ?_, fun hret hcool => ?_⟩
        · exact h.completes ((h.retry_overtemp hs hmode hp hret).trans (if_pos hlow))
        · exact State.Fresh.goes_on hmode (by
            rw [h.retry_overtemp hs hmode hp hret, if_neg (Int.not_lt.mpr hhigh), State.bay_setBay_same]; rfl)
        · intro n
          exact ⟨fun hle => h.completes ((h.retry_openConnection hs hmode hp hret hcool).trans (if_pos hle)), fun hlt =>
            State.Fresh.goes_on hmode (by
              rw [h.retry_openConnection hs hmode hp hret hcool, if_neg (Nat.not_le.mpr hlt), State.bay_setBay_same])⟩
        · exact State.Fresh.goes_on hmode (h.retry_overcurrent hs hmode hp hret hcool)
  · intro x z w alarm
    refine ⟨fun hp => State.packReading_none hp v, fun old k c hp hk hc => ?_⟩
    intro run counted judged gives
    have hgives : ∀ new, s.packReading b v = s.movePack b old new → gives new := fun new hnew => by
      simp only [gives]
      rw [hnew]
      exact State.movePack_gives s b old new
    have heq := State.packReading_eq hp hk hc v
    refine ⟨fun hv => hgives _ ?_, fun h1 h2 => ⟨fun hs => hgives _ ?_, fun hs hg => hgives _ ?_, fun hs hg => hgives _ ?_⟩⟩
    · rw [heq, if_neg (by rw [tempValid_iff]; omega)]
      rfl
    all_goals rw [heq, if_pos ((tempValid_iff v).mpr ⟨h1, h2⟩)]
    · exact congrArg (s.movePack b old) (Chan.take_judged old _ _ _ _ v hs)
    · exact congrArg (s.movePack b old) ((Chan.take_fault old _ _ _ _ v hs).trans (if_pos hg))
    · exact congrArg (s.movePack b old) ((Chan.take_fault old _ _ _ _ v hs).trans (if_neg (by omega)))

end Sys2Proof.Machine
end

section
/-!
PROOFS. An open-connection count of N = 0 (R105, R111): the retry that the Nth low sample begins counts its own sample as the Nth good
one, and the bay is in ACTIVE again in the same frame. No setting request stores N = 0, but the statement holds of every state.
-/

namespace Sys2Proof.Machine

variable {s t u : State} {b : BayId} {x y : Bay} {e : Entry} {n r : Nat} {f : SampleFrame} {p : Sample} {bytes : List Byte}
  {k : Copies} {c : ClassCfg}

/-- With N = 0 every sample completes an open-connection retry (R111). -/
theorem State.workFrame_uncounted (hp : (s.bay b).releasePending = false) (hm : (s.bay b).mode = .retrying)
    (hr : (s.bay b).retry = some .openConnection) (hk : (s.bay b).copies = some k) (hn : (s.bayCfg b).nOpen = 0) (p : Sample) :
    s.workFrame b p = s.endRetry b := by
  have hself := s.setBay_self b
  have hwork := State.workFrame_retrying (s := s) (b := b) (p := p) hp hm
  rw [State.retryFrame_openConnection hk hr, if_pos (by rw [hn]; exact Nat.zero_le _), hself] at hwork
  exact hwork

/-- With N = 0 an open-connection fault that is retried ends in its own frame (R107, R111). -/
theorem State.takeFault_uncounted (hb : (s.bay b).binding = some e) (hk : (s.bay b).copies = some k) (hm : (s.bay b).mode = .active)
    (hp : (s.bay b).releasePending = false) (hn : (s.bayCfg b).nOpen = 0) (hf : (s.bayCfg b).mode = .retry)
    (hc : satAdd countMax (s.bay b).faultCount 1 ≤ 3) (p : Sample) :
    (((s.takeFault b .openConnection).workFrame b p).bay b).mode = .active
      ∧ (((s.takeFault b .openConnection).workFrame b p).bay b).pack = (s.bay b).pack := by
  have hretries : retries (s.bayCfg b).mode (s.bay b) .openConnection (satAdd countMax (s.bay b).faultCount 1) = some .openConnection :=
    if_pos ⟨hf, hm, hc⟩
  have hfault := State.takeFault_retried hb hk hretries
  have hbay : (s.takeFault b .openConnection).bay b
      = { (s.bay b).enterRetry .openConnection with faultCount := satAdd countMax (s.bay b).faultCount 1 } := by
    rw [hfault, State.raiseFault, if_neg (by decide), State.raiseBay_bay, State.bay_setBay_same]
  rw [State.workFrame_uncounted (k := k) (by rw [hbay]; exact hp) (by rw [hbay]; rfl) (by rw [hbay]; rfl) (by rw [hbay]; exact hk)
    (by rw [(s.takeFault_works b .openConnection).bayCfg_eq]; exact hn), State.endRetry_bay, hbay]
  exact ⟨rfl, rfl⟩

/-- A low sample with N = 0 in ACTIVE leaves the bay in ACTIVE, by way of RETRYING (R105, R107, R111). -/
theorem State.Fresh.worked_uncounted (h : s.Fresh b bytes f e k c r) (hs : f.Sound r) (ht : f.t < c.shutT)
    (hm : (s.bay b).mode = .active) (hb : (s.bay b).blanking = 0) (hl : 1 ≤ (s.bay b).level) (hi : f.i < 5)
    (hn : (s.bayCfg b).nOpen = 0) (hf : (s.bayCfg b).mode = .retry) (hc : satAdd countMax (s.bay b).faultCount 1 ≤ 3)
    (hp : (s.bay b).releasePending = false) :
    ((s.worked b f).bay b).mode = .active ∧ ((s.worked b f).bay b).pack = (s.bay b).pack := by
  have hw := s.readied_works b f
  have hbay := h.readied_bay
  have hnone : boundFault ((s.readied b f).bay b) f.sample ((s.readied b f).overcurrentLevel b)
      ((s.readied b f).classCfg k.cls).shutT = none := by
    rw [hbay, hw.overcurrentLevel_eq h, hw.classCfg_eq h]
    exact boundFault_none ((tempValid_iff _).mpr ⟨hs.cold, hs.hot⟩) hs.load (overcurrentBy_false hs.range hs.below) (.inl ht)
  have hafter : (s.bay b).openAfter f.i = (s.bay b).openCount + 1 := (if_pos ⟨hm, hb, hl⟩).trans (if_pos hi)
  have hopens : (s.readied b f).opens b f.sample.i := by
    rw [State.opens, hbay, hw.bayCfg_eq, hn]
    exact ⟨hm, by rw [show ((s.bay b).readied f e k c r).openAfter f.sample.i = _ from hafter]; exact Nat.succ_ne_self _, Nat.zero_le _⟩
  have hcopies : ((s.readied b f).bay b).copies = some k := by rw [hbay]; exact h.copies
  rw [h.worked_eq, State.testBound_opens hcopies hnone hopens, hbay]
  have hflag : (((s.readied b f).setBay b { (s.bay b).readied f e k c r with openCount := 0 }).askFlag b .openConnection).bay b
      = { (s.bay b).readied f e k c r with openCount := 0, writes := ((s.bay b).readied f e k c r).writes ++ [.flag e .openConnection] } := by
    rw [State.askFlag_bay (e := e) _ (by rw [State.bay_setBay_same]; exact h.bound), State.bay_setBay_same]
  have hworks := (hw.trans (State.setBay_works _ b { (s.bay b).readied f e k c r with openCount := 0 })).trans
    (State.askFlag_works _ b .openConnection)
  revert hflag hworks
  generalize ((s.readied b f).setBay b { (s.bay b).readied f e k c r with openCount := 0 }).askFlag b .openConnection = v
  intro hflag hworks
  obtain ⟨hmode, hpack⟩ := State.takeFault_uncounted (s := v) (b := b) (e := e) (k := k) (by rw [hflag]; exact h.bound)
    (by rw [hflag]; exact h.copies) (by rw [hflag]; exact hm) (by rw [hflag]; exact hp) (by rw [hworks.bayCfg_eq]; exact hn)
    (by rw [hworks.bayCfg_eq]; exact hf) (by rw [hflag]; exact hc) f.sample
  rw [hflag] at hpack
  exact ⟨hmode, hpack⟩

/-- The state of the refutation: bay 0 bound and ACTIVE at level 1, with N = 0 in fault mode RETRY. -/
def uncounted : State :=
  (State.reset.setSettings { State.reset.settings with
    classes := State.reset.settings.classes.set 0
      (some { cRate := 10, endV := 2800, safeV := 3000, permille := 50, warnT := 45, shutT := 60, restSec := 60 })
    bays := State.reset.settings.bays.set 0 { rating := some 2000, nOpen := 0, mode := .retry } }).setBay 0
      { mode := .active, binding := some { slot := 3, tag := 7 }, copies := some { cls := 0, cells := 96, capacity := 1500, damaged := false }
        level := 1, link := .receiving, toggle := some false, periods := 1, limit := some 1500, lastStage := .discharging }

/-- A sample of bay 0 with a current of 0.4 A. -/
def lowSample : SampleFrame := ⟨true, false, false, 3652, 4, 25⟩

/-- The frame of `lowSample` (Table 10-2). -/
def lowFrame : List Byte := [0xC3, 0, 1, 14, 68, 0, 4, 0, 25, 206, 74]

set_option maxRecDepth 20000 in
theorem lowFrame_reads : readSample 0 (fromSync lowFrame) = some lowSample := by decide

theorem uncounted_fresh : uncounted.Fresh 0 lowFrame lowSample { slot := 3, tag := 7 } { cls := 0, cells := 96, capacity := 1500, damaged := false }
    { cRate := 10, endV := 2800, safeV := 3000, permille := 50, warnT := 45, shutT := 60, restSec := 60 } 2000 := by
  refine ⟨rfl, ?_, ?_, ?_, rfl, rfl, rfl, rfl⟩
  · exact lowFrame_reads
  · exact nofun
  · exact nofun

/-- The pack-temperature channel that a bay has stays with it. -/
theorem State.packReading_pack (h : (s.bay b).pack ≠ none) (v : Int) : ((s.packReading b v).bay b).pack ≠ none := by
  have hmove : ∀ old new, ((s.movePack b old new).bay b).pack = some new := fun old new => by
    by_cases hn : new.state = old.state
    · rw [(s.movePack_gives b old new).1 hn, State.bay_setBay_same]
    · exact ((s.movePack_gives b old new).2 hn).1
  unfold State.packReading
  split
  · split <;> rw [hmove] <;> exact nofun
  · exact h

/-- Refutes O43: with N = 0 the Nth low current in ACTIVE leaves the bay in ACTIVE, not in RETRYING. -/
theorem not_faultsAreTakenInTheirOrder : ¬ Obligations.FaultsAreTakenInTheirOrder := by
  intro h
  have hfresh := uncounted_fresh
  obtain ⟨-, -, -, -, hopen⟩ := (h uncounted 0 lowFrame lowSample 2000 hfresh.running hfresh.reads hfresh.new hfresh.rating).1 _ _ _
    hfresh.bound hfresh.copies hfresh.cls (.inr (.inl rfl))
  obtain ⟨t, ⟨hexec, -⟩, -, hbay⟩ := (hopen (by decide) rfl (by decide) (by decide) rfl rfl (by decide) (by decide) (by decide)).2.1
    ⟨rfl, rfl, by decide⟩
  obtain ⟨hmode, hpack⟩ := hfresh.worked_uncounted ⟨by decide, by decide, rfl, by decide, by decide⟩ (by decide) rfl rfl (by decide)
    (by decide) rfl rfl (by decide) rfl
  have hnone : (((uncounted.worked 0 lowSample).answerFrame 0).bay 0).pack = none := by
    rw [State.answerFrame_bay]
    exact hpack
  rw [exec_freshFrame hfresh.running hfresh.reads hfresh.configured hfresh.new, State.packReading_none hnone] at hexec
  have hsame : (uncounted.worked 0 lowSample).answerFrame 0 = t.packReading 0 lowSample.t := by injection hexec
  by_cases ht : (t.bay 0).pack = none
  · rw [State.packReading_none ht] at hsame
    have hactive : (t.bay 0).mode = .active := by
      rw [← hsame, State.answerFrame_bay]
      exact hmode
    rw [hbay] at hactive
    cases hactive
  · rw [hsame] at hnone
    exact State.packReading_pack ht _ hnone

end Sys2Proof.Machine
end

section
/-!
PROOFS. A loss of VDD and RESET: what the standby domain keeps, and what a part that does not run answers (R194 to R196).
-/

namespace Sys2Proof.Machine

variable {s t u : State} {b : BayId} {i : Instr} {p : Port} {bytes : List Byte}

/-! ### The main domain stopped -/

/-- The state with the main domain stopped, the bays keeping the writes that `q` tells (R194). -/
def State.stoppedBy (s : State) (q : BayWrite → Bool) : State :=
  { s with
    arb := {}, bays := s.bays.map (fun x => { binding := x.binding, frac := x.frac, writes := x.writes.filter q })
    chamber := {}, feed := s.feed.retained
    zones := s.zones.map Zone.retained, detectors := .fill 28 {}, sensors := .fill 32 {}
    line := s.line.retained, plant := s.plant.retained }

theorem State.stopMain_eq (s : State) (q : BayWrite → Bool) (h : ∀ w, q w = w.retained) : s.stopMain = s.stoppedBy q := by
  obtain rfl : q = BayWrite.retained := funext h
  rfl

/-! ### A part that does not run -/

theorem State.running_eq_false (h : s.phase ≠ .running) : s.running = false := by
  unfold State.running
  cases hp : s.phase <;> simp_all

theorem request_port (h : i.isRequest = true) : ∃ p, i.port = some p := by
  revert h
  cases i <;> simp [Instr.isRequest, Instr.frame, Instr.port]

/-- A request in a part that does not run leaves it (R196; log entry 20). -/
theorem exec_request_stopped (h : s.phase ≠ .running) (hi : i.isRequest = true) : exec i s = .next s := by
  obtain ⟨p, hp⟩ := request_port hi
  obtain ⟨serve, hs⟩ := exec_receives hi hp s
  have ht : s.takesFrame p = false := by rw [State.takesFrame, State.running_eq_false h, Bool.false_and]
  rw [hs, State.receive, ht]
  rfl

theorem exec_sensorFrame_stopped (h : s.phase ≠ .running) : exec (.sensorFrame bytes) s = .next s := by
  have he : exec (.sensorFrame bytes) s = .next (s.onSensorLink bytes) := rfl
  rw [he, State.onSensorLink, State.running_eq_false h]
  rfl

/-- Bytes on a bay link that hold a sync byte, in a part that does not run (R194, R196). -/
theorem exec_sampleFrame_starting (hn : s.phase ≠ .running) (ho : s.phase ≠ .off) (hs : (0xC3 : Byte) ∈ bytes) :
    exec (.sampleFrame b bytes) s = .next (s.setBay b { s.bay b with sent := some stallAnswer }) := by
  have he : exec (.sampleFrame b bytes) s = .next (s.onBayLink b bytes) := rfl
  have hne : fromSync bytes ≠ [] := by
    exact fun h => fromSync_eq_nil.mp h hs
  rw [he, State.onBayLink]
  split
  · next h => exact absurd h hne
  · cases hp : s.phase with
    | off => exact absurd hp ho
    | inReset => rfl
    | starting k => rfl
    | running => exact absurd hp hn

theorem exec_sampleFrame_off (h : s.phase = .off) : exec (.sampleFrame b bytes) s = .next s := by
  have he : exec (.sampleFrame b bytes) s = .next (s.onBayLink b bytes) := rfl
  rw [he, State.onBayLink]
  split
  · rfl
  · rw [h]

/-! ### The supplies -/

theorem exec_vddLoss (h : s.phase ≠ .off) : exec .vddLoss s = .next { s.stopMain with phase := .off } := by
  have he : exec .vddLoss s = .next s.loseVdd := rfl
  rw [he, State.loseVdd]
  cases hp : s.phase with
  | off => exact absurd hp h
  | inReset | starting _ | running => rfl

theorem exec_resetAssert (h : s.phase ≠ .off) : exec .resetAssert s =
    .next { s.stopMain with phase := .inReset, lines := { s.lines with reset := true } } := by
  have he : exec .resetAssert s = .next s.assertReset := rfl
  rw [he, State.assertReset]
  cases hp : s.phase with
  | off => exact absurd hp h
  | inReset | starting _ | running => rfl

theorem exec_retentionLoss (h : s.phase ≠ .off) : exec .retentionLoss s = .next s := by
  have he : exec .retentionLoss s = .next s.loseRetention := rfl
  rw [he, State.loseRetention]
  cases hp : s.phase with
  | off => exact absurd hp h
  | inReset | starting _ | running => rfl

/-- Settles O59: each event by the phase. -/
theorem aLossLeavesTheRetainedState : Obligations.ALossLeavesTheRetainedState := by
  intro s kept
  have hkept : s.stopMain = kept := s.stopMain_eq _ fun w => by cases w <;> rfl
  refine ⟨fun h => ?_, fun h => ?_, fun h => ?_, fun h => ?_, fun h => ?_, fun h => exec_retentionLoss h, fun h =>
    ⟨fun i hi => exec_request_stopped h hi, fun bytes => exec_sensorFrame_stopped h,
      fun b bytes ho hs => exec_sampleFrame_starting h ho hs, fun b bytes ho => exec_sampleFrame_off ho⟩⟩
  · rw [exec_vddLoss h, hkept]
  · have he : exec .vddLoss s = .next s.loseVdd := rfl
    rw [he, State.loseVdd, h]
  · rw [exec_resetAssert h, hkept]
  · have he : exec .resetAssert s = .next s.assertReset := rfl
    rw [he, State.assertReset, h]
  · have he : exec .retentionLoss s = .next s.loseRetention := rfl
    rw [he, State.loseRetention, h]

end Sys2Proof.Machine
end

section
/-!
PROOFS. Frames that reach no block, and the sending of answers (R182 to R185, R187).
-/

namespace Sys2Proof.Machine

variable {s t u : State} {p : Port} {a : Answer} {bytes : List Byte} {echo : Nat}

/-! ### Frames in error and cut short -/

theorem State.rejectFrame_taken (h : s.Takes p) (echo : Nat) (st : Status) :
    s.rejectFrame p echo st = s.answer p echo (.refuse st) := by
  rw [State.rejectFrame, h.1, h.2]
  rfl

theorem exec_frameError (h : s.Takes p) {rest : List Byte} (hf : readFrame p (0xA5 :: rest) = .error echo) :
    exec (.frameError p (0xA5 :: rest)) s = .next (s.answer p echo (.refuse .frameError)) := by
  have he : exec (.frameError p (0xA5 :: rest)) s = .next (s.onFrameError p (0xA5 :: rest)) := rfl
  rw [he, State.onFrameError, hf, ← State.rejectFrame_taken h]
  rfl

theorem exec_unknownRequest (h : s.Takes p) {rest : List Byte} (hf : readFrame p (0xA5 :: rest) = .unknown echo) :
    exec (.unknownRequest p (0xA5 :: rest)) s = .next (s.answer p echo (.refuse .unknownRequest)) := by
  have he : exec (.unknownRequest p (0xA5 :: rest)) s = .next (s.onUnknownRequest p (0xA5 :: rest)) := rfl
  rw [he, State.onUnknownRequest, hf, ← State.rejectFrame_taken h]
  rfl

theorem State.cutFrame_taken (h : s.Takes p) (hc : cutShort bytes = true) :
    s.cutFrame p bytes = s.answer p (echoOf bytes) (.refuse .frameError) := by
  rw [State.cutFrame, if_pos hc, State.rejectFrame_taken h]

theorem exec_plantByteGapTimeout (h : s.Takes .plant) (hc : cutShort bytes = true) :
    exec (.plantByteGapTimeout bytes) s = .next (s.answer .plant (echoOf bytes) (.refuse .frameError)) := by
  rw [← State.cutFrame_taken h hc]
  rfl

/-- A frame with its code byte is cut short before its last byte (R183, R184). -/
theorem cutShort_code {len code : Byte} {more : List Byte} (h1 : 1 ≤ len.toNat) (h2 : len.toNat ≤ 32) (hm : more.length ≤ len.toNat) :
    cutShort (0xA5 :: len :: code :: more) = true := by
  simp [cutShort, within, h1, h2]
  omega

theorem cutShort_len {len : Byte} (h1 : 1 ≤ len.toNat) (h2 : len.toNat ≤ 32) : cutShort [0xA5, len] = true := by
  simp [cutShort, within, h1, h2]

/-! ### The sending of answers -/

/-- The marks of a port after an answer was sent, or was sent before (R39, R187; log entry 15). -/
theorem PortState.finishSending_answered {x : PortState} {sent : Bool} (h : x.inFlight = some (.answered a sent)) :
    x.finishSending = { x with
      inFlight := none, lockMark := x.lockMark && !(!sent && a.lockExpired)
      restartMark := x.restartMark && !(!sent && a.restart) } := by
  unfold PortState.finishSending
  cases sent <;> rw [h]
  · rfl
  · simp

theorem PortState.beginSending_answered {x : PortState} {sent : Bool} (h : x.inFlight = some (.answered a sent)) :
    x.beginSending = { x with
      inFlight := some (.answered a true), lockMark := x.lockMark && !(!sent && a.lockExpired)
      restartMark := x.restartMark && !(!sent && a.restart) } := by
  unfold PortState.beginSending
  cases sent <;> rw [h]
  · rfl
  · simp [← h]

theorem PortState.answers_iff (x : PortState) : x.answers = true ↔ ∃ a sent, x.inFlight = some (.answered a sent) := by
  unfold PortState.answers
  split
  · next a sent h => exact ⟨fun _ => ⟨a, sent, h⟩, fun _ => rfl⟩
  · next h => exact ⟨nofun, fun ⟨a, sent, k⟩ => by rw [h] at k; cases k⟩
  · next h => exact ⟨nofun, fun ⟨a, sent, k⟩ => by rw [h] at k; cases k⟩

theorem exec_answerSent {sent : Bool} (hr : s.running = true) (h : (s.port p).inFlight = some (.answered a sent)) :
    exec (.answerSent p) s = .next (s.setPort p { s.port p with
      inFlight := none, answerDone := decide (p = .line), lockMark := (s.port p).lockMark && !(!sent && a.lockExpired)
      restartMark := (s.port p).restartMark && !(!sent && a.restart) }) := by
  have he : exec (.answerSent p) s = .next (s.onAnswerSent p) := rfl
  rw [he, State.onAnswerSent, if_pos ⟨hr, ((s.port p).answers_iff).mpr ⟨a, sent, h⟩⟩, PortState.finishSending_answered h]

theorem exec_answerSent_idle (h : ∀ a sent, (s.port p).inFlight ≠ some (.answered a sent)) : exec (.answerSent p) s = .next s := by
  have he : exec (.answerSent p) s = .next (s.onAnswerSent p) := rfl
  rw [he, State.onAnswerSent, if_neg fun k => ?_]
  obtain ⟨a, sent, hx⟩ := ((s.port p).answers_iff).mp k.2
  exact h a sent hx

theorem exec_chipSelectRise (hr : s.running = true) (cut : List Byte) : exec (.chipSelectRise cut false) s =
    .next ((s.cutFrame .line cut).setPort .line { (s.cutFrame .line cut).line with answerDone := false }) := by
  have he : exec (.chipSelectRise cut false) s = .next (s.onChipSelectRise cut false) := rfl
  rw [he, State.onChipSelectRise, if_pos hr]
  rfl

theorem exec_chipSelectRise_begun {sent : Bool} (hr : s.running = true) (h : s.line.inFlight = some (.answered a sent)) :
    exec (.chipSelectRise [] true) s = .next (s.setPort .line { s.line with
      inFlight := some (.answered a true), answerDone := false, lockMark := s.line.lockMark && !(!sent && a.lockExpired)
      restartMark := s.line.restartMark && !(!sent && a.restart) }) := by
  have he : exec (.chipSelectRise [] true) s = .next (s.onChipSelectRise [] true) := rfl
  have hb : (s.port .line).beginSending = _ := PortState.beginSending_answered h
  rw [he, State.onChipSelectRise, if_pos hr, if_pos rfl, hb]
  rfl

theorem exec_overrun (ht : s.takesFrame p = true) (hf : s.inFlight p = true) :
    exec (.overrun p) s = .next (s.setPort p { s.port p with overruns := min 65535 ((s.port p).overruns + 1) }) := by
  have he : exec (.overrun p) s = .next (s.onOverrun p) := rfl
  rw [he, State.onOverrun, if_pos ⟨ht, hf⟩]
  rfl

/-- Settles O57: each row by what the port has in flight. -/
theorem portFramesAreAnswered : Obligations.PortFramesAreAnswered := by
  intro p s
  refine ⟨fun rest ht => ⟨fun echo hf => exec_frameError ht hf, fun echo hf => exec_unknownRequest ht hf⟩,
    fun ht hf => exec_overrun ht hf,
    fun ht => ⟨exec_plantByteGapTimeout ht rfl, fun len h1 h2 => ⟨exec_plantByteGapTimeout ht (cutShort_len h1 h2),
      fun code more hm => exec_plantByteGapTimeout ht (cutShort_code h1 h2 hm)⟩⟩,
    fun hr => ⟨fun ans sent h => exec_answerSent hr h, fun h => exec_answerSent_idle h, exec_chipSelectRise hr [],
      fun ans sent h => exec_chipSelectRise_begun hr h⟩,
    fun ht len code more h1 h2 hm => ?_⟩
  rw [exec_chipSelectRise ht.running, State.cutFrame_taken ht (cutShort_code h1 h2 hm)]
  rfl

end Sys2Proof.Machine
end

section
/-!
PROOFS. The bytes that the part sends, by their tables (R181, R186, R192, Tables 10-1 to 10-3).
-/

namespace Sys2Proof.Machine

variable {s : State} {n w : Nat}

/-! ### Numbers in bytes (R181) -/

theorem numBytes_length (w v : Nat) : (numBytes w v).length = w := by
  induction w with
  | zero => rfl
  | succ w ih => rw [numBytes, List.length_cons, ih]

theorem numBytes_one (v : Nat) : numBytes 1 v = [BitVec.ofNat 8 v] := by rw [numBytes, numBytes, Nat.pow_zero, Nat.div_one]

/-- The number that bytes stand for, after a number read before them. -/
theorem foldl_numBytes (w v m : Nat) :
    (numBytes w v).foldl (fun n (b : Byte) => n * 256 + b.toNat) m = m * 256 ^ w + v % 256 ^ w := by
  induction w generalizing m with
  | zero => simp [numBytes, Nat.mod_one]
  | succ w ih =>
    rw [numBytes, List.foldl_cons, ih, BitVec.toNat_ofNat]
    have hdigit : v % 256 ^ (w + 1) = v % 256 ^ w + 256 ^ w * (v / 256 ^ w % 256) := by rw [Nat.pow_succ, Nat.mod_mul]
    rw [hdigit, show (2 : Nat) ^ 8 = 256 from rfl, Nat.pow_succ]
    generalize 256 ^ w = q
    rw [Nat.add_mul, Nat.mul_assoc, Nat.mul_comm 256 q, Nat.mul_comm (v / q % 256) q, Nat.add_assoc, Nat.add_comm (q * _)]

/-- Reading a number back (R181). -/
theorem bytesNum_numBytes {w v : Nat} (h : v < 256 ^ w) : bytesNum (numBytes w v) = v := by
  rw [bytesNum, foldl_numBytes, Nat.zero_mul, Nat.zero_add, Nat.mod_eq_of_lt h]

/-! ### Answers -/

theorem setCode_two (a b : Bool) : setCode [a, b] = (if a then 1 else 0) + if b then 2 else 0 := by cases a <;> cases b <;> rfl

/-- The body of an answer (Table 10-1). -/
theorem Answer.body_eq (a : Answer) : a.body = BitVec.ofNat 8 a.echo :: BitVec.ofNat 8 a.status.code
    :: BitVec.ofNat 8 ((if a.lockExpired then 1 else 0) + if a.restart then 2 else 0) :: a.results.bytes := by
  rw [Answer.body, numBytes_one, numBytes_one, numBytes_one, setCode_two]
  rfl

theorem Answer.bytes_eq (a : Answer) : a.bytes = 0xA5 :: BitVec.ofNat 8 a.body.length :: a.body
    ++ crcBytes (BitVec.ofNat 8 a.body.length :: a.body) := by
  rw [Answer.bytes, numBytes_one]
  rfl

/-! ### The record in an answer -/

theorem RecView.bytes_length (v : RecView) : v.bytes.length = 36 := by
  simp only [RecView.bytes, List.length_append, numBytes_length]

/-- The fields of a record in an answer, with their widths (Table 10-3). -/
def RecView.layout (v : RecView) : List (Nat × Nat) :=
  [(1, v.slot.1), (6, v.record.tag), (1, portCode v.record.origin), (1, v.record.cls.1), (1, v.record.cells), (2, v.record.capacity),
    (3, v.record.declared), (2, v.record.mass), (3, v.record.energy), (1, v.record.stage.code), (2, v.record.flags.code),
    (1, setCode [v.record.bay.isSome, v.record.rest.isSome, v.perCell.isSome, v.position.isSome]),
    (1, (v.record.bay.map Fin.val).getD 0), (2, v.record.rest.getD 0), (1, v.record.rebounds), (3, v.residual), (3, v.perCell.getD 0),
    (1, v.zone.1), (1, v.position.getD 0)]

theorem RecView.bytes_layout (v : RecView) : v.bytes = v.layout.flatMap (fun q => numBytes q.1 q.2) := by
  simp only [RecView.bytes, RecView.layout, List.flatMap_cons, List.flatMap_nil, List.append_nil, List.append_assoc]

/-- The place after the fields of a layout. -/
def placeAfter (l : List (Nat × Nat)) : Nat := l.foldl (fun n q => n + q.1) 0

theorem layout_length (l : List (Nat × Nat)) : (l.flatMap (fun q => numBytes q.1 q.2)).length = placeAfter l := by
  have h : ∀ n, l.foldl (fun n q => n + q.1) n = n + (l.flatMap (fun q => numBytes q.1 q.2)).length := by
    induction l with
    | nil => exact fun n => rfl
    | cons q l ih =>
      intro n
      rw [List.foldl_cons, ih, List.flatMap_cons, List.length_append, numBytes_length, Nat.add_assoc]
  rw [placeAfter, h, Nat.zero_add]

/-- A field of a layout is where the widths before it put it. -/
theorem field_layout {l : List (Nat × Nat)} {j v : Nat} (h : l[j]? = some (w, v)) :
    ((l.flatMap (fun q => numBytes q.1 q.2)).drop (placeAfter (l.take j))).take w = numBytes w v := by
  obtain ⟨hj, hv⟩ := List.getElem?_eq_some_iff.mp h
  have hsplit : l = l.take j ++ (w, v) :: l.drop (j + 1) := by
    rw [← hv, ← List.drop_eq_getElem_cons hj, List.take_append_drop]
  have hbytes : l.flatMap (fun q => numBytes q.1 q.2) = (l.take j).flatMap (fun q => numBytes q.1 q.2)
      ++ (numBytes w v ++ (l.drop (j + 1)).flatMap (fun q => numBytes q.1 q.2)) := by
    conv => lhs; rw [hsplit]
    rw [List.flatMap_append, List.flatMap_cons]
  rw [hbytes, ← layout_length, List.drop_left, List.take_left' (numBytes_length w v)]

theorem RecView.field (v : RecView) {n place : Nat} (j : Nat) (h : v.layout[j]? = some (w, n))
    (hp : placeAfter (v.layout.take j) = place) (hn : n < 256 ^ w) : bytesNum ((v.bytes.drop place).take w) = n := by
  rw [RecView.bytes_layout, ← hp, field_layout h, bytesNum_numBytes hn]

/-- The flags of a record as a number (Tables 1-2 and 10-3). -/
theorem RecFlags.code_eq (f : RecFlags) :
    let bit := fun (on : Bool) (n : Nat) => if on then 2 ^ n else 0
    f.code = bit f.damaged 0 + bit f.isolationFault 1 + bit f.overtemp 2 + bit f.openConnection 3
      + bit f.interrupted 4 + bit f.reboundLimit 5 + bit f.quarantine 6 + bit f.gateReturned 7 + bit f.recovered 8 := by
  have hbit : ∀ (b : Bool) (k : Nat), (if b then 2 ^ k else 0) = 2 ^ k * b.toNat := fun b k => by cases b <;> simp
  simp only [RecFlags.code, setCode, List.foldr, hbit]
  omega

theorem setCode_four (a b c d : Bool) :
    let bit := fun (on : Bool) (n : Nat) => if on then 2 ^ n else 0
    setCode [a, b, c, d] = bit a 0 + bit b 1 + bit c 2 + bit d 3 := by
  revert a b c d
  decide

theorem RecFlags.code_lt (f : RecFlags) : f.code < 256 ^ 2 := by
  have hb : ∀ b : Bool, b.toNat ≤ 1 := Bool.toNat_le
  have := hb f.damaged
  have := hb f.isolationFault
  have := hb f.overtemp
  have := hb f.openConnection
  have := hb f.interrupted
  have := hb f.reboundLimit
  have := hb f.quarantine
  have := hb f.gateReturned
  have := hb f.recovered
  simp only [RecFlags.code, setCode, List.foldr]
  omega

theorem setCode_four_lt (a b c d : Bool) : setCode [a, b, c, d] < 256 ^ 1 := by
  revert a b c d
  decide

theorem stageOf_code (g : Stage) : stageOf g.code = some g := by cases g <;> rfl

theorem getD_lt {o : Option Nat} {m : Nat} (h : ∀ n, o = some n → n < m) (hm : 0 < m) : o.getD 0 < m := by
  cases o with
  | none => exact hm
  | some n => exact h n rfl

section Fields

variable (v : RecView)

/-- The fields of a record up to its mass (Table 10-3). -/
theorem RecView.first_fields (htag : v.record.tag < 281474976710656) (hcells : v.record.cells < 256) (hcap : v.record.capacity < 65536)
    (hdecl : v.record.declared < 16777216) (hmass : v.record.mass < 65536) :
    let field := fun place width => bytesNum ((v.bytes.drop place).take width)
    field 0 1 = v.slot.1 ∧ field 1 6 = v.record.tag ∧ field 7 1 = (if v.record.origin = .line then 0 else 1)
      ∧ field 8 1 = v.record.cls.1 ∧ field 9 1 = v.record.cells ∧ field 10 2 = v.record.capacity ∧ field 12 3 = v.record.declared
      ∧ field 15 2 = v.record.mass := by
  have horigin : portCode v.record.origin = if v.record.origin = .line then 0 else 1 := by cases v.record.origin <;> rfl
  refine ⟨v.field 0 rfl rfl v.slot.2, v.field 1 rfl rfl (Nat.lt_of_lt_of_eq htag (by simp)), ?_,
    v.field 3 rfl rfl (Nat.lt_trans v.record.cls.2 (by decide)), v.field 4 rfl rfl hcells,
    v.field 5 rfl rfl (Nat.lt_of_lt_of_eq hcap (by simp)), v.field 6 rfl rfl (Nat.lt_of_lt_of_eq hdecl (by simp)),
    v.field 7 rfl rfl (Nat.lt_of_lt_of_eq hmass (by simp))⟩
  rw [← horigin]
  exact v.field 2 rfl rfl (by cases v.record.origin <;> decide)

/-- The fields of a record from its energy to its bay (Table 10-3). -/
theorem RecView.middle_fields (henergy : v.record.energy < 16777216) :
    let field := fun place width => bytesNum ((v.bytes.drop place).take width)
    let bit := fun (on : Bool) (n : Nat) => if on then 2 ^ n else 0
    let f := v.record.flags
    field 17 3 = v.record.energy ∧ stageOf (field 20 1) = some v.record.stage
      ∧ field 21 2 = bit f.damaged 0 + bit f.isolationFault 1 + bit f.overtemp 2 + bit f.openConnection 3
          + bit f.interrupted 4 + bit f.reboundLimit 5 + bit f.quarantine 6 + bit f.gateReturned 7 + bit f.recovered 8
      ∧ field 23 1 = bit v.record.bay.isSome 0 + bit v.record.rest.isSome 1 + bit v.perCell.isSome 2 + bit v.position.isSome 3
      ∧ field 24 1 = (v.record.bay.map (fun b => b.1)).getD 0 := by
  intro field bit f
  have hstage : field 20 1 = v.record.stage.code := v.field 9 rfl rfl (by cases v.record.stage <;> decide)
  have hbay : (v.record.bay.map (fun b => b.1)).getD 0 < 256 := by
    cases v.record.bay with
    | none => decide
    | some b => exact Nat.lt_trans b.2 (by decide)
  exact ⟨v.field 8 rfl rfl (Nat.lt_of_lt_of_eq henergy (by simp)), by rw [hstage, stageOf_code],
    (v.field 10 rfl rfl f.code_lt).trans f.code_eq, (v.field 11 rfl rfl (setCode_four_lt _ _ _ _)).trans (setCode_four _ _ _ _),
    v.field 12 rfl rfl hbay⟩

/-- The fields of a record from its rest voltage on (Table 10-3). -/
theorem RecView.last_fields (hreb : v.record.rebounds < 256) (hres : v.residual < 16777216)
    (hrest : ∀ n, v.record.rest = some n → n < 65536) (hcell : ∀ n, v.perCell = some n → n < 16777216)
    (hpos : ∀ n, v.position = some n → n < 256) :
    let field := fun place width => bytesNum ((v.bytes.drop place).take width)
    field 25 2 = v.record.rest.getD 0 ∧ field 27 1 = v.record.rebounds ∧ field 28 3 = v.residual ∧ field 31 3 = v.perCell.getD 0
      ∧ field 34 1 = v.zone.1 ∧ field 35 1 = v.position.getD 0 :=
  ⟨v.field 13 rfl rfl (Nat.lt_of_lt_of_eq (getD_lt hrest (by decide)) (by simp)), v.field 14 rfl rfl hreb,
    v.field 15 rfl rfl (Nat.lt_of_lt_of_eq hres (by simp)), v.field 16 rfl rfl (Nat.lt_of_lt_of_eq (getD_lt hcell (by decide)) (by simp)),
    v.field 17 rfl rfl (Nat.lt_trans v.zone.2 (by decide)), v.field 18 rfl rfl (getD_lt hpos (by decide))⟩

end Fields

/-! ### A channel of READ_ZONE -/

theorem bytesNum_one {n : Nat} (h : n < 256) : bytesNum [BitVec.ofNat 8 n] = n := by
  rw [← numBytes_one, bytesNum_numBytes (by simpa using h)]

theorem optNum_one (n : Option Nat) : optNum 1 n = [if n.isSome then 1 else 0, BitVec.ofNat 8 (n.getD 0)] := by
  cases n <;> simp [optNum, optBytes, numBytes_one]

theorem optBytes_flag (x : Option Bool) :
    optBytes 1 flagByte x = [if x.isSome then 1 else 0, if x = some true then 1 else 0] := by
  rcases x with _ | b
  · rfl
  · cases b <;> rfl

/-- A reading that may be absent (R181). -/
def readingBytes (x : Option Int) : List Byte :=
  match x with
  | some v => [1, BitVec.ofNat 8 ((v % 65536).toNat / 256), BitVec.ofNat 8 (v % 65536).toNat]
  | none => [0, 0, 0]

theorem optBytes_reading (x : Option Int) : optBytes 2 (intBytes 2) x = readingBytes x := by
  cases x with
  | none => rfl
  | some v => simp [optBytes, intBytes, readingBytes, intCode, fieldSize, numBytes]

theorem readingBytes_three (x : Option Int) : ∃ r1 r2 r3, readingBytes x = [r1, r2, r3] := by
  cases x with
  | none => exact ⟨_, _, _, rfl⟩
  | some v => exact ⟨_, _, _, rfl⟩

/-- The bytes of a channel, one for each place (R170). -/
theorem ChanView.bytes_eq (c : ChanView) {r1 r2 r3 : Byte} (h : readingBytes c.reading = [r1, r2, r3]) : c.bytes =
    [BitVec.ofNat 8 c.kind.code, BitVec.ofNat 8 c.source, BitVec.ofNat 8 c.state.code, r1, r2, r3, BitVec.ofNat 8 c.alarmRun,
      BitVec.ofNat 8 c.warnRun, BitVec.ofNat 8 c.quietRun, if c.age.isSome then 1 else 0, BitVec.ofNat 8 (c.age.getD 0),
      if (c.scans.bind Prod.fst).isSome then 1 else 0, if c.scans.bind Prod.fst = some true then 1 else 0,
      if (c.scans.bind Prod.snd).isSome then 1 else 0, if c.scans.bind Prod.snd = some true then 1 else 0] := by
  simp only [ChanView.bytes, numBytes_one, optBytes_reading, optBytes_flag, optNum_one, h, List.append_assoc, List.cons_append,
    List.nil_append]

/-! ### The Line Port -/

theorem State.lineReturns_length (s : State) (k n : Nat) : (s.lineReturns k n).length = n := by
  simp [State.lineReturns]

theorem PortState.answerBytes_none {x : PortState} (h : ∀ a sent, x.inFlight ≠ some (.answered a sent)) : x.answerBytes = [] := by
  unfold PortState.answerBytes
  split
  · next a sent k => exact absurd k (h a sent)
  · rfl
  · rfl

theorem PortState.answerBytes_ready {x : PortState} {a : Answer} {sent : Bool} (h : x.inFlight = some (.answered a sent))
    (hd : x.answerDone = false) : x.answerBytes = a.bytes := by
  unfold PortState.answerBytes
  rw [h, hd]
  rfl

/-- The bytes that the Line Port returns, one by one (R183). -/
theorem State.lineReturns_get (s : State) {k n i : Nat} (h : i < n) :
    (s.lineReturns k n)[i]? = some ((s.line.answerBytes[k + i]?).getD 0) := by
  rw [State.lineReturns, List.getElem?_take_of_lt h, List.getElem?_append]
  split
  · next hi =>
    rw [List.getElem?_drop]
    rw [List.length_drop] at hi
    rw [List.getElem?_eq_getElem (by omega)]
    rfl
  · next hi =>
    rw [List.length_drop] at hi
    rw [List.getElem?_replicate_of_lt (by rw [List.length_drop]; omega), List.getElem?_eq_none (by omega)]
    rfl

/-- Settles O58: each frame by its layout. -/
theorem answersAreSentByTheirTables : Obligations.AnswersAreSentByTheirTables := by
  refine ⟨fun a => ?_, rfl, fun v htag hcells hcap hdecl hmass henergy hreb hres hrest hcell hpos => ?_, fun x b hl hs => ?_, fun c hsrc har hwr hqr hage => ?_,
    fun soft line effective => ?_, fun c oc hr => ?_, fun s k n => ?_⟩
  · intro flags body
    have hbody : a.body = body := a.body_eq
    refine ⟨by rw [a.bytes_eq, hbody], fun he => ?_⟩
    have hlen : a.body.length = 3 := by rw [a.body_eq, he, Results.bytes]; rfl
    rw [a.bytes_eq, hlen]
    exact ⟨by simp [hlen, crcBytes], rfl⟩
  · intro r field bit
    obtain ⟨h1, h2, h3, h4, h5, h6, h7, h8⟩ := v.first_fields htag hcells hcap hdecl hmass
    obtain ⟨h9, h10, h11, h12, h13⟩ := v.middle_fields henergy
    obtain ⟨h14, h15, h16, h17, h18, h19⟩ := v.last_fields hreb hres hrest hcell hpos
    exact ⟨v.bytes_length, h1, h2, h3, h4, h5, h6, h7, h8, h9, h10, h11, h12, h13, h14, h15, h16, h17, h18, h19⟩
  · intro kind data
    have hkind : x.kind.code = kind := by simp only [kind]; cases x.kind <;> rfl
    have hdata : numBytes 1 b.1 ++ numBytes 1 x.kind.code ++ numBytes 1 (x.level + 16 * x.step) = data := by
      rw [numBytes_one, numBytes_one, numBytes_one, hkind]
      rfl
    rw [BayAnswer.bytes, hdata]
  · intro field item
    obtain ⟨r1, r2, r3, hr⟩ := readingBytes_three c.reading
    have hbytes := c.bytes_eq hr
    have hkind : c.kind.code < 256 := by cases c.kind <;> decide
    have hstate : c.state.code < 256 := by cases c.state <;> decide
    simp only [field]
    rw [hbytes]
    refine ⟨rfl, (bytesNum_one hkind).trans (by cases c.kind <;> rfl), bytesNum_one hsrc,
      (bytesNum_one hstate).trans (by cases c.state <;> rfl), hr.symm, bytesNum_one har, bytesNum_one hwr, bytesNum_one hqr,
      ?_, bytesNum_one (getD_lt hage (by decide)), rfl⟩
    cases c.age <;> rfl
  · cases soft <;> cases line <;> cases effective <;> rfl
  · rw [Results.bytes, BayCfg.bytes, hr]
    rfl
  · refine ⟨s.lineReturns_length k n, fun h => ?_, fun a sent h hd => ⟨PortState.answerBytes_ready h hd, fun i hi => ?_⟩,
      fun a sent h hd => PortState.answerBytes_ready h hd⟩
    · rw [State.lineReturns, PortState.answerBytes_none h, List.drop_nil, List.nil_append, List.take_replicate, Nat.min_self]
    · rw [s.lineReturns_get hi, PortState.answerBytes_ready h hd]

end Sys2Proof.Machine
end

section
/-!
PROOFS. Reading the frame of a request gives the request back (R181, R182, R193).
-/

namespace Sys2Proof.Machine

variable {i : Instr} {p : Port} {c : Nat} {ops : List Operand} {w : Nat}

/-! ### Operands -/

theorem fieldSize_pos (w : Nat) : 0 < fieldSize w := Nat.pow_pos (by decide)

/-- An operand that fits is sent as a code of its width (R181). -/
theorem Operand.code_lt {o : Operand} (h : o.fits = true) : o.code < 256 ^ o.width := by
  change o.code < fieldSize o.width
  cases o with
  | num w v => exact of_decide_eq_true h
  | int w v =>
    have hpos : (0 : Int) < (fieldSize w : Int) := Int.natCast_pos.mpr (fieldSize_pos w)
    change (v % (fieldSize w : Int)).toNat < fieldSize w
    have h1 := Int.emod_nonneg v (Int.ne_of_gt hpos)
    have h2 := Int.emod_lt_of_pos v hpos
    omega
  | opt w v =>
    cases v with
    | none => exact Nat.sub_lt (fieldSize_pos w) (by decide)
    | some v =>
      have hv : v < fieldSize w - 1 := of_decide_eq_true h
      exact Nat.lt_of_lt_of_le hv (Nat.sub_le _ _)

/-- A signed number reads back from its two's complement (R181). -/
theorem codeInt_intCode {v : Int} (h : (Operand.int 2 v).fits = true) : codeInt 2 (intCode 2 v) = v := by
  have hf : fieldSize 2 = 65536 := rfl
  simp only [Operand.fits, hf, Bool.and_eq_true, decide_eq_true_eq] at h
  simp only [codeInt, intCode, hf]
  split <;> omega

/-- A setting of SET_TIMING reads back, UNCHANGED among them (R181). -/
theorem codeOpt_code {v : Option Nat} (h : (Operand.opt w v).fits = true) : codeOpt w (Operand.opt w v).code = v := by
  cases v with
  | none => exact if_pos rfl
  | some v =>
    have hv : v < fieldSize w - 1 := of_decide_eq_true h
    exact if_neg (Nat.ne_of_lt hv)

/-! ### The fields -/

theorem Operand.bytes_length (o : Operand) : o.bytes.length = o.width := numBytes_length _ _

/-- The operand fields read back as their codes. -/
theorem readFields_operands (h : ops.all Operand.fits = true) :
    readFields (ops.map Operand.width) (ops.flatMap Operand.bytes) = some (ops.map Operand.code) := by
  induction ops with
  | nil => rfl
  | cons o ops ih =>
    rw [List.all_cons, Bool.and_eq_true] at h
    obtain ⟨ho, hops⟩ := h
    have hlen : ¬ (o.bytes ++ ops.flatMap Operand.bytes).length < o.width := by
      rw [List.length_append, (Operand.bytes_length o)]
      omega
    rw [List.map_cons, List.flatMap_cons, readFields, if_neg hlen, List.drop_left' (Operand.bytes_length o), List.take_left' (Operand.bytes_length o), ih hops,
      Operand.bytes, bytesNum_numBytes (Operand.code_lt ho)]
    rfl

/-! ### The frame -/

/-- The checks of R182 pass on the frame that a body makes, with its operand fields. -/
theorem readFrame_requestFrame {code : Byte} {more : List Byte} (h : more.length ≤ 31) {ws : List Nat}
    (hw : requestWidths code.toNat = some ws) (hr : (readFields ws more).bind (requestOf p code.toNat) = some i) :
    readFrame p (requestFrame (code :: more)) = .request i := by
  have hn : (BitVec.ofNat 8 (code :: more).length).toNat = (code :: more).length := by
    rw [BitVec.toNat_ofNat, List.length_cons]
    omega
  have hlen : (code :: more).length = more.length + 1 := List.length_cons
  have hecho : ∀ len, echoOf (0xA5 :: len :: (code :: more ++ crcBytes (len :: code :: more))) = code.toNat := fun _ => rfl
  have hrest : ∀ len, (code :: more ++ crcBytes (len :: code :: more)).length = (code :: more).length + 2 := fun _ => by
    rw [List.length_append]
    rfl
  have hframe : requestFrame (code :: more) = 0xA5 :: BitVec.ofNat 8 (code :: more).length
      :: (code :: more ++ crcBytes (BitVec.ofNat 8 (code :: more).length :: code :: more)) := rfl
  rw [hframe, readFrame]
  rw [hn, List.take_left, List.drop_left, hrest, hecho, if_neg (by simp; omega), hw]
  dsimp only
  rw [List.drop_succ_cons, List.drop_zero, hr]

/-- The code of a request and its operands give the request back (Table 10-4). -/
theorem requestOf_frame (hp : i.port = some p) (hf : i.frame = some (c, ops)) (hfit : ops.all Operand.fits = true) :
    c < 256 ∧ requestWidths c = some (ops.map Operand.width) ∧ (ops.flatMap Operand.bytes).length ≤ 31
      ∧ requestOf p c (ops.map Operand.code) = some i := by
  cases i
  case setZoneConfig q z hw ha hh gw ga gh w =>
    cases hp
    cases hf
    refine ⟨by decide, rfl, Nat.le_of_ble_eq_true rfl, ?_⟩
    simp only [List.all_cons, Bool.and_eq_true] at hfit
    obtain ⟨-, hhw, hha, -⟩ := hfit
    change some (Instr.setZoneConfig p z (codeInt 2 (intCode 2 hw)) (codeInt 2 (intCode 2 ha)) hh gw ga gh w) = _
    rw [codeInt_intCode hhw, codeInt_intCode hha]
  case setTiming q l k r g s =>
    cases hp
    cases hf
    refine ⟨by decide, rfl, Nat.le_of_ble_eq_true rfl, ?_⟩
    simp only [List.all_cons, Bool.and_eq_true] at hfit
    obtain ⟨hl, hk, hr, hg, hs, -⟩ := hfit
    change some (Instr.setTiming p (codeOpt 1 (Operand.opt 1 l).code) (codeOpt 2 (Operand.opt 2 k).code) (codeOpt 1 (Operand.opt 1 r).code)
      (codeOpt 1 (Operand.opt 1 g).code) (codeOpt 2 (Operand.opt 2 s).code)) = _
    rw [codeOpt_code hl, codeOpt_code hk, codeOpt_code hr, codeOpt_code hg, codeOpt_code hs]
  case status | getAttention | setAttentionMask | lockTable | unlockTable | setAccess | register | readRecord | find | scan | amend
      | retire | quarantine | liftQuarantine | confirmShred | readTallies | resetTallies | assignBay | abortBay | setSoftStop
      | setLevelCap | clearFault | readBay | purge | stopChamber | readChamber | enqueue | withdraw | resumeFeed | readQueue
      | clearAlarm | readZone | setClass | setBayConfig | setDetectorMap | setChamberConfig | readSetting =>
    cases hp
    cases hf
    exact ⟨by decide, rfl, Nat.le_of_ble_eq_true rfl, rfl⟩
  all_goals cases hf

/-- Settles O5: the frame checks pass, and the operands read back. -/
theorem requestFramesReadBack : Obligations.RequestFramesReadBack := by
  intro i p bytes hwf hp henc
  rw [encodeRequest, requestBody] at henc
  cases hf : i.frame with
  | none => rw [hf] at henc; cases henc
  | some q =>
    obtain ⟨c, ops⟩ := q
    rw [hf] at henc
    obtain rfl : requestFrame (BitVec.ofNat 8 c :: ops.flatMap Operand.bytes) = bytes := Option.some.inj henc
    have hfit : ops.all Operand.fits = true := by
      rw [Instr.wf, hf] at hwf
      exact hwf
    obtain ⟨hc, hw, hlen, hreq⟩ := requestOf_frame hp hf hfit
    have hcode : (BitVec.ofNat 8 c).toNat = c := by rw [BitVec.toNat_ofNat]; exact Nat.mod_eq_of_lt hc
    refine readFrame_requestFrame (ws := ops.map Operand.width) hlen (by rw [hcode]; exact hw) ?_
    rw [hcode, readFields_operands hfit]
    exact hreq

end Sys2Proof.Machine
end

section
/-!
PROOFS. The records through the reconciliation of a warm start: the energy and the hazard flags that the bays kept (R29, R47,
R76), and the tallies.
-/

namespace Sys2Proof.Machine

variable {s t : State} {b : BayId} {i : Slot} {r q : Rec} {e : Entry} {w : BayWrite} {n m : Nat} {k j : HazardFlag → Bool}

/-! ### A record with what its bays kept -/

/-- The record with watt-hours added and hazard flags set (R23, R81). -/
def Rec.credited (r : Rec) (n : Nat) (k : HazardFlag → Bool) : Rec :=
  { r with
    energy := min 999999 (r.energy + n)
    flags := { r.flags with
      isolationFault := r.flags.isolationFault || k .isolationFault
      overtemp := r.flags.overtemp || k .overtemp
      openConnection := r.flags.openConnection || k .openConnection } }

/-- The entry that names the record of a slot. -/
def Rec.entryAt (r : Rec) (i : Slot) : Entry := { slot := i, tag := r.tag }

theorem Rec.credited_none (h : r.energy ≤ 999999) : r.credited 0 (fun _ => false) = r := by
  simp [Rec.credited, Nat.min_eq_right h]

theorem Rec.credited_credited : (r.credited n k).credited m j = r.credited (n + m) (fun f => k f || j f) := by
  have he : min 999999 (min 999999 (r.energy + n) + m) = min 999999 (r.energy + (n + m)) := by omega
  simp only [Rec.credited, he, Bool.or_assoc]

theorem Rec.credited_energy_le : (r.credited n k).energy ≤ 999999 := Nat.min_le_left _ _

theorem Rec.credited_energy (r : Rec) (n : Nat) : r.credited n (fun _ => false) = { r with energy := satAdd 999999 r.energy n } := by
  simp [Rec.credited, satAdd]

theorem Rec.credited_hazard (h : r.energy ≤ 999999) (f : HazardFlag) :
    r.credited 0 (fun g => decide (g = f)) = { r with flags := r.flags.hazard f } := by
  cases f <;> simp [Rec.credited, RecFlags.hazard, Nat.min_eq_right h]

/-! ### The writes of a bay -/

/-- A named record changed, seen from the record of a slot (R8). -/
theorem State.setRecord_named (hr : s.record i = some r) (hq : s.named e = some q) (x : Rec) :
    (s.setRecord e.slot (some x)).record i = some (if e = r.entryAt i then x else r) := by
  obtain ⟨hrec, htag⟩ := State.named_record hq
  rw [State.record_setRecord]
  by_cases hi : i = e.slot
  · subst hi
    obtain rfl : r = q := Option.some.inj (hr.symm.trans hrec)
    rw [if_pos rfl, if_pos]
    cases e
    simp_all [Rec.entryAt]
  · rw [if_neg hi, hr, if_neg]
    rintro rfl
    exact hi rfl

theorem State.named_entryAt (hr : s.record i = some r) : s.named (r.entryAt i) = some r := by
  simp [State.named, Rec.entryAt, hr]

/-- A retained write, seen from the record of a slot (R8, R47). -/
theorem State.makeRetained_record (hr : s.record i = some r) (hb : r.energy ≤ 999999) :
    (s.makeRetained w).record i = some (r.credited (if w = .carry (r.entryAt i) then 1 else 0)
      (fun f => decide (w = .flag (r.entryAt i) f))) := by
  have hkeep : ∀ (w : BayWrite), w ≠ .carry (r.entryAt i) → (∀ f, w ≠ .flag (r.entryAt i) f) →
      r.credited (if w = .carry (r.entryAt i) then 1 else 0) (fun f => decide (w = .flag (r.entryAt i) f)) = r := by
    intro w h1 h2
    simpa only [if_neg h1, decide_eq_false (h2 _)] using Rec.credited_none hb
  cases w with
  | carry e =>
    rw [State.makeRetained]
    unfold State.makeCarry
    cases hq : s.named e with
    | none =>
      have hne : e ≠ r.entryAt i := fun h => by rw [h, State.named_entryAt hr] at hq; cases hq
      rw [hkeep _ (by simpa using hne) (by simp)]
      exact hr
    | some q =>
      refine (State.setRecord_named hr hq { q with energy := satAdd 999999 q.energy 1 }).trans ?_
      by_cases he : e = r.entryAt i
      · subst he
        obtain rfl : r = q := Option.some.inj ((State.named_entryAt hr).symm.trans hq)
        simpa using (Rec.credited_energy r 1).symm
      · rw [if_neg he, hkeep _ (by simpa using he) (by simp)]
  | flag e f =>
    rw [State.makeRetained]
    unfold State.makeFlag
    cases hq : s.named e with
    | none =>
      have hne : e ≠ r.entryAt i := fun h => by rw [h, State.named_entryAt hr] at hq; cases hq
      rw [hkeep _ (by simp) (by simp [hne])]
      exact hr
    | some q =>
      refine (State.setRecord_named hr hq { q with flags := q.flags.hazard f }).trans ?_
      by_cases he : e = r.entryAt i
      · subst he
        obtain rfl : r = q := Option.some.inj ((State.named_entryAt hr).symm.trans hq)
        have hf : (fun g => decide (BayWrite.flag (r.entryAt i) f = .flag (r.entryAt i) g)) = fun g => decide (g = f) :=
          funext fun g => by simp [eq_comm]
        rw [if_pos rfl, hf, if_neg (by simp), Rec.credited_hazard hb]
      · rw [if_neg he, hkeep _ (by simp) (by simp [he])]
  | stage _ | unbind _ =>
    rw [hkeep _ (by simp) (by simp)]
    exact hr

/-- The retained writes of a list, seen from the record of a slot (R47). -/
theorem State.makeRetaineds_record (l : List BayWrite) (hr : s.record i = some r) (hb : r.energy ≤ 999999) :
    (l.foldl State.makeRetained s).record i = some (r.credited (l.count (.carry (r.entryAt i)))
      (fun f => l.contains (.flag (r.entryAt i) f))) := by
  induction l generalizing s r with
  | nil => simpa [Rec.credited_none hb] using hr
  | cons w l ih =>
    have h := ih (State.makeRetained_record (w := w) hr hb) Rec.credited_energy_le
    rw [List.foldl_cons, h, Rec.credited_credited]
    have hcount : (if w = .carry (r.entryAt i) then 1 else 0) + l.count (.carry (r.entryAt i)) = (w :: l).count (.carry (r.entryAt i)) := by
      by_cases hw : w = .carry (r.entryAt i) <;> simp [hw, Nat.add_comm]
    have hflag : ∀ f, (decide (w = .flag (r.entryAt i) f) || l.contains (.flag (r.entryAt i) f))
        = (w :: l).contains (.flag (r.entryAt i) f) := fun f => by
      by_cases hw : w = .flag (r.entryAt i) f
      · simp [hw]
      · simp [hw, Ne.symm hw]
    rw [← hcount, ← funext hflag]
    rfl

theorem State.makeRetaineds_bay (l : List BayWrite) (s : State) (b : BayId) :
    (l.foldl State.makeRetained s).bay b = s.bay b := by
  refine foldl_frame (fun t => t.bay b) State.makeRetained (fun t w => ?_) l s
  unfold State.makeRetained
  split
  · unfold State.makeCarry; split <;> rfl
  · unfold State.makeFlag; split <;> rfl
  all_goals rfl

/-! ### A bay -/

/-- What a bay adds to the energy of a record (R76, R81, R82). -/
def Bay.keptEnergy (x : Bay) (e : Entry) : Nat :=
  x.writes.count (.carry e) + if x.binding = some e ∧ 18000000 ≤ x.frac then 1 else 0

theorem State.roundBay_record (hr : s.record i = some r) (hb : r.energy ≤ 999999) : (s.roundBay b).record i
    = some (r.credited (if (s.bay b).binding = some (r.entryAt i) ∧ 18000000 ≤ (s.bay b).frac then 1 else 0) (fun _ => false)) := by
  have hkeep : (s.bay b).binding ≠ some (r.entryAt i) → r.credited (if (s.bay b).binding = some (r.entryAt i)
      ∧ 18000000 ≤ (s.bay b).frac then 1 else 0) (fun _ => false) = r := fun h => by
    rw [if_neg fun k => h k.1, Rec.credited_none hb]
  unfold State.roundBay
  cases he : (s.bay b).binding with
  | none =>
    rw [he] at hkeep
    rw [hkeep (by simp)]
    exact hr
  | some e =>
    rw [he] at hkeep
    dsimp only
    cases hq : s.named e with
    | none =>
      rw [hkeep fun h => by rw [Option.some.inj h, State.named_entryAt hr] at hq; cases hq]
      exact hr
    | some q =>
      refine (State.setRecord_named hr hq { q with energy := satAdd 999999 q.energy (roundUp (s.bay b).frac) }).trans ?_
      by_cases hi : e = r.entryAt i
      · subst hi
        obtain rfl : r = q := Option.some.inj ((State.named_entryAt hr).symm.trans hq)
        simp [Rec.credited_energy, roundUp]
      · rw [if_neg hi, hkeep (by simpa using hi)]

/-- The reconciliation of a bay, seen from the record of a slot (R76). -/
theorem State.reconcileBay_record (hr : s.record i = some r) (hb : r.energy ≤ 999999) : (s.reconcileBay b).record i
    = some (r.credited ((s.bay b).keptEnergy (r.entryAt i)) (fun f => (s.bay b).writes.contains (.flag (r.entryAt i) f))) := by
  have h := State.roundBay_record (b := b) (State.makeRetaineds_record (s.bay b).writes hr hb) Rec.credited_energy_le
  rw [State.makeRetaineds_bay, Rec.credited_credited] at h
  simp only [Bool.or_false] at h
  exact h

/-- The reconciliation of a list of bays, seen from the record of a slot (R76). -/
theorem State.reconcileBays_record {l : List BayId} (hl : l.Nodup) (hr : s.record i = some r) (hb : r.energy ≤ 999999) :
    (l.foldl State.reconcileBay s).record i = some (r.credited (l.map fun b => (s.bay b).keptEnergy (r.entryAt i)).sum
      (fun f => l.any fun b => (s.bay b).writes.contains (.flag (r.entryAt i) f))) := by
  induction l generalizing s r with
  | nil => simpa [Rec.credited_none hb] using hr
  | cons b l ih =>
    obtain ⟨hn, hl⟩ := List.nodup_cons.mp hl
    have h := ih hl (State.reconcileBay_record (b := b) hr hb) Rec.credited_energy_le
    have hother : ∀ a ∈ l, (s.reconcileBay b).bay a = s.bay a := fun a ha => by
      rw [State.reconcileBay_bay, if_neg]
      rintro rfl
      exact hn ha
    have hsum : (l.map fun a => ((s.reconcileBay b).bay a).keptEnergy (r.entryAt i))
        = l.map fun a => (s.bay a).keptEnergy (r.entryAt i) := List.map_congr_left fun a ha => by rw [hother a ha]
    have hany : ∀ f, (l.any fun a => ((s.reconcileBay b).bay a).writes.contains (.flag (r.entryAt i) f))
        = l.any fun a => (s.bay a).writes.contains (.flag (r.entryAt i) f) := fun f => by
      rw [Bool.eq_iff_iff]
      simp only [List.any_eq_true]
      exact exists_congr fun a => and_congr_right fun ha => by rw [hother a ha]
    rw [List.foldl_cons, h, Rec.credited_credited]
    refine congrArg some (congr (congrArg r.credited ?_) (funext fun f => ?_))
    · exact congrArg ((s.bay b).keptEnergy (r.entryAt i) + ·) (congrArg List.sum hsum)
    · exact congrArg ((s.bay b).writes.contains (.flag (r.entryAt i) f) || ·) (hany f)

/-! ### The whole reconciliation -/

theorem State.reconcile_record_none (h : s.record i = none) : s.reconcile.record i = none := by
  simpa [h] using s.reconcile_core i

/-- A record through a reconciliation (R29, R76). -/
theorem State.reconcile_record (hr : s.record i = some r) (hb : r.energy ≤ 999999) : s.reconcile.record i
    = some (r.credited ((List.finRange 12).map fun b => (s.bay b).keptEnergy (r.entryAt i)).sum
      (fun f => (List.finRange 12).any fun b => (s.bay b).writes.contains (.flag (r.entryAt i) f))).reconciled := by
  have h := State.reconcileBays_record (List.nodup_finRange 12) hr hb
  have h2 := (State.reconcile_of (fun t => t.record i) (fun _ _ => rfl) s).trans (State.reconcileSlots_record _ i)
  exact h2.trans (congrArg (Option.map Rec.reconciled) h)

/-- The tallies but for the energy total. -/
def State.counts (s : State) : Tallies := { s.tallies with energyTotal := 0 }

theorem State.makeRetained_counts (s : State) (w : BayWrite) : (s.makeRetained w).counts = s.counts := by
  unfold State.makeRetained
  split
  · unfold State.makeCarry; split <;> rfl
  · unfold State.makeFlag; split <;> rfl
  all_goals rfl

theorem State.roundBay_counts (s : State) (b : BayId) : (s.roundBay b).counts = s.counts := by
  unfold State.roundBay
  split
  · split <;> rfl
  · rfl

theorem State.reconcileBay_counts (s : State) (b : BayId) : (s.reconcileBay b).counts = s.counts :=
  (State.roundBay_counts _ b).trans (foldl_frame State.counts State.makeRetained State.makeRetained_counts _ s)

theorem State.reconcile_counts (s : State) : s.reconcile.counts = s.counts := by
  rw [State.reconcile_of State.counts (fun _ _ => rfl), foldl_frame State.counts State.reconcileSlot
    (fun t k => State.reconcileSlot_frame State.counts (fun _ _ _ => rfl) (fun _ _ => rfl) t k)]
  exact foldl_frame State.counts State.reconcileBay State.reconcileBay_counts _ s

/-- The reconciliation changes the energy total alone, by the carries (R23). -/
theorem State.reconcile_tallies (s : State) :
    s.reconcile.tallies = { s.tallies with energyTotal := s.reconcile.tallies.energyTotal } := by
  have h := s.reconcile_counts
  simp only [State.counts, Tallies.mk.injEq] at h
  generalize s.reconcile.tallies = x at h
  cases x
  simp_all

end Sys2Proof.Machine
end

section
/-!
PROOFS. The sweeps made before a start ends, on records as a reconciliation leaves them (R172, R197).
-/

namespace Sys2Proof.Machine

variable {s t u : State} {z : ZoneId} {i : Slot} {r q : Rec} {e : Entry} {l : List ZoneId}

/-! ### What every sweep leaves -/

/-- What a sweep leaves of a state: the input lines, the access settings, the settings, the tallies, the masks of the ports and
the states of the zones. -/
def State.unswept (s : State) : Lines × AccessSettings × Settings × Tallies × BitVec 6 × BitVec 6 × (ZoneId → ZoneState) :=
  (s.lines, s.access, s.settings, s.tallies, s.line.mask, s.plant.mask, fun z => (s.zone z).state)

theorem State.raise_unswept (s : State) (f : Attn → Attn) : (s.raise f).unswept = s.unswept := by
  cases hr : s.running with
  | false => simp [State.raise, State.raisePort, hr]
  | true => rw [s.raise_eq hr]; rfl

theorem State.addHold_unswept (s : State) (b : BayId) (c : HoldCause) : (s.addHold b c).unswept = s.unswept := by
  unfold State.addHold
  dsimp only
  split
  · rfl
  · split
    · exact State.raise_unswept _ _
    · rfl

theorem State.sweepRecord_unswept (s : State) (z : ZoneId) (i : Slot) : (s.sweepRecord z i).unswept = s.unswept := by
  have hhold : ∀ (t : State) r, (t.holdForQuarantine r).unswept = t.unswept := fun t r => by
    unfold State.holdForQuarantine
    split
    · exact State.addHold_unswept _ _ _
    · rfl
  have hpull : ∀ r, (s.pullFromFeed i r).unswept = s.unswept := fun r => by
    unfold State.pullFromFeed
    dsimp only
    split <;> rfl
  unfold State.sweepRecord
  split
  · rfl
  · split
    iterate 3
      split
      · exact hhold _ _
      · rfl
    iterate 2
      split <;> rfl
    iterate 2
      split
      · exact hpull _
      · rfl
    all_goals split <;> rfl

theorem State.sweeps_unswept (s : State) (z : ZoneId) : (s.sweeps z).unswept = s.unswept := by
  have h : (s.sweepRecords z).unswept = s.unswept := foldl_frame State.unswept _ (fun t i => t.sweepRecord_unswept z i) _ s
  have hatt : ((s.sweepRecords z).sweepAttention s z).unswept = s.unswept := by
    unfold State.sweepAttention
    split
    · exact (State.raise_unswept _ _).trans h
    · exact h
  obtain ⟨w, a, hwa, _⟩ := ((s.sweepRecords z).sweepAttention s z).evalAdmission_asked
  unfold State.sweeps
  rw [hwa]
  exact hatt

/-- No pass write waits (R143). -/
def State.NoPass (s : State) : Prop := ∀ e, FeedWrite.pass e ∉ s.arb.feedWrites

theorem State.evalAdmission_noPass (h : s.NoPass) : s.evalAdmission.NoPass := by
  unfold State.evalAdmission
  split
  · split
    · intro e he
      rw [State.askFeed_eq] at he
      rcases List.mem_append.mp he with he | he
      · exact h e he
      · simp at he
    · exact h
  · exact h

theorem State.sweeps_noPass (s : State) (z : ZoneId) (h : s.NoPass) : (s.sweeps z).NoPass := by
  have ha := (s.sweepRecords_swept z).arb
  unfold State.sweeps
  revert ha
  generalize s.sweepRecords z = q
  intro ha
  obtain ⟨x, y, hxy, _⟩ := q.sweepAttention_frame s z
  have hq : q.NoPass := fun e he => h e (by rwa [ha] at he)
  rw [hxy]
  exact State.evalAdmission_noPass hq

theorem State.sweepBegun_unswept {rest : List ZoneId} (s : State) (z : ZoneId) : (s.sweepBegun z rest).unswept = s.unswept := by
  have hz : (fun a => ((s.sweepBegun z rest).zone a).state) = fun a => (s.zone a).state := funext fun a => by
    rw [State.sweepBegun, State.zone_setZone]
    split
    · next h => rw [h]
    · rfl
  exact congrArg (fun g => (s.lines, s.access, s.settings, s.tallies, s.line.mask, s.plant.mask, g)) hz

/-! ### The records of a settled table -/

/-- The stages that a reconciliation leaves (R29). -/
def Stage.Settled (g : Stage) : Prop := g = .waiting ∨ g = .discharged ∨ g = .queued ∨ g = .shredUnconfirmed

/-- A settled record after the sweeps of a list of zones (R165 to R167). -/
def Rec.sweptAll (l : List ZoneId) (r : Rec) : Rec :=
  match r.stage with
  | .waiting | .discharged => if l.contains 4 then r.quarantined else r
  | .queued => if l.contains 5 then { r.quarantined with stage := .discharged } else r
  | .shredUnconfirmed => if l.contains 6 then r.quarantined else r
  | .probing | .discharging | .resting | .atGate | .inShredder => r

theorem Rec.sweptAll_nil (r : Rec) : r.sweptAll [] = r := by
  unfold Rec.sweptAll
  cases r.stage <;> rfl

theorem Rec.sweptBy_resting (h : r.stage = .waiting ∨ r.stage = .discharged) :
    r.sweptBy z = if z = 4 then r.quarantined else r := by
  rw [Rec.sweptBy]
  rcases h with h | h <;> rw [h] <;> rfl

theorem Rec.sweptBy_queued (h : r.stage = .queued) :
    r.sweptBy z = if z = 5 then { r.quarantined with stage := .discharged } else r := by
  rw [Rec.sweptBy, h]
  rfl

theorem Rec.sweptBy_unconfirmed (h : r.stage = .shredUnconfirmed) : r.sweptBy z = if z = 6 then r.quarantined else r := by
  rw [Rec.sweptBy, h]
  rfl

theorem Rec.sweptAll_resting (h : r.stage = .waiting ∨ r.stage = .discharged) :
    r.sweptAll l = if l.contains 4 then r.quarantined else r := by
  rw [Rec.sweptAll]
  rcases h with h | h <;> rw [h]

theorem Rec.sweptAll_queued (h : r.stage = .queued) :
    r.sweptAll l = if l.contains 5 then { r.quarantined with stage := .discharged } else r := by
  rw [Rec.sweptAll, h]

theorem Rec.sweptAll_unconfirmed (h : r.stage = .shredUnconfirmed) :
    r.sweptAll l = if l.contains 6 then r.quarantined else r := by
  rw [Rec.sweptAll, h]

/-- A record in the queue is pulled from it by the sweeps of a list of zones (R166). -/
def Rec.pulledAll (l : List ZoneId) (r : Rec) : Bool := l.contains 5 && decide (r.stage = .queued)

/-- The sweep of a zone and then those of a list, on a settled record (R165 to R167). -/
theorem Rec.sweptAll_cons (h : r.stage.Settled) : (r.sweptBy z).stage.Settled ∧ (r.sweptBy z).sweptAll l = r.sweptAll (z :: l)
    ∧ (r.pulledBy z || (r.sweptBy z).pulledAll l) = r.pulledAll (z :: l) ∧ r.lostBy z = false := by
  have hmark : ∀ c : ZoneId, r.sweptBy z = (if z = c then r.quarantined else r) →
      (∀ l (q : Rec), q.stage = r.stage → q.sweptAll l = if l.contains c then q.quarantined else q) → r.stage ≠ .queued →
      r.stage ≠ .inShredder → r.stage ≠ .atGate → (r.sweptBy z).stage.Settled ∧ (r.sweptBy z).sweptAll l = r.sweptAll (z :: l)
      ∧ (r.pulledBy z || (r.sweptBy z).pulledAll l) = r.pulledAll (z :: l) ∧ r.lostBy z = false := by
    intro c hby hall hq hs hg
    have hst : (r.sweptBy z).stage = r.stage := by rw [hby]; split <;> rfl
    refine ⟨by rw [hst]; exact h, ?_, by simp [Rec.pulledBy, Rec.pulledAll, hst, hq, hg], by simp [Rec.lostBy, hs]⟩
    rw [hall l _ hst, hall _ r rfl, hby]
    by_cases hc : z = c
    · subst hc
      simp [Rec.quarantined]
    · simp [hc, Ne.symm hc]
  rcases h with hs | hs | hs | hs
  · exact hmark 4 (Rec.sweptBy_resting (.inl hs)) (fun l q hq => Rec.sweptAll_resting (.inl (hq.trans hs)))
      (by simp [hs]) (by simp [hs]) (by simp [hs])
  · exact hmark 4 (Rec.sweptBy_resting (.inr hs)) (fun l q hq => Rec.sweptAll_resting (.inr (hq.trans hs)))
      (by simp [hs]) (by simp [hs]) (by simp [hs])
  · rw [Rec.sweptBy_queued hs, Rec.sweptAll_queued hs]
    by_cases hz : z = 5
    · subst hz
      rw [if_pos rfl, Rec.sweptAll_resting (.inr rfl)]
      simp [Rec.quarantined, Stage.Settled, Rec.pulledBy, Rec.pulledAll, Rec.lostBy, hs]
    · rw [if_neg hz, Rec.sweptAll_queued hs]
      simp [hs, Stage.Settled, Rec.pulledBy, Rec.pulledAll, Rec.lostBy, hz, Ne.symm hz]
  · exact hmark 6 (Rec.sweptBy_unconfirmed hs) (fun l q hq => Rec.sweptAll_unconfirmed (hq.trans hs))
      (by simp [hs]) (by simp [hs]) (by simp [hs])

/-! ### The sweeps of a list of zones -/

/-- Every live record is in a stage that a reconciliation leaves (R29). -/
def State.RecordsSettled (s : State) : Prop := ∀ i r, s.record i = some r → r.stage.Settled

/-- What the sweeps of a list of zones leave (R165 to R167). -/
structure State.SweptAll (l : List ZoneId) (s t : State) : Prop where
  record : ∀ i, t.record i = (s.record i).map (Rec.sweptAll l)
  queue : t.feed.queue = s.feed.queue.filter (fun e => !(s.record e.slot).any (Rec.pulledAll l))
  path : t.feed.path = s.feed.path
  unswept : t.unswept = s.unswept

theorem State.SweptAll.nil (s : State) : s.SweptAll [] s where
  record i := by
    rw [show Rec.sweptAll [] = id from funext Rec.sweptAll_nil, Option.map_id, id]
  queue := by
    rw [show Rec.pulledAll [] = fun _ => false from funext fun _ => rfl]
    exact filter_of_all fun e => by simp
  path := rfl
  unswept := rfl

/-- One sweep on a settled table with no pass write waiting (R165). -/
theorem State.makeSweep_settled {rest : List ZoneId} (hs : s.arb.sweeps = z :: rest) (hn : s.NoPass) (hst : s.RecordsSettled) :
    let t := s.popSweep.makeSweep z
    t.arb.sweeps = rest ∧ t.NoPass ∧ (∀ i, t.record i = (s.record i).map (Rec.sweptBy z))
      ∧ t.feed.queue = s.feed.queue.filter (fun e => !(s.record e.slot).any (Rec.pulledBy z))
      ∧ t.feed.path = s.feed.path ∧ t.unswept = s.unswept := by
  have hmake : s.popSweep.makeSweep z = (s.sweepBegun z rest).sweeps z := by
    rw [State.makeSweep_popped hs, State.makeWaitingPass_none (by exact hn), ite_self]
  have hnp : ((s.sweepBegun z rest).sweeps z).NoPass := State.sweeps_noPass _ z (by exact hn)
  have hun := (State.sweeps_unswept (s.sweepBegun z rest) z).trans (s.sweepBegun_unswept z)
  have h := (s.sweepBegun z rest).sweepRecords_swept z
  obtain ⟨x, y, w, a, heq, hsw, -, -⟩ := (s.sweepBegun z rest).sweeps_frame z
  have hall : ∀ i : Slot, i ∈ Bank.places 256 := List.mem_finRange
  have hlost : ∀ i : Slot, (s.record i).any (Rec.lostBy z) = false := fun i => by
    cases hr : s.record i with
    | none => rfl
    | some r => exact (Rec.sweptAll_cons (l := []) (hst _ r hr)).2.2.2
  rw [hmake]
  revert h hnp hun heq
  generalize (s.sweepBegun z rest).sweepRecords z = t
  generalize (s.sweepBegun z rest).sweeps z = u
  rintro hnp hun h rfl
  refine ⟨hsw, hnp, fun i => (h.record i).trans (if_pos (hall i)), ?_, ?_, hun⟩
  · refine h.queue.trans (List.filter_congr fun e _ => ?_)
    simp only [hall, decide_true, Bool.true_and]
    rfl
  · refine h.path.trans (List.map_id'' (fun x => if_neg ?_) _)
    rw [Bool.not_eq_true, Bool.and_eq_false_iff]
    exact .inr (hlost x.slot)

/-- The sweeps of a list of zones, on a settled table with no pass write waiting (R172, R197). -/
theorem State.sweeps_settled (hs : s.arb.sweeps = l) (hn : s.NoPass) (hst : s.RecordsSettled) :
    s.SweptAll l (l.foldl (fun t z => t.popSweep.makeSweep z) s) := by
  induction l generalizing s with
  | nil => exact .nil s
  | cons z l ih =>
    obtain ⟨hsw, hn', hrec, hqueue, hpath, hun⟩ := State.makeSweep_settled hs hn hst
    rw [List.foldl_cons]
    revert hsw hn' hrec hqueue hpath hun
    generalize s.popSweep.makeSweep z = t
    intro hsw hn' hrec hqueue hpath hun
    have hst' : t.RecordsSettled := fun i q hq => by
      rw [hrec] at hq
      obtain ⟨r, hr, rfl⟩ := Option.map_eq_some_iff.mp hq
      exact (Rec.sweptAll_cons (l := l) (hst i r hr)).1
    have h := ih hsw hn' hst'
    refine ⟨fun i => ?_, ?_, h.path.trans hpath, h.unswept.trans hun⟩
    · rw [h.record, hrec]
      cases hr : s.record i with
      | none => rfl
      | some r => exact congrArg some (Rec.sweptAll_cons (hst i r hr)).2.1
    · rw [h.queue, hqueue, List.filter_filter]
      refine List.filter_congr fun e _ => ?_
      rw [hrec]
      cases hr : s.record e.slot with
      | none => rfl
      | some r =>
        show (!((r.sweptBy z).pulledAll l) && !(r.pulledBy z)) = !(r.pulledAll (z :: l))
        rw [← (Rec.sweptAll_cons (hst _ r hr)).2.2.1, Bool.not_or, Bool.and_comm]

end Sys2Proof.Machine
end

section
/-!
PROOFS. The choice of start and the end of a start (R195, R197).
-/

namespace Sys2Proof.Machine

variable {s t u : State} {z : ZoneId} {i : Slot} {r q : Rec} {e : Entry} {b : BayId} {l : List ZoneId} {k : StartKind} {p : Port}
  {c : Instr}

/-! ### The choice of a start -/

/-- The events at which a start is chosen (R195, R196). -/
theorem exec_startChosen (h : (c = .powerUp ∧ s.phase = .off ∧ s.lines.reset = false) ∨ (c = .resetRelease ∧ s.phase = .inReset)) :
    exec c s = .next (s.setLines { s.lines with reset := false }).chooseStart := by
  rcases h with ⟨rfl, hp, hr⟩ | ⟨rfl, hp⟩
  · have hl : { s.lines with reset := false } = s.lines := by
      generalize s.lines = x at hr
      cases x
      simp_all
    have he : exec .powerUp s = .next s.reachVdd := rfl
    rw [he, hl, State.reachVdd, hp, hr]
    rfl
  · have he : exec .resetRelease s = .next s.releaseReset := rfl
    rw [he, State.releaseReset, hp]

theorem State.chooseStart_cold (h : s.retention = false) :
    s.chooseStart = { s.stopMain.coldValues with phase := .starting .cold } := by
  rw [State.chooseStart, State.startKind, h]
  rfl

theorem State.chooseStart_warm (h : s.retention = true) :
    s.chooseStart = { s.stopMain.reconcile with phase := .starting .warm } := by
  rw [State.chooseStart, State.startKind, h]
  rfl

/-! ### The end of a cold start -/

theorem foldl_unchanged {α β : Type} {f : β → α → β} {x : β} (h : ∀ a, f x a = x) (l : List α) : l.foldl f x = x := by
  induction l with
  | nil => rfl
  | cons a l ih => rw [List.foldl_cons, h, ih]

/-- Where every bay is at its start state, the start of the bays changes nothing (R51). -/
theorem State.startBays_unchanged (h : ∀ b, (s.bay b).started ((s.bayCfg b).rating.isSome) (s.restState b) s.settings.timing.link
    = s.bay b) : s.startBays = s :=
  foldl_unchanged (fun b => by rw [State.modBay, h, State.setBay_self]) _

theorem State.cold_line : (PortState.retained { mask := 0x3D }).started = State.reset.line := rfl

theorem State.cold_plant : (PortState.retained { mask := 0x3F }).started = State.reset.plant := rfl

/-- The chamber at the end of a start, with its door open or closed (R134). -/
theorem Chamber.drive_started (door loaded permit : Bool) (n : Nat) :
    ({ state := if door then .sealed else .doorOpen, loaded := loaded } : Chamber).drive n permit
      = { state := if door then .sealed else .doorOpen, loaded := loaded } := by
  cases door <;> rfl

theorem State.cold_startBays (s : State) : State.startBays (State.stopMain { s.coldValues with phase := .starting .cold })
    = State.stopMain { s.coldValues with phase := .starting .cold } := by
  refine State.startBays_unchanged fun b => ?_
  rw [State.stopMain_bay, State.cold_bay, State.bayCfg]
  have hcfg := s.cold_bayCfg (.starting .cold) b
  rw [State.bayCfg] at hcfg
  rw [show (State.stopMain { s.coldValues with phase := .starting .cold }).settings.bays.get b = {} from hcfg]
  rfl

/-- The end of a cold start is the reset state at the levels of the lines (R197; section 9.8). -/
theorem exec_startEnd_cold (s : State) : exec .startEnd { s.coldValues with phase := .starting .cold } = .next { State.reset with
    pending := s.pending, freeCount := s.freeCount, lines := s.lines
    chamber := { State.reset.chamber with
      state := if s.lines.doorClosed then .sealed else .doorOpen, loaded := !s.lines.throatEmpty } } := by
  have he : exec .startEnd { s.coldValues with phase := .starting .cold }
      = .next (State.completeStart { s.coldValues with phase := .starting .cold } .cold) := rfl
  rw [he, State.completeStart, State.cold_startBays]
  unfold State.driveChamber State.setChamber
  rw [Host.Outcome.next.injEq, State.mk.injEq]
  exact ⟨rfl, rfl, rfl, rfl, rfl, rfl, rfl, rfl, rfl,
    Chamber.drive_started s.lines.doorClosed (!s.lines.throatEmpty) s.lines.plantPermit 400, rfl, rfl, rfl, rfl, rfl,
    State.cold_line, State.cold_plant, rfl, rfl⟩

/-! ### The choice of a warm start -/

theorem State.reconcile_access (s : State) : s.reconcile.access = s.access :=
  s.reconcile_frame State.access (fun _ _ _ => rfl) (fun _ _ => rfl) (fun _ _ _ => rfl) (fun _ _ => rfl) (fun _ _ => rfl)

/-- The sweeps that a warm start asks for again (R47, R172; log entry 17). -/
theorem State.reconcile_sweeps (s : State) :
    s.reconcile.arb.sweeps = (List.finRange 7).filter (fun z => (s.zone z).sweepWaiting) := by
  have hask : ∀ u : State, ((u.setArb { sweeps := u.retainedSweeps }).setAccess (u.setArb { sweeps := u.retainedSweeps }).nextAccess).arb.sweeps
      = (List.finRange 7).filter (fun z => (((u.setArb { sweeps := u.retainedSweeps }).setAccess
        (u.setArb { sweeps := u.retainedSweeps }).nextAccess).zones.get z).sweepWaiting) := fun _ => rfl
  have h : s.reconcile.arb.sweeps = (List.finRange 7).filter (fun z => (s.reconcile.zones.get z).sweepWaiting) := hask _
  rw [h, State.reconcile_zones]
  rfl

theorem State.stopMain_sweepWaiting (s : State) (z : ZoneId) : (s.stopMain.zone z).sweepWaiting = (s.zone z).sweepWaiting := by
  rw [State.zone_stopMain]
  rfl

/-- The carries and flags of a bay are retained (Table 11-1). -/
theorem Bay.retained_kept (x : Bay) (e : Entry) : x.retained.keptEnergy e = x.keptEnergy e
    ∧ ∀ f, x.retained.writes.contains (.flag e f) = x.writes.contains (.flag e f) := by
  refine ⟨?_, fun f => ?_⟩
  · have h : x.retained.writes.count (.carry e) = x.writes.count (.carry e) := List.count_filter rfl
    rw [Bay.keptEnergy, h]
    rfl
  · rw [Bool.eq_iff_iff, List.contains_iff_mem, List.contains_iff_mem]
    exact List.mem_filter.trans (and_iff_left rfl)

/-- What the choice of a warm start keeps, and the energy total that it raises (R28, R47, R135). -/
theorem State.warm_keeps (s : State) : s.stopMain.reconcile.access = s.access ∧ s.stopMain.reconcile.settings = s.settings
    ∧ s.stopMain.reconcile.feed.queue = s.feed.queue
    ∧ s.stopMain.reconcile.tallies = { s.tallies with energyTotal := s.stopMain.reconcile.tallies.energyTotal }
    ∧ s.stopMain.reconcile.arb.sweeps = (List.finRange 7).filter (fun z => (s.zone z).sweepWaiting) := by
  refine ⟨s.stopMain.reconcile_access, s.stopMain.reconcile_settings, s.stopMain.reconcile_feed_queue,
    s.stopMain.reconcile_tallies, s.stopMain.reconcile_sweeps.trans ?_⟩
  simp only [State.stopMain_sweepWaiting]

/-- A record through the choice of a warm start (R29, R47, R76). -/
theorem State.warm_record (hr : s.record i = some r) (hb : r.energy ≤ 999999) : s.stopMain.reconcile.record i
    = some (r.credited ((List.finRange 12).map fun b => (s.bay b).keptEnergy (r.entryAt i)).sum
      (fun f => (List.finRange 12).any fun b => (s.bay b).writes.contains (.flag (r.entryAt i) f))).reconciled := by
  have h := State.reconcile_record (s := s.stopMain) (by exact hr) hb
  simpa only [State.stopMain_bay, (Bay.retained_kept _ _).1, (Bay.retained_kept _ _).2] using h

/-- The record as R29 gives it, by the stage it had. -/
theorem Rec.credited_reconciled (r : Rec) (n : Nat) (k : HazardFlag → Bool) : (r.credited n k).reconciled =
    match r.stage with
    | .probing | .discharging | .resting => { (r.credited n k).broken with stage := .waiting, bay := none }
    | .atGate => { (r.credited n k).returned with stage := .queued }
    | .inShredder => { r.credited n k with stage := .shredUnconfirmed }
    | .waiting | .discharged | .queued | .shredUnconfirmed => r.credited n k := rfl

/-! ### The end of a start -/

theorem State.completeStart_ports (s : State) (k : StartKind) (p : Port) :
    (s.completeStart k).port p = (s.port p).retained.started := by
  cases p
  · exact congrArg PortState.started (s.stopMain.startBays_frame State.line (fun _ _ _ => rfl))
  · exact congrArg PortState.started (s.stopMain.startBays_frame State.plant (fun _ _ _ => rfl))

theorem restartOnly_asserts (m : BitVec 6) : restartOnly.asserts m = m.getLsbD 5 := by
  have hb : restartOnly.bays.1.any (fun d => decide (d ≠ 0)) = false := by decide
  have hz : restartOnly.zones.1.any Option.isSome = false := by decide
  rw [Attn.asserts, hb, hz]
  simp [restartOnly]

/-- ALARM is retained, and only ALARM (R154). -/
theorem Zone.retained_alarm (x : Zone) : x.retained.state = .alarm ↔ x.state = .alarm := by
  unfold Zone.retained
  dsimp only
  split <;> simp_all

theorem State.startBays_alarm (s : State) (z : ZoneId) :
    (s.stopMain.startBays.zone z).state = .alarm ↔ (s.zone z).state = .alarm := by
  have hz : s.stopMain.startBays.zone z = s.stopMain.zone z :=
    s.stopMain.startBays_frame (fun t => t.zone z) (fun _ _ _ => rfl)
  rw [hz, State.zone_stopMain, Zone.retained_alarm]

theorem State.completeStart_block (s : State) (k : StartKind) : (s.completeStart k).feed =
    { queue := s.feed.queue, path := s.feed.path, block := s.startBlock } := by
  have h : s.stopMain.startBays.startBlock = s.startBlock := by
    simp only [State.startBlock, State.startBays_alarm]
  rw [State.completeStart_feed, h]
  rfl

/-- The chamber at the end of a start: its state and status by the zone and the lines, its outputs by its state (R134). -/
theorem State.completeStart_chamber (s : State) (k : StartKind) : (s.completeStart k).chamber =
    ({ state := s.startChamber, loaded := !s.lines.throatEmpty } : Chamber).drive s.settings.chamber.abort s.lines.plantPermit := by
  have hl : s.stopMain.startBays.lines = s.lines := s.stopMain.startBays_frame State.lines (fun _ _ _ => rfl)
  have ht : s.stopMain.startBays.settings = s.settings := s.stopMain.startBays_frame State.settings (fun _ _ _ => rfl)
  have hc : s.stopMain.startBays.startChamber = s.startChamber := by
    unfold State.startChamber
    rw [hl]
    exact ite_of_iff (s.startBays_alarm 6) _ _
  have h : (s.completeStart k).chamber =
      ({ state := s.stopMain.startBays.startChamber, loaded := !s.stopMain.startBays.lines.throatEmpty } : Chamber).drive
        s.stopMain.startBays.settings.chamber.abort s.stopMain.startBays.lines.plantPermit := rfl
  rw [h, hc, hl, ht]

theorem State.startChamber_cases (s : State) : s.startChamber = .fire ∧ (s.zone 6).state = .alarm
    ∨ (s.startChamber = .sealed ∨ s.startChamber = .doorOpen) ∧ (s.zone 6).state ≠ .alarm := by
  unfold State.startChamber
  split
  · next h => exact .inl ⟨rfl, h⟩
  · next h => split <;> simp [h]

/-- The outputs of a chamber at the end of a start (R130, R131). -/
theorem State.startChamber_outputs (s : State) (loaded permit : Bool) (n : Nat) :
    let x := ({ state := s.startChamber, loaded := loaded } : Chamber).drive n permit
    x.shredPermit = false ∧ x.nitrogen = decide ((s.zone 6).state = .alarm) ∧ x.flood = decide ((s.zone 6).state = .alarm) := by
  rcases s.startChamber_cases with ⟨hc, hz⟩ | ⟨hc | hc, hz⟩ <;>
    simp [hc, hz, Chamber.drive, permitOf, ChamberState.nitrogen]

/-- A bay at the end of a start (R51, R75, R76): its soft stop is asserted. -/
theorem State.completeStart_bay_mode (s : State) (k : StartKind) (b : BayId) : ((s.completeStart k).bay b).mode =
    (if (s.bayCfg b).rating = none then .unconfigured
      else if (s.bayCfg b).combine = .or ∨ s.lines.stop.get b = true then .stopped else .idle) := by
  have hrest : s.stopMain.restState b = restOf (s.bayCfg b) (s.lines.stop.get b) true := by
    rw [State.restState_eq, State.stopMain_bay]
    rfl
  rw [State.completeStart_bay, hrest]
  unfold Bay.started restOf
  dsimp only
  cases (s.bayCfg b).rating with
  | none => rfl
  | some n => cases (s.bayCfg b).combine <;> simp

theorem exec_startEnd (h : s.phase = .starting k) : exec .startEnd s = .next (s.remainingSweeps.completeStart k) := by
  have he : exec .startEnd s = .next s.finishStart := rfl
  rw [he, State.finishStart, h]
  rfl

/-- The sweeps that still wait at the end of a start (R172, R197). -/
theorem State.remainingSweeps_swept (h : s.arb.sweeps = [] ∨ (s.arb.feedWrites = [] ∧ s.RecordsSettled)) :
    s.SweptAll s.arb.sweeps s.remainingSweeps := by
  unfold State.remainingSweeps
  rcases h with h | ⟨hf, hs⟩
  · rw [h]
    exact .nil s
  · exact State.sweeps_settled rfl (fun e he => by rw [hf] at he; cases he) hs

/-- What the end of a start leaves, with its sweeps made (R134, R153, R171, R172, R189, R197). -/
theorem State.SweptAll.started (h : s.SweptAll l u) (k : StartKind) :
    (∀ i, (u.completeStart k).record i = (s.record i).map (Rec.sweptAll l))
    ∧ (u.completeStart k).tallies = s.tallies ∧ (u.completeStart k).settings = s.settings
    ∧ (u.completeStart k).access = s.access ∧ (u.completeStart k).lines = s.lines := by
  have hun := h.unswept
  simp only [State.unswept, Prod.mk.injEq] at hun
  obtain ⟨hlines, haccess, hsettings, htallies, -⟩ := hun
  exact ⟨fun i => (u.completeStart_record k i).trans (h.record i),
    (State.completeStart_frame State.tallies (fun _ _ _ => rfl) k (fun _ _ _ _ _ => rfl) u).trans htallies,
    (u.completeStart_settings k).trans hsettings,
    (State.completeStart_frame State.access (fun _ _ _ => rfl) k (fun _ _ _ _ _ => rfl) u).trans haccess,
    (State.completeStart_frame State.lines (fun _ _ _ => rfl) k (fun _ _ _ _ _ => rfl) u).trans hlines⟩

/-- The state of a zone is not a sweep's (R165). -/
theorem State.SweptAll.zone (h : s.SweptAll l u) (z : ZoneId) : (u.zone z).state = (s.zone z).state :=
  congrFun (congrArg (fun p => p.2.2.2.2.2.2) h.unswept) z

theorem State.SweptAll.mask (h : s.SweptAll l u) (p : Port) : (u.port p).mask = (s.port p).mask := by
  cases p
  · exact congrArg (fun p => p.2.2.2.2.1) h.unswept
  · exact congrArg (fun p => p.2.2.2.2.2.1) h.unswept

/-- The feed and the chamber at the end of a start with its sweeps made (R134, R153, R171). -/
theorem State.SweptAll.started_feed (h : s.SweptAll l u) (k : StartKind) : (u.completeStart k).feed =
    { queue := s.feed.queue.filter (fun e => !(s.record e.slot).any (Rec.pulledAll l)), path := s.feed.path, block := s.startBlock } := by
  have hb : u.startBlock = s.startBlock := by simp only [State.startBlock, h.zone]
  rw [State.completeStart_block, h.queue, h.path, hb]

theorem State.SweptAll.started_chamber (h : s.SweptAll l u) (k : StartKind) : (u.completeStart k).chamber =
    ({ state := s.startChamber, loaded := !s.lines.throatEmpty } : Chamber).drive s.settings.chamber.abort s.lines.plantPermit := by
  have hl : u.lines = s.lines := congrArg Prod.fst h.unswept
  have ht : u.settings = s.settings := congrArg (fun p => p.2.2.1) h.unswept
  have hc : u.startChamber = s.startChamber := by
    unfold State.startChamber
    rw [h.zone, hl]
  rw [State.completeStart_chamber, hc, hl, ht]

theorem State.SweptAll.started_bay (h : s.SweptAll l u) (k : StartKind) (b : BayId) :
    ((u.completeStart k).bay b).mode = (if (s.bayCfg b).rating = none then .unconfigured
      else if (s.bayCfg b).combine = .or ∨ s.lines.stop.get b = true then .stopped else .idle)
    ∧ ((u.completeStart k).bay b).softStop = true ∧ ((u.completeStart k).bay b).link = .lost
    ∧ ((u.completeStart k).bay b).periods = s.settings.timing.link := by
  have hl : u.lines = s.lines := congrArg Prod.fst h.unswept
  have ht : u.settings = s.settings := congrArg (fun p => p.2.2.1) h.unswept
  refine ⟨?_, ?_, ?_, ?_⟩
  · rw [State.completeStart_bay_mode, State.bayCfg, hl, ht]
    rfl
  · rw [State.completeStart_bay]
    rfl
  · rw [State.completeStart_bay]
    rfl
  · rw [State.completeStart_bay, ht]
    rfl

theorem State.SweptAll.started_port (h : s.SweptAll l u) (k : StartKind) (p : Port) :
    ((u.completeStart k).port p).mask = (s.port p).mask ∧ ((u.completeStart k).port p).restartMark = true
    ∧ ((u.completeStart k).port p).inFlight = none ∧ ((u.completeStart k).port p).attnLine = (s.port p).mask.getLsbD 5
    ∧ ((u.completeStart k).port p).attn = { restart := true } := by
  rw [State.completeStart_ports, ← h.mask]
  exact ⟨rfl, rfl, rfl, restartOnly_asserts _, rfl⟩

/-- Settles O60: the choice of start by its kind, the reconciliation by `warm_record`, and the end of a start as its sweeps
(`sweeps_settled`) and then the start of every block. -/
theorem startsComeFromTheRetainedState : Obligations.StartsComeFromTheRetainedState := by
  intro s
  refine ⟨fun hp hr => ?_, fun hp => ?_, fun hp => ?_, fun c hc => ⟨fun hret => ?_, fun hret => ?_⟩, fun k hk => ?_⟩
  · have he : exec .powerUp s = .next s.reachVdd := rfl
    rw [he, State.reachVdd, hp, hr]
    rfl
  · have he : exec .powerUp s = .next s.reachVdd := rfl
    rw [he, State.reachVdd]
    cases hq : s.phase with
    | off => exact absurd hq hp
    | inReset | starting _ | running => rfl
  · have he : exec .resetRelease s = .next s.releaseReset := rfl
    rw [he, State.releaseReset]
    cases hq : s.phase with
    | inReset => exact absurd hq hp
    | off | starting _ | running => rfl
  · have hend := exec_startEnd_cold (s.setLines { s.lines with reset := false }).stopMain
    refine ⟨_, exec_startChosen hc, ?_⟩
    rw [State.chooseStart_cold (by exact hret)]
    refine ⟨rfl, fun hl => ?_, rfl, hend⟩
    have hl : (s.setLines { s.lines with reset := false }).stopMain.lines = {} := hl
    rw [hend, hl]
    rfl
  · refine ⟨_, exec_startChosen hc, ?_⟩
    rw [State.chooseStart_warm (by exact hret)]
    have hkeeps := (s.setLines { s.lines with reset := false }).warm_keeps
    have hbay : ∀ b, (s.setLines { s.lines with reset := false }).stopMain.reconcile.bay b = (s.bay b).retained.reconciled :=
      fun b => by
        rw [State.reconcile_bay, State.stopMain_bay]
        rfl
    have hnone : ∀ i, s.record i = none → (s.setLines { s.lines with reset := false }).stopMain.reconcile.record i = none :=
      fun i hn => State.reconcile_record_none (s := (s.setLines { s.lines with reset := false }).stopMain) hn
    have hsome := fun i r => State.warm_record (s := s.setLines { s.lines with reset := false }) (i := i) (r := r)
    generalize (s.setLines { s.lines with reset := false }).stopMain.reconcile = t at hkeeps hbay hnone hsome
    obtain ⟨haccess, hsettings, hqueue, htallies, hsweeps⟩ := hkeeps
    refine ⟨rfl, haccess, hsettings, hqueue, htallies, hsweeps, fun b => ?_, fun i => ⟨hnone i, ?_⟩⟩
    · rw [State.with_phase_bay, hbay]
      exact ⟨rfl, rfl, rfl⟩
    · intro r hr hb e n kept r1
      have hn : ((List.finRange 12).map fun b => (s.bay b).keptEnergy e).sum = n :=
        congrArg List.sum (List.map_congr_left fun b _ => rfl)
      have h : t.record i = some (r.credited n kept).reconciled :=
        (hsome i r hr hb).trans (congrArg (fun m => some (r.credited m kept).reconciled) hn)
      clear_value n kept
      refine h.trans ?_
      rw [Rec.credited_reconciled]
      cases r.stage <;> rfl
  · intro sweeps hpre swept pulled
    have h := State.remainingSweeps_swept hpre
    have hswept : swept = Rec.sweptAll s.arb.sweeps := funext fun r => by
      cases hs : r.stage <;> simp [swept, sweeps, Rec.sweptAll, Rec.quarantined, hs]
    have hpulled : ∀ e, pulled e = (s.record e.slot).any (Rec.pulledAll s.arb.sweeps) := fun e => by
      simp only [pulled]
      cases s.record e.slot with
      | none => exact Bool.and_false _
      | some r => rfl
    have hslots : s.arb.sweeps = [] → (s.remainingSweeps.completeStart k).slots = s.slots := fun hs => by
      rw [State.completeStart_frame State.slots (fun _ _ _ => rfl) k (fun _ _ _ _ _ => rfl), State.remainingSweeps, hs]
      rfl
    refine ⟨_, exec_startEnd hk, rfl, rfl, rfl, hslots, ?_⟩
    rw [hswept]
    simp only [hpulled]
    generalize s.remainingSweeps = u at h
    obtain ⟨hrec, htallies, hsettings, haccess, hlines⟩ := h.started k
    obtain ⟨hpermit, hnitrogen, hflood⟩ := s.startChamber_outputs (!s.lines.throatEmpty) s.lines.plantPermit s.settings.chamber.abort
    rw [h.started_chamber]
    exact ⟨hrec, htallies, hsettings, haccess, hlines,
      State.completeStart_frame State.arb (fun _ _ _ => rfl) k (fun _ _ _ _ _ => rfl) u, h.started_feed k, rfl, rfl, hpermit,
      hnitrogen, hflood, h.started_bay k, h.started_port k⟩

end Sys2Proof.Machine
end
